-- ==== Sys2Proof/Word.lean ====
section
/-! DEFINITION. The byte of the links and of the configuration image, and a value for each of the four classes of water. -/

namespace Sys2Proof

/-- One byte on a link, on the canal line or in the configuration image (chapter 12). -/
abbrev Byte := BitVec 8

/-- A value for each class of water: 1 Senior, 2 Frost, 3 Standard, 4 Surplus (chapter 0, "Classes of water"). -/
structure ByClass where
  c1 : Nat
  c2 : Nat
  c3 : Nat
  c4 : Nat
  deriving DecidableEq, Repr, Inhabited

end Sys2Proof
end

