-- ==== Sys2Proof/Config.lean ====
section
/-! DEFINITION. What one configuration image fixes for the time from one start to the next (chapter 11, R193), and the one value that the
manual leaves open. -/

namespace Sys2Proof.Config

/-- Time quality (section 1.4), numbered from 0 in this order (R187). -/
inductive Quality where
  | set
  | free
  | degraded
  deriving DecidableEq, Repr, Inhabited

/-- FREE VALUE: the quality that a received REACH notice with an undefined quality byte is taken to carry. The checks of
R40 and R190 do not discard such a frame and no rule says what the byte then means. -/
opaque undefinedQuality : Byte → Quality

/-- Action of a trip after its WAITING rest time (section 6.1, R111), numbered from 0 in this order. -/
inductive TripAction where
  | hold
  | close
  | openTo
  deriving DecidableEq, Repr, Inhabited

/-- Section 1 of the image: station (R193; ranges of sections 2.3 and R181). -/
structure Station where
  number : Nat
  minNotice : Nat
  horizon : Nat
  lockTime : Nat
  deriving DecidableEq, Repr, Inhabited

/-- Section 3 of the image: line. `rate` is in bit/s. -/
structure Line where
  rate : Nat
  holdoff : Nat
  noticeInterval : Nat
  changeThreshold : Nat
  deriving DecidableEq, Repr, Inhabited

/-- One configured downstream position (section 4.1). -/
structure Downstream where
  station : Nat
  tau : Nat
  lostFlow : Nat
  deriving DecidableEq, Repr, Inhabited

/-- Section 4 of the image: neighbours. `downstream` holds the formed positions only, in configured order (R52). -/
structure Neighbours where
  upstream : Nat
  downstream : List Downstream
  holdTime : Nat
  deriving DecidableEq, Repr, Inhabited

/-- Section 5 of the image: reach and gate. -/
structure Reach where
  cap : Nat
  loss : Nat
  fallback : Nat
  reachCapacity : Nat
  poolArea : Nat
  lossTolerance : Nat
  cd : Nat
  width : Nat
  aMax : Nat
  encoder : Nat
  deriving DecidableEq, Repr, Inhabited

/-- Section 6 of the image: levels and control. -/
structure Levels where
  target : Nat
  deadZone : Nat
  gain : Nat
  correctionLimit : Nat
  minimum : Nat
  hysteresis : Nat
  guardStep : Nat
  deadband : Nat
  restTime : Nat
  stallTime : Nat
  sampleInterval : Nat
  upHigh : Nat
  downHigh : Nat
  levelTrip : Bool
  tripAction : TripAction
  tripOpening : Nat
  autoResume : Bool
  deriving DecidableEq, Repr, Inhabited

/-- One entry of section 7 of the image: the configured part of a turnout (section 7.1). -/
structure Turnout where
  present : Bool
  inService : Bool
  account : Nat
  capacity : Nat
  litres : Nat
  tau : Nat
  spacing : Nat
  noFlow : Nat
  deriving DecidableEq, Repr, Inhabited

/-- Section 10 of the image: alert settings, with the log threshold. -/
structure Alert where
  threshold : Nat
  masks : BitVec 17
  moderation : Nat
  logThreshold : Nat
  deriving DecidableEq, Repr, Inhabited

/-- The configured values in force from one start to the next. The accounts, the rates and the in-service flags of the image
become state of their blocks (R144, R147, R116). `periodLength` is section 2. -/
structure Settings where
  station : Station
  periodLength : Nat
  line : Line
  neighbours : Neighbours
  reach : Reach
  levels : Levels
  turnouts : List Turnout
  alert : Alert
  deriving DecidableEq, Repr, Inhabited

end Sys2Proof.Config
end

