-- ==== Sys2Proof/Syntax.lean ====
section
/-! DEFINITION. The commands of the EKC-316: one constructor per row of spec/opcode_table.json, with the row's operands. -/

namespace Sys2Proof

/-- The seven fields of an order that the station processor sets in ORDER_PLACE (R23, R192 code 14). -/
structure OrderRequest where
  number : Nat
  turnout : Nat
  account : Nat
  cls : Nat
  startKey : Nat
  duration : Nat
  rate : Nat
  deriving DecidableEq, Repr, Inhabited

/-- A whole rate table (section 9.2): rates in hundredths of a cent per cubic metre, fees in cents. -/
structure RateTable where
  tier1 : ByClass
  tier2 : ByClass
  unused : ByClass
  unordered : Nat
  callOut : Nat
  lateCancel : Nat
  deriving DecidableEq, Repr, Inhabited

/-- The commands, in the order of the rows of the table. An operand that the station processor sends is carried as
sent, so that the owner's rule can refuse it. -/
inductive Instr where
  /-- RESET_RELEASE: the levels of START[1:0] and FORCE_COLD, and whether the backup cell held the retained memory. -/
  | resetRelease (start : BitVec 2) (forceCold retainedHeld : Bool)
  | supplyLoss
  /-- IMAGE_READ_COMPLETE: the bytes that the configuration memory holds. -/
  | imageReadComplete (image : List Byte)
  | catchUp
  | periodBoundary
  | crystalStop
  | crystalRunning
  | planPeriodChange
  | gatePeriodBoundary
  | meterPeriodClose
  | periodClose
  | billingDayClose
  /-- LINE_FRAME_RECEIVED: all characters of the frame, from the sync byte to the second CRC byte. -/
  | lineFrameReceived (frame : List Byte)
  | lineFrameGap
  /-- HOLD_EXPIRY: the position of the entry in the Neighbour Table. -/
  | holdExpiry (entry : Nat)
  | accessGapReached
  | collision
  | backoffExpiry
  | noticeComplete
  | holdoffExpiry
  | noticeTimerExpiry
  /-- LEVEL_SAMPLE: the bytes of the record on LS_RXD. -/
  | levelSample (record : List Byte)
  | sampleWatchExpiry
  /-- ENCODER_STEP: true for a step in the opening sense. -/
  | encoderStep (opening : Bool)
  /-- LIMIT_INPUT_CHANGE: true for LIM_OPEN, false for LIM_CLOSED; the new level of the input. -/
  | limitInputChange (openLimit active : Bool)
  | restExpiry
  | stallExpiry
  | supplyLowChange (active : Bool)
  | tripInputChange (active : Bool)
  | tripWaitExpiry
  | meterPulse (turnout : Nat)
  | noFlowExpiry (turnout : Nat)
  /-- LINK_FRAME_RECEIVED: the characters after the sync byte, and whether one had a framing error. -/
  | linkFrameReceived (frame : List Byte) (framingError : Bool)
  | linkFrameGap
  | replySent
  /-- CHECK: the kind byte of the failed frame. -/
  | check (kind : Byte)
  /-- UNKNOWN_COMMAND: the kind byte of the frame that names no command or has the wrong length. -/
  | unknownCommand (kind : Byte)
  | statusRead (part : Nat)
  | planRead (part : Nat)
  | orderQuery (number : Nat)
  | bookList
  | accountQuery (index : Nat)
  | turnoutQuery (turnout : Nat)
  | logRead (count : Nat)
  | alertRead
  | timeSet (day minute second ms : Nat)
  | timeTrim (seconds : Int)
  | supplySet (flow : Nat)
  | watchDeclare (key : Nat)
  | orderPlace (request : OrderRequest)
  | orderCancel (number : Nat)
  | orderShutoff (number : Nat)
  | accountSet (index allotment limit state : Nat)
  | turnoutService (turnout direction : Nat)
  | turnoutAck (turnout : Nat) (marks : Byte)
  | ratesStage (table : RateTable)
  | targetStage (level : Nat)
  | gateMode (mode opening : Nat)
  | tripClear
  | logRelease (count : Nat)
  | alertAck (marks : BitVec 24)
  | alertMask (marks : BitVec 24)
  | moderationExpiry
  | seasonClose
  | restart
  | noticeNow
  | configData (offset : Nat) (bytes : List Byte)
  | configEnd
  | lineCharacterReceived (char : Byte) (framingError : Bool)
  | linkCharacterReceived (char : Byte) (framingError : Bool)
  deriving DecidableEq, Repr

end Sys2Proof
end

