-- ==== Sys2Proof/Machine/State.lean ====
section
/-! DEFINITION. The state of the EKC-316, block by block, as plain data, with its value right after the release of RESET_N. -/

namespace Sys2Proof.Machine

open Sys2Proof.Config (Settings Quality)

/-! ## Names shared by the blocks -/

/-- The classes of water, in the order in which they are served (chapter 0). -/
inductive WaterClass where
  | senior
  | frost
  | standard
  | surplus
  deriving DecidableEq, Repr, Inhabited

/-- A closing pair (R132, R189): a closed period's key, its gate litres and its estimated mark. -/
structure ClosingPair where
  key : Nat
  litres : Nat
  estimated : Bool
  deriving DecidableEq, Repr, Inhabited

/-- A grant block (R83, R189): the station it is for, and twelve grants of each class. -/
structure GrantBlock where
  station : Nat
  grants : List ByClass
  deriving DecidableEq, Repr, Inhabited

/-! ## Start-up Controller (chapter 11) -/

/-- Start state of the whole part (chapter 0, "Operating states"), numbered from 0 in this order. -/
inductive StartState where
  | loading
  | configFault
  | waitTime
  | run
  deriving DecidableEq, Repr, Inhabited

/-- Load source (section 11.1). -/
inductive LoadSource where
  | memory
  | link
  deriving DecidableEq, Repr, Inhabited

/-- Kind of a start (section 11.1). -/
inductive StartKind where
  | cold
  | warm
  deriving DecidableEq, Repr, Inhabited

/-- What a failed image check names (R181): HEADER or one of the ten sections, in their order. -/
inductive ImageSection where
  | header
  | station
  | time
  | line
  | neighbours
  | reachAndGate
  | levelsAndControl
  | turnouts
  | accounts
  | rates
  | alertSettings
  deriving DecidableEq, Repr, Inhabited

/-- The retained-memory marker (section 11.3, R183, R184). -/
structure Marker where
  valid : Bool
  seasonId : Nat
  station : Nat
  periodLength : Nat
  timeSet : Bool
  deriving DecidableEq, Repr, Inhabited

/-- State of the Start-up Controller (section 11.1). `image` holds the bytes of a link load; `powered` and `catchUpDue`
are the model's own: whether the main supply is present, and whether the catch-up step of a warm start is still to come. -/
structure StartUp where
  powered : Bool
  start : BitVec 2
  forceCold : Bool
  state : StartState
  source : LoadSource
  failing : Option ImageSection
  lastStart : Option StartKind
  marker : Marker
  image : List Byte
  catchUpDue : Bool
  deriving DecidableEq, Repr, Inhabited

/-! ## Time Base (chapter 1) -/

/-- The four counts of district time (section 1.1). -/
structure DistrictTime where
  day : Nat
  minute : Nat
  second : Nat
  ms : Nat
  deriving DecidableEq, Repr, Inhabited

/-- Oscillator on which time counts (section 1.4). -/
inductive ClockSource where
  | main
  | internal
  deriving DecidableEq, Repr, Inhabited

/-- The backup clock (section 1.5). `phase` is the model's own: the milliseconds counted within the backup second. -/
structure BackupClock where
  day : Nat
  minute : Nat
  second : Nat
  phase : Nat
  deriving DecidableEq, Repr, Inhabited

/-- State of the Time Base (sections 1.1 and 1.5). `crystal` says whether the main crystal oscillates; `counting` is true for RUNNING. -/
structure TimeBase where
  time : DistrictTime
  quality : Quality
  source : ClockSource
  counting : Bool
  retainedKey : Nat
  backup : BackupClock
  elapsed : Nat
  crystal : Bool
  deriving DecidableEq, Repr, Inhabited

/-- A period boundary (new key = old key + 1) or a jump (new key at least old key + 2) (section 1.2). -/
structure PeriodEvent where
  oldKey : Nat
  newKey : Nat
  deriving DecidableEq, Repr, Inhabited

/-- A day close (section 1.2), with the new key of the boundary or jump to which it belongs (R3, R164). -/
structure DayClose where
  closedDay : Nat
  newDay : Nat
  newKey : Nat
  deriving DecidableEq, Repr, Inhabited

/-- The model's own: the events the Time Base has issued and the block named has not yet taken, oldest first (R2 to R4). -/
structure Inbox where
  planner : List PeriodEvent
  gate : List PeriodEvent
  meter : List PeriodEvent
  close : List PeriodEvent
  billing : List DayClose
  deriving DecidableEq, Repr, Inhabited

/-! ## Billing records (chapter 9), which an order may hold -/

/-- The flags of an order (section 2.1), in the order of their list. -/
structure OrderFlags where
  curtailed : Bool
  shutoff : Bool
  estimated : Bool
  outage : Bool
  late : Bool
  service : Bool
  frost : Bool
  deriving DecidableEq, Repr, Inhabited

/-- Kind of a bill record (section 9.4), numbered from 0 in this order. -/
inductive RecordKind where
  | delivery
  | cancel
  | unordered
  deriving DecidableEq, Repr, Inhabited

/-- The fields of a bill record that only a DELIVERY or a CANCEL holds (section 9.4). -/
structure OrderPart where
  number : Nat
  cls : WaterClass
  startKey : Nat
  endKey : Nat
  rate : Nat
  deriving DecidableEq, Repr, Inhabited

/-- A bill record (section 9.4). `granted` and `tiers` are present in a DELIVERY only. -/
structure BillRecord where
  seq : Nat
  kind : RecordKind
  key : Nat
  account : Nat
  turnout : Nat
  order : Option OrderPart
  granted : Option Nat
  delivered : Nat
  tiers : Option (Nat × Nat)
  charge : Nat
  flags : OrderFlags
  timeUncertain : Bool
  deriving DecidableEq, Repr, Inhabited

/-! ## Order Book (chapter 2) -/

/-- The live states of an order, in the order of the table of section 2.2. -/
inductive OrderState where
  | pending
  | active
  | closing
  | closedUnbilled
  deriving DecidableEq, Repr, Inhabited

/-- One entry of a grant schedule (section 2.5). -/
structure GrantEntry where
  rate : Nat
  frozen : Bool
  deriving DecidableEq, Repr, Inhabited

/-- An order record (section 2.1). `record` is the bill record made at the close of a CLOSED_UNBILLED order (R155). -/
structure Order where
  number : Nat
  turnout : Nat
  account : Nat
  cls : WaterClass
  startKey : Nat
  duration : Nat
  rate : Nat
  state : OrderState
  grants : List GrantEntry
  floor : Nat
  granted : Nat
  delivered : Nat
  flags : OrderFlags
  closeKey : Option Nat
  charge : Option Nat
  record : Option BillRecord
  deriving DecidableEq, Repr, Inhabited

/-- State of the Order Book: 48 slots, FREE (`none`) or holding an order (R16), and the book key (R17). -/
structure OrderBook where
  slots : List (Option Order)
  bookKey : Nat
  deriving DecidableEq, Repr, Inhabited

/-! ## Line Interface (chapter 3) -/

/-- The receiver of the canal line (section 3.2). A frame holds its characters from the sync byte on. -/
inductive LineRx where
  | off
  | hunt
  | frame (chars : List Byte)
  deriving DecidableEq, Repr, Inhabited

/-- The transmitter of the canal line (section 3.3). -/
inductive LineTx where
  | quiet
  | gap
  | sending
  | backoff
  deriving DecidableEq, Repr, Inhabited

/-- What the last-sent copy holds of a REACH notice (section 3.5). -/
structure SentCopy where
  key : Nat
  plan : List ByClass
  blocks : List GrantBlock
  deriving DecidableEq, Repr, Inhabited

/-- The frame in transmission: its characters and, for a REACH notice, what the last-sent copy will hold of it (R45, R46). -/
structure TxFrame where
  chars : List Byte
  copy : Option SentCopy
  deriving DecidableEq, Repr, Inhabited

/-- State of the Line Interface (sections 3.1, 3.3 and 3.5). Timers hold the elapsed time at which they started. -/
structure LineInterface where
  rx : LineRx
  arrived : List (List Byte)
  idle : Nat
  idlePhase : Nat
  charLeft : Nat
  tx : LineTx
  attempt : Nat
  frame : Option TxFrame
  readCount : Nat
  readBad : Bool
  reachReq : Bool
  watchReq : Bool
  carriedReach : Bool
  carriedWatch : Bool
  holdoff : Option Nat
  noticeTimer : Option Nat
  lastSent : Option SentCopy
  deriving DecidableEq, Repr, Inhabited

/-! ## Neighbour Table (chapter 4) -/

/-- Role of an entry; downstream positions count from 1 (R52). -/
inductive Role where
  | upstream
  | downstream (j : Nat)
  deriving DecidableEq, Repr, Inhabited

/-- State of an entry (R53). -/
inductive EntryState where
  | absent
  | fresh
  | lost
  deriving DecidableEq, Repr, Inhabited

/-- The status flags of a REACH notice (R45, R189), in the order of their list. -/
structure StatusFlags where
  tripped : Bool
  gateFault : Bool
  levelFault : Bool
  guarding : Bool
  upstreamLost : Bool
  manual : Bool
  deriving DecidableEq, Repr, Inhabited

/-- The content of an entry, replaced whole at an acceptance (section 4.2, R56). -/
structure Content where
  senderKey : Nat
  quality : Quality
  flags : StatusFlags
  level : Nat
  plan : List ByClass
  grant : Option (List ByClass)
  pairs : List ClosingPair
  deriving DecidableEq, Repr, Inhabited

/-- One neighbour entry (section 4.2). The hold timer runs from `receipt` exactly while the entry is FRESH (R53). -/
structure Entry where
  role : Role
  station : Nat
  tau : Nat
  lostFlow : Nat
  state : EntryState
  content : Option Content
  receipt : Option Nat
  outOfStep : Bool
  mismatch : Bool
  deriving DecidableEq, Repr, Inhabited

/-- State of the Neighbour Table: the formed entries, the upstream one first, and the watch end key (sections 4.2 and 4.5). -/
structure NeighbourTable where
  entries : List Entry
  watchEnd : Nat
  deriving DecidableEq, Repr, Inhabited

/-! ## Release Planner (chapter 5) -/

/-- Supply source (sections 5.1 and 5.5). -/
inductive SupplySource where
  | head
  | upstream
  | fallback
  deriving DecidableEq, Repr, Inhabited

/-- The results of one recompute at one offset: per slot the own demand and the share, per downstream neighbour the
demand and the shares, and per class the raw demand, announced demand, supply and pool (R70 to R79). -/
structure OffsetPlan where
  ownDemand : List Nat
  ownShare : List Nat
  downDemand : List ByClass
  downShare : List ByClass
  raw : ByClass
  announced : ByClass
  supply : ByClass
  pool : ByClass
  lossServed : Nat
  margin : Nat
  deriving DecidableEq, Repr, Inhabited

/-- The release target with its five parts (R84). -/
structure Release where
  target : Nat
  shares : Nat
  loss : Nat
  correction : Int
  guardCut : Nat
  limit : Nat
  deriving DecidableEq, Repr, Inhabited

/-- The results of the latest recompute (R90): twelve offsets and the release target. -/
structure PlanResults where
  key : Nat
  offsets : List OffsetPlan
  release : Release
  deriving DecidableEq, Repr, Inhabited

/-- One entry of a downstream grant schedule (section 5.8); `none` is valueless. -/
structure DownEntry where
  value : Option ByClass
  frozen : Bool
  deriving DecidableEq, Repr, Inhabited

/-- State of the Release Planner (section 5.1). -/
structure Planner where
  planKey : Nat
  results : Option PlanResults
  source : SupplySource
  headSupply : Nat
  schedules : List (List DownEntry)
  correction : Int
  target : Nat
  staged : Option Nat
  guardCut : Nat
  deriving DecidableEq, Repr, Inhabited

/-! ## Gate Controller (chapter 6) -/

/-- Trip phase (section 6.9); a move is upward, toward a higher opening, or downward. -/
inductive TripPhase where
  | waiting
  | moving (up : Bool)
  | done
  deriving DecidableEq, Repr, Inhabited

/-- Drive state (section 6.8). -/
inductive Drive where
  | stopped
  | opening
  | closing
  | resting
  | tripped (phase : TripPhase)
  | fault
  deriving DecidableEq, Repr, Inhabited

/-- Fault record (R109). -/
inductive FaultRecord where
  | none
  | stall
  | limits
  deriving DecidableEq, Repr, Inhabited

/-- Flow regime (R95). -/
inductive Regime where
  | free
  | submerged
  deriving DecidableEq, Repr, Inhabited

/-- Control mode (R103), numbered from 0 in this order. -/
inductive ControlMode where
  | auto
  | manual
  deriving DecidableEq, Repr, Inhabited

/-- State of the Gate Controller (section 6.1), with its four input pins. A window entry is an upstream and a downstream
level. Timers hold the elapsed time at which they started. `lastOff` is the model's own: when a drive output last went off (R104). -/
structure Gate where
  window : List (Nat × Nat)
  lastU : Nat
  lastD : Nat
  missed : Nat
  levelFault : Bool
  flow : Nat
  regime : Option Regime
  reverseHead : Bool
  saturated : Bool
  volume : Nat
  volumeEst : Bool
  closed : Option ClosingPair
  counts : Nat
  suspect : Bool
  mode : ControlMode
  manual : Nat
  inHand : Option Nat
  lastUsed : Option Nat
  target : Nat
  drive : Drive
  record : FaultRecord
  upHigh : Bool
  upLow : Bool
  downHigh : Bool
  sampleWatch : Option Nat
  restStart : Option Nat
  stallStart : Option Nat
  lastOff : Option Nat
  limClosed : Bool
  limOpen : Bool
  tripIn : Bool
  supplyLow : Bool
  deriving DecidableEq, Repr, Inhabited

/-! ## Meter Unit (chapter 7) -/

/-- The record of a closed meter period (R123). -/
structure ClosedMeter where
  key : Nat
  pulses : Nat
  litres : Nat
  rejects : Nat
  estimated : Bool
  deriving DecidableEq, Repr, Inhabited

/-- The change flags of a turnout (section 7.1), in the order of their list. -/
structure ChangeFlags where
  rateOver : Bool
  noisy : Bool
  unorderedDraw : Bool
  serviceChanged : Bool
  deriving DecidableEq, Repr, Inhabited

/-- The runtime part of a turnout, with its in-service flag (section 7.1). The no-flow timer runs from `lastPulse` exactly while it is present (R119). -/
structure Turnout where
  inService : Bool
  pulses : Nat
  rejects : Nat
  lastPulse : Option Nat
  rate : Nat
  noisy : Bool
  estimated : Bool
  overdraw : Bool
  closed : Option ClosedMeter
  tally : Nat
  due : Bool
  flags : ChangeFlags
  deriving DecidableEq, Repr, Inhabited

/-- State of the Meter Unit: 16 entries, and the model's own `closedKey`, the key of the last closed meter period (R124). -/
structure MeterUnit where
  turnouts : List Turnout
  closedKey : Option Nat
  deriving DecidableEq, Repr, Inhabited

/-! ## Period Close Unit (chapter 8) -/

/-- A balance entry (section 8.4); `storage` is `none` when the storage change is unknown; a slot is empty or holds litres. -/
structure BalanceEntry where
  key : Nat
  inflow : Nat
  turnoutSum : Nat
  storage : Option Int
  expectedLoss : Nat
  slots : List (Option (Nat × Bool))
  estimated : Bool
  deriving DecidableEq, Repr, Inhabited

/-- Result of an evaluation (R139), numbered from 0 in this order. -/
inductive BalanceResult where
  | unjudged
  | out
  | within
  deriving DecidableEq, Repr, Inhabited

/-- The last evaluation (R139); the unaccounted volume is exact. -/
structure Evaluation where
  key : Nat
  unaccounted : Int
  result : BalanceResult
  estimated : Bool
  deriving DecidableEq, Repr, Inhabited

/-- The outage span of the last jump (R133). -/
structure OutageSpan where
  first : Nat
  last : Nat
  count : Nat
  deriving DecidableEq, Repr, Inhabited

/-- State of the Period Close Unit (section 8.1). -/
structure CloseUnit where
  openKey : Nat
  openLevel : Option Nat
  history : List ClosingPair
  queue : List BalanceEntry
  lossCount : Nat
  reachLoss : Bool
  lastEval : Option Evaluation
  lastAbandoned : Option Nat
  outage : Option OutageSpan
  deriving DecidableEq, Repr, Inhabited

/-! ## Billing Unit (chapter 9) -/

/-- State of an account (section 9.1), numbered from 0 in this order. -/
inductive AccountState where
  | good
  | hold
  | closed
  deriving DecidableEq, Repr, Inhabited

/-- One entry of the account table (section 9.1); number 0 is not configured. -/
structure Account where
  number : Nat
  allotment : Nat
  limit : Nat
  state : AccountState
  used : Nat
  charges : Nat
  deriving DecidableEq, Repr, Inhabited

/-- An item of the wait list (section 9.6): an order slot or a turnout whose tally is due. -/
inductive WaitItem where
  | order (slot : Nat)
  | tally (turnout : Nat)
  deriving DecidableEq, Repr, Inhabited

/-- State of the Billing Unit: 64 accounts, rate tables, billing log, wait list, season id (chapter 9). -/
structure Billing where
  accounts : List Account
  active : RateTable
  staged : Option RateTable
  log : List BillRecord
  nextSeq : Nat
  readPos : Nat
  waitList : List WaitItem
  seasonId : Nat
  deriving DecidableEq, Repr, Inhabited

/-! ## Station Link and alerts (chapter 10) -/

/-- The receiver of the station link (R168): a frame holds the characters after the sync byte, and whether one had a framing error. -/
inductive LinkRx where
  | hunt
  | frame (chars : List Byte) (framingError : Bool)
  deriving DecidableEq, Repr, Inhabited

/-- A complete frame of the station link: the characters after the sync byte; `bad` marks a framing error or a payload length above 1 024. -/
structure LinkFrame where
  chars : List Byte
  bad : Bool
  deriving DecidableEq, Repr, Inhabited

/-- Result codes of a reply (R169), numbered as R192 says: OK 0, then the refusal codes from 1. -/
inductive ResultCode where
  | ok
  | full
  | duplicate
  | badTurnout
  | outOfService
  | account
  | hold
  | rate
  | tooSoon
  | tooFar
  | noWatch
  | overlap
  | capacity
  | notFound
  | state
  | role
  | badValue
  | notReady
  | check
  deriving DecidableEq, Repr, Inhabited

/-- A reply being sent (R169): kind, result, OVERRUN mark and data. `entry` says that the command came from the input buffer
and still occupies its oldest entry (R170). -/
structure Reply where
  kind : Byte
  result : ResultCode
  overrun : Bool
  data : List Byte
  entry : Bool
  deriving DecidableEq, Repr, Inhabited

/-- State of the Station Link (sections 10.1 and 10.2). -/
structure StationLink where
  rx : LinkRx
  lastChar : Nat
  arrived : List LinkFrame
  buffer : List LinkFrame
  overrun : Bool
  reply : Option Reply
  deriving DecidableEq, Repr, Inhabited

/-- The alert pending set, the mask marks and the moderation timer (section 10.5). Bit numbers are the places of the causes (R192). -/
structure Alerts where
  pending : BitVec 17
  masks : BitVec 17
  moderation : Option Nat
  deriving DecidableEq, Repr, Inhabited

/-! ## The whole part -/

/-- The state of the EKC-316. `pending` is the queue of commands that are waiting, first in, first out. -/
structure State where
  pending : List Instr
  startup : StartUp
  settings : Settings
  time : TimeBase
  inbox : Inbox
  book : OrderBook
  line : LineInterface
  neigh : NeighbourTable
  planner : Planner
  gate : Gate
  meters : MeterUnit
  close : CloseUnit
  billing : Billing
  link : StationLink
  alerts : Alerts
  deriving DecidableEq, Repr, Inhabited

/-- The spec names no event that stops the part in the middle of a step (R169: a refused command is a reply), so there is no fault. -/
inductive Fault where
  deriving DecidableEq, Repr

/-- Refusals of a step. -/
inductive Refusal where
  /-- Raised by an arm of exec whose command has no meaning in the model yet. Safe: nothing is claimed of it. -/
  | notModelled (mnemonic : String)
  deriving DecidableEq, Repr

/-- What a step answers. -/
abbrev Out := Host.Outcome State Fault Refusal

/-! ## Replacing one block -/

def State.withPending (s : State) (x : List Instr) : State := { s with pending := x }
def State.withStartup (s : State) (x : StartUp) : State := { s with startup := x }
def State.withSettings (s : State) (x : Settings) : State := { s with settings := x }
def State.withTime (s : State) (x : TimeBase) : State := { s with time := x }
def State.withInbox (s : State) (x : Inbox) : State := { s with inbox := x }
def State.withBook (s : State) (x : OrderBook) : State := { s with book := x }
def State.withLine (s : State) (x : LineInterface) : State := { s with line := x }
def State.withNeigh (s : State) (x : NeighbourTable) : State := { s with neigh := x }
def State.withPlanner (s : State) (x : Planner) : State := { s with planner := x }
def State.withGate (s : State) (x : Gate) : State := { s with gate := x }
def State.withMeters (s : State) (x : MeterUnit) : State := { s with meters := x }
def State.withClose (s : State) (x : CloseUnit) : State := { s with close := x }
def State.withBilling (s : State) (x : Billing) : State := { s with billing := x }
def State.withLink (s : State) (x : StationLink) : State := { s with link := x }
def State.withAlerts (s : State) (x : Alerts) : State := { s with alerts := x }

/-! ## Reset -/

/-- No order flag set. -/
def OrderFlags.clear : OrderFlags :=
  { curtailed := false, shutoff := false, estimated := false, outage := false, late := false, service := false, frost := false }

/-- No change flag set. -/
def ChangeFlags.clear : ChangeFlags :=
  { rateOver := false, noisy := false, unorderedDraw := false, serviceChanged := false }

/-- Settings before the first image has been read: the stated defaults, else the lowest value (log 5: DESIGN CHOICE). Before a start only
the idle count of the canal line reads them, its rate (log 9: DESIGN CHOICE), and what STATUS_READ reports (log 11: DESIGN CHOICE). -/
def resetSettings : Settings :=
  { station := { number := 0, minNotice := 12, horizon := 1008, lockTime := 6 }
    periodLength := 10
    line := { rate := 4800, holdoff := 10, noticeInterval := 60, changeThreshold := 50 }
    neighbours := { upstream := 0, downstream := [], holdTime := 180 }
    reach := { cap := 0, loss := 0, fallback := 0, reachCapacity := 0, poolArea := 100, lossTolerance := 0,
               cd := 500, width := 300, aMax := 100, encoder := 50 }
    levels := { target := 0, deadZone := 0, gain := 0, correctionLimit := 0, minimum := 0, hysteresis := 50, guardStep := 50,
                deadband := 15, restTime := 3, stallTime := 8, sampleInterval := 2, upHigh := 0, downHigh := 0,
                levelTrip := false, tripAction := .hold, tripOpening := 0, autoResume := false }
    turnouts := List.replicate 16
      { present := false, inService := false, account := 0, capacity := 0, litres := 1, tau := 0, spacing := 10, noFlow := 5 }
    alert := { threshold := 2, masks := 0, moderation := 5, logThreshold := 192 } }

/-- A turnout entry with nothing counted (R128, cold column, but for the in-service flag). -/
def resetTurnout : Turnout :=
  { inService := false, pulses := 0, rejects := 0, lastPulse := none, rate := 0, noisy := false, estimated := false,
    overdraw := false, closed := none, tally := 0, due := false, flags := ChangeFlags.clear }

/-- An account entry that is not configured (R144). -/
def resetAccount : Account := { number := 0, allotment := 0, limit := 0, state := .good, used := 0, charges := 0 }

/-- A rate table of zeros. -/
def resetRates : RateTable :=
  { tier1 := { c1 := 0, c2 := 0, c3 := 0, c4 := 0 }, tier2 := { c1 := 0, c2 := 0, c3 := 0, c4 := 0 },
    unused := { c1 := 0, c2 := 0, c3 := 0, c4 := 0 }, unordered := 0, callOut := 0, lateCancel := 0 }

/-- The Line Interface at entry to LOADING: silent, receiver OFF, the table of section 3.5 (R51). -/
def resetLine : LineInterface :=
  { rx := .off, arrived := [], idle := 0, idlePhase := 0, charLeft := 0, tx := .quiet, attempt := 0, frame := none,
    readCount := 0, readBad := false, reachReq := false, watchReq := false, carriedReach := false, carriedWatch := false,
    holdoff := none, noticeTimer := none, lastSent := none }

/-- The Gate Controller of a part that has never started, outputs off (R179, log 5: DESIGN CHOICE and log 21: DESIGN CHOICE). -/
def resetGate : Gate :=
  { window := [], lastU := 0, lastD := 0, missed := 0, levelFault := false, flow := 0, regime := none, reverseHead := false,
    saturated := false, volume := 0, volumeEst := false, closed := none, counts := 0, suspect := true, mode := .auto,
    manual := 0, inHand := none, lastUsed := none, target := 0, drive := .stopped, record := .none, upHigh := false,
    upLow := false, downHigh := false, sampleWatch := none, restStart := none, stallStart := none, lastOff := none,
    limClosed := false, limOpen := false, tripIn := false, supplyLow := false }

/-- The Period Close Unit with nothing held (section 8.1), for a given open key. -/
def resetClose (openKey : Nat) : CloseUnit :=
  { openKey := openKey, openLevel := none, history := [], queue := [], lossCount := 0, reachLoss := false,
    lastEval := none, lastAbandoned := none, outage := none }

/-- The Release Planner with nothing held: none of its state is retained (section 5.1). -/
def resetPlanner : Planner :=
  { planKey := 0, results := none, source := .head, headSupply := 0, schedules := [], correction := 0, target := 0,
    staged := none, guardCut := 0 }

/-- No event under way. -/
def resetInbox : Inbox := { planner := [], gate := [], meter := [], close := [], billing := [] }

/-- The machine right after reset: the part in LOADING just after the release of RESET_N (R179), with START = 00, the load
source MEMORY and a retained memory that has never been written (log 4: DESIGN CHOICE, log 5: DESIGN CHOICE). -/
def State.reset : State :=
  { pending := []
    startup := { powered := true, start := 0, forceCold := false, state := .loading, source := .memory, failing := none,
                 lastStart := none,
                 marker := { valid := false, seasonId := 0, station := 0, periodLength := 0, timeSet := false },
                 image := [], catchUpDue := false }
    settings := resetSettings
    time := { time := { day := 0, minute := 0, second := 0, ms := 0 }, quality := .free, source := .main, counting := false,
              retainedKey := 0, backup := { day := 0, minute := 0, second := 0, phase := 0 }, elapsed := 0, crystal := true }
    inbox := resetInbox
    book := { slots := List.replicate 48 none, bookKey := 0 }
    line := resetLine
    neigh := { entries := [], watchEnd := 0 }
    planner := resetPlanner
    gate := resetGate
    meters := { turnouts := List.replicate 16 resetTurnout, closedKey := none }
    close := resetClose 0
    billing := { accounts := List.replicate 64 resetAccount, active := resetRates, staged := none, log := [], nextSeq := 0,
                 readPos := 0, waitList := [], seasonId := 0 }
    link := { rx := .hunt, lastChar := 0, arrived := [], buffer := [], overrun := false, reply := none }
    alerts := { pending := 0, masks := 0, moderation := none } }

end Sys2Proof.Machine
end

