-- ==== Sys2Proof/Machine/Arith.lean ====
section
/-! DEFINITION. The arithmetic of the manual's introduction ("Arithmetic", "Units and ranges"), the four-class helpers, the byte codings of
R187 and the check of R188. -/

namespace Sys2Proof.Machine

/-! ## Ranges (chapter 0, "Units and ranges") -/

/-- Highest volume, amount of money and sequence number. -/
def volumeMax : Nat := 4294967295
/-- Highest flow, L/s. -/
def flowMax : Nat := 32000
/-- Highest level, mm. -/
def levelMax : Nat := 4000

/-! ## Arithmetic (chapter 0, "Arithmetic") -/

/-- A saturating addition: a sum past the maximum holds the maximum. -/
def satAdd (top a b : Nat) : Nat := min (a + b) top

/-- round-half-up of n / d. -/
def roundDiv (n d : Nat) : Nat := (2 * n + d) / (2 * d)

/-- Clamp of a signed value to lo..hi. -/
def clampInt (lo hi x : Int) : Int := max lo (min hi x)

/-- One binary digit of the root at a time, from the digit k - 1 down. -/
def isqrtFrom : Nat → Nat → Nat → Nat
  | 0, root, _ => root
  | k + 1, root, n => isqrtFrom k (if (root + 2 ^ k) * (root + 2 ^ k) ≤ n then root + 2 ^ k else root) n

/-- Integer square root: the greatest integer whose square does not exceed n. -/
def isqrt (n : Nat) : Nat := isqrtFrom (n.log2 / 2 + 1) 0 n

/-! ## The four classes -/

/-- The class of an order's class field, when it lies within 1 to 4 (R23). -/
def classOf? (n : Nat) : Option WaterClass :=
  match n with
  | 1 => some .senior
  | 2 => some .frost
  | 3 => some .standard
  | 4 => some .surplus
  | _ => none

/-- The number of a class, 1 to 4. -/
def WaterClass.number : WaterClass → Nat
  | .senior => 1
  | .frost => 2
  | .standard => 3
  | .surplus => 4

end Sys2Proof.Machine

namespace Sys2Proof

open Sys2Proof.Machine (WaterClass)

/-- The value for one class. -/
def ByClass.get (x : ByClass) : WaterClass → Nat
  | .senior => x.c1
  | .frost => x.c2
  | .standard => x.c3
  | .surplus => x.c4

/-- The four values from a function of the class. -/
def ByClass.of (f : WaterClass → Nat) : ByClass :=
  { c1 := f .senior, c2 := f .frost, c3 := f .standard, c4 := f .surplus }

/-- Zero in every class. -/
def ByClass.zero : ByClass := { c1 := 0, c2 := 0, c3 := 0, c4 := 0 }

/-- The sum over the four classes. -/
def ByClass.total (x : ByClass) : Nat := x.c1 + x.c2 + x.c3 + x.c4

/-- Class by class. -/
def ByClass.zip (f : Nat → Nat → Nat) (x y : ByClass) : ByClass :=
  { c1 := f x.c1 y.c1, c2 := f x.c2 y.c2, c3 := f x.c3 y.c3, c4 := f x.c4 y.c4 }

end Sys2Proof

namespace Sys2Proof.Machine

/-- The sum of a list. -/
def sumList (xs : List Nat) : Nat := xs.foldr (· + ·) 0

/-- The class-by-class sum of a list. -/
def sumClasses (xs : List ByClass) : ByClass := xs.foldr (ByClass.zip (· + ·)) ByClass.zero

/-! ## Byte codings (R187): least significant byte first -/

/-- The n low bytes of v, least significant first. -/
def toBytes : Nat → Nat → List Byte
  | 0, _ => []
  | n + 1, v => BitVec.ofNat 8 v :: toBytes n (v / 256)

/-- The number whose bytes these are, least significant first. -/
def ofBytes : List Byte → Nat
  | [] => 0
  | b :: bs => b.toNat + 256 * ofBytes bs

/-- Two's complement on n bytes. -/
def toBytesSigned (n : Nat) (v : Int) : List Byte := toBytes n (v % (256 ^ n : Nat)).toNat

/-- The signed number of n bytes in two's complement. -/
def ofBytesSigned (bs : List Byte) : Int :=
  let v := ofBytes bs
  if 2 * v < 256 ^ bs.length then (v : Int) else (v : Int) - (256 ^ bs.length : Nat)

/-- The number whose bit k is the k-th mark of the list. -/
def bitsOf : List Bool → Nat
  | [] => 0
  | b :: bs => (if b then 1 else 0) + 2 * bitsOf bs

/-- One byte for a mark. -/
def markByte (b : Bool) : List Byte := [if b then 1 else 0]

/-- One byte. -/
def byte (v : Nat) : List Byte := [BitVec.ofNat 8 v]

/-- An optional value: the presence byte, then the value, sent as 0 when absent (R187). -/
def optBytes (n : Nat) (v : Option Nat) : List Byte :=
  match v with
  | some x => 1 :: toBytes n x
  | none => 0 :: toBytes n 0

/-- An optional record: the presence byte, then its bytes, or as many zeros. -/
def optRecord (size : Nat) (v : Option (List Byte)) : List Byte :=
  match v with
  | some bs => 1 :: bs
  | none => 0 :: List.replicate size 0

/-! ## The check (R188) -/

/-- Generator x^16 + x^12 + x^5 + 1 without its leading term. -/
def crcPoly : BitVec 16 := 0x1021#16

/-- One bit of the register's shift. -/
def crcShift (c : BitVec 16) : BitVec 16 := if c.msb then (c <<< 1) ^^^ crcPoly else c <<< 1

/-- One byte entered most significant bit first. -/
def crcByte (c : BitVec 16) (b : Byte) : BitVec 16 :=
  let c := c ^^^ (b.setWidth 16 <<< 8)
  crcShift (crcShift (crcShift (crcShift (crcShift (crcShift (crcShift (crcShift c)))))))

/-- The 16-bit check of a list of bytes: register preset to all ones, no reflection, no final inversion. -/
def crc16 (bs : List Byte) : BitVec 16 := bs.foldl crcByte 0xFFFF#16

/-- The check as sent: low byte first. -/
def crcBytes (bs : List Byte) : List Byte := toBytes 2 (crc16 bs).toNat

end Sys2Proof.Machine
end

