-- ==== Sys2Proof/Machine/Flags.lean ====
section
/-! DEFINITION. The alert causes, the pending set and the alert line (chapter 10, sections 10.5 and 10.6). -/

namespace Sys2Proof.Machine

open Sys2Proof.Config (Quality)

/-- The alert causes, in the order of the table of section 10.5; their places are the bits of the marks (R192). -/
inductive Cause where
  | gateTrip
  | gateFault
  | timeDegraded
  | neighbourLost
  | watchChanged
  | levelFault
  | levelWindow
  | overdraw
  | reachLoss
  | accountHold
  | logFull
  | grantChanged
  | lineCongestion
  | neighbourBack
  | logLevel
  | warmStart
  | coldStart
  deriving DecidableEq, Repr, Inhabited

/-- The place of a cause: GATE_TRIP at bit 0 and COLD_START at bit 16 (R192). -/
def Cause.place : Cause → Nat
  | .gateTrip => 0
  | .gateFault => 1
  | .timeDegraded => 2
  | .neighbourLost => 3
  | .watchChanged => 4
  | .levelFault => 5
  | .levelWindow => 6
  | .overdraw => 7
  | .reachLoss => 8
  | .accountHold => 9
  | .logFull => 10
  | .grantChanged => 11
  | .lineCongestion => 12
  | .neighbourBack => 13
  | .logLevel => 14
  | .warmStart => 15
  | .coldStart => 16

/-- All causes in the order of their places. -/
def allCauses : List Cause :=
  [.gateTrip, .gateFault, .timeDegraded, .neighbourLost, .watchChanged, .levelFault, .levelWindow, .overdraw, .reachLoss,
   .accountHold, .logFull, .grantChanged, .lineCongestion, .neighbourBack, .logLevel, .warmStart, .coldStart]

/-- The fixed level of a cause (section 10.5). -/
def Cause.level : Cause → Nat
  | .gateTrip | .gateFault => 3
  | .timeDegraded | .neighbourLost | .watchChanged | .levelFault | .levelWindow | .overdraw | .reachLoss | .accountHold
  | .logFull => 2
  | .grantChanged | .lineCongestion | .neighbourBack | .logLevel | .warmStart | .coldStart => 1

/-- The set with the one place of a cause set. -/
def Cause.mark (c : Cause) : BitVec 17 := BitVec.twoPow 17 c.place

/-- Whether the place of a cause is set. -/
def hasCause (m : BitVec 17) (c : Cause) : Bool := m.getLsbD c.place

/-- The places of GATE_TRIP and GATE_FAULT, the causes that cannot be masked (R109, R110, R178). -/
def level3Places : BitVec 17 := Cause.mark .gateTrip ||| Cause.mark .gateFault

/-- Raising a cause makes its place pending (R174). -/
def Alerts.raise (a : Alerts) (c : Cause) : Alerts := { a with pending := a.pending ||| c.mark }

/-- Raise a cause in the part. -/
def State.raise (s : State) (c : Cause) : State := s.withAlerts (s.alerts.raise c)

/-- Raise a cause when a condition holds. -/
def State.raiseIf (s : State) (b : Bool) (c : Cause) : State := if b then s.raise c else s

/-- A drive state in which a trip is in force. -/
def Drive.isTripped : Drive → Bool
  | .tripped _ => true
  | _ => false

/-- Whether any formed entry is LOST (R59). -/
def NeighbourTable.anyLost (n : NeighbourTable) : Bool := n.entries.any fun e => e.state == .lost

/-- Whether the owner of a cause reports that it persists (section 10.5, last column). -/
def State.persists (s : State) : Cause → Bool
  | .gateTrip => s.gate.drive.isTripped
  | .gateFault => s.gate.record != FaultRecord.none
  | .timeDegraded => s.time.quality == Quality.degraded
  | .neighbourLost => s.neigh.anyLost
  | .levelFault => s.gate.levelFault
  | .levelWindow => s.gate.upHigh || s.gate.upLow || s.gate.downHigh
  | .reachLoss => s.close.reachLoss
  | .logFull => !s.billing.waitList.isEmpty
  | .logLevel => decide (s.settings.alert.logThreshold ≤ s.billing.log.length)
  | .watchChanged | .overdraw | .accountHold | .grantChanged | .lineCongestion | .neighbourBack | .warmStart | .coldStart => false

/-- The set of the causes that satisfy a test. -/
def causesWhere (p : Cause → Bool) : BitVec 17 :=
  allCauses.foldr (fun c m => if p c then m ||| c.mark else m) 0

/-- The causes whose owners report them persisting. -/
def State.persisting (s : State) : BitVec 17 := causesWhere s.persists

/-- Whether a pending cause asserts the line by itself (R176). -/
def State.asserts (s : State) (c : Cause) : Bool :=
  hasCause s.alerts.pending c &&
    (c.level == 3 ||
      (!hasCause s.alerts.masks c && decide (s.settings.alert.threshold ≤ c.level) && s.alerts.moderation.isNone))

/-- ALERT_N asserted (driven low). In RUN and WAIT_TIME as R176 gives; in LOADING deasserted; in CONFIG_FAULT asserted. -/
def State.alertLine (s : State) : Bool :=
  match s.startup.state with
  | .loading => false
  | .configFault => true
  | .waitTime | .run => allCauses.any s.asserts

/-- The acknowledgement of marked causes: a pending marked cause that does not persist becomes not pending (R175). -/
def State.acknowledge (s : State) (marks : BitVec 17) : State :=
  s.withAlerts { s.alerts with pending := s.alerts.pending &&& ~~~(marks &&& ~~~s.persisting) }

/-- The moderation timer after an ALERT_ACK (R177): started from 0 when the line is left deasserted and the interval is not 0. -/
def State.moderate (s : State) : State :=
  if s.alertLine || s.settings.alert.moderation == 0 then s
  else s.withAlerts { s.alerts with moderation := some s.time.elapsed }

end Sys2Proof.Machine
end

