-- ==== Sys2Proof/Machine/Time.lean ====
section
/-! DEFINITION. District time, period keys, period events and the backup clock (chapter 1). -/

namespace Sys2Proof.Machine

open Sys2Proof.Config (Settings)

/-! ## Keys -/

/-- Periods per day, N_day (chapter 0, "Units and ranges"). -/
def periodsPerDay (plen : Nat) : Nat := 1440 / plen

/-- Period of day: floor of minute / P_len (section 1.1). -/
def DistrictTime.periodOfDay (t : DistrictTime) (plen : Nat) : Nat := t.minute / plen

/-- Period key: day × N_day + period of day (section 1.1). -/
def DistrictTime.key (t : DistrictTime) (plen : Nat) : Nat := t.day * periodsPerDay plen + t.periodOfDay plen

/-- The Time Base's current key. -/
def State.curKey (s : State) : Nat := s.time.time.key s.settings.periodLength

/-- Highest period key: N_day × 65 536 − 1. -/
def highestKey (plen : Nat) : Nat := periodsPerDay plen * 65536 - 1

/-- Period seconds: P_len × 60 (chapter 0). -/
def periodSeconds (c : Settings) : Nat := c.periodLength * 60

/-- The start of a period: its minute, second 0, millisecond 0 (section 1.1). -/
def periodStart (plen key : Nat) : DistrictTime :=
  { day := key / periodsPerDay plen, minute := key % periodsPerDay plen * plen, second := 0, ms := 0 }

/-! ## District time in milliseconds -/

/-- District time as milliseconds since day 0. -/
def DistrictTime.toMs (t : DistrictTime) : Nat := ((t.day * 1440 + t.minute) * 60 + t.second) * 1000 + t.ms

/-- The district time of a number of milliseconds since day 0. -/
def DistrictTime.ofMs (n : Nat) : DistrictTime :=
  { day := n / 86400000, minute := n / 60000 % 1440, second := n / 1000 % 60, ms := n % 1000 }

/-- The last value of district time: day 65 535, 23:59:59.999 (R1). -/
def lastTime : DistrictTime := { day := 65535, minute := 1439, second := 59, ms := 999 }

/-- One millisecond of counting, with the rolls of R1; at the last value time stays. -/
def DistrictTime.tick (t : DistrictTime) : DistrictTime :=
  if t = lastTime then t
  else if t.ms < 999 then { t with ms := t.ms + 1 }
  else if t.second < 59 then { t with second := t.second + 1, ms := 0 }
  else if t.minute < 1439 then { t with minute := t.minute + 1, second := 0, ms := 0 }
  else { day := t.day + 1, minute := 0, second := 0, ms := 0 }

/-! ## The backup clock (R8) -/

/-- One second of the backup clock's own count, with the same rolls as R1. -/
def BackupClock.tickSecond (b : BackupClock) : BackupClock :=
  if b.day = 65535 ∧ b.minute = 1439 ∧ b.second = 59 then { b with phase := 0 }
  else if b.second < 59 then { b with second := b.second + 1, phase := 0 }
  else if b.minute < 1439 then { b with minute := b.minute + 1, second := 0, phase := 0 }
  else { day := b.day + 1, minute := 0, second := 0, phase := 0 }

/-- One millisecond of the backup clock's own count (log 8: DESIGN CHOICE). -/
def BackupClock.tick (b : BackupClock) : BackupClock :=
  if b.phase < 999 then { b with phase := b.phase + 1 } else b.tickSecond

/-- Loading the backup clock with the day, minute and second of district time (R8, log 8: DESIGN CHOICE). -/
def DistrictTime.toBackup (t : DistrictTime) : BackupClock :=
  { day := t.day, minute := t.minute, second := t.second, phase := 0 }

/-- District time taken from the backup clock, with the millisecond 0 (R14). -/
def BackupClock.toTime (b : BackupClock) : DistrictTime :=
  { day := b.day, minute := b.minute, second := b.second, ms := 0 }

/-! ## Period events (R2, R3, R4) -/

/-- Issue a period event to every block that keeps per-period state, and the day close when a day start was crossed. -/
def Inbox.issue (b : Inbox) (plen oldKey newKey : Nat) : Inbox :=
  let e : PeriodEvent := { oldKey := oldKey, newKey := newKey }
  let n := periodsPerDay plen
  { planner := b.planner ++ [e]
    gate := b.gate ++ [e]
    meter := b.meter ++ [e]
    close := b.close ++ [e]
    billing :=
      if oldKey / n = newKey / n then b.billing
      else b.billing ++ [{ closedDay := oldKey / n, newDay := newKey / n, newKey := newKey }] }

/-- District time becomes t, having been in the period of oldKey: the backup clock is loaded (R8), the new key is written into
the retained key, and a boundary or a jump is issued when the key rose (R2, R4, R10). -/
def State.moveTime (s : State) (oldKey : Nat) (t : DistrictTime) : State :=
  let newKey := t.key s.settings.periodLength
  let s := s.withTime { s.time with time := t, retainedKey := newKey, backup := t.toBackup }
  if oldKey < newKey then s.withInbox (s.inbox.issue s.settings.periodLength oldKey newKey) else s

/-- The part is powered and in WAIT_TIME or RUN. -/
def State.working (s : State) : Bool :=
  s.startup.powered && (s.startup.state == .waitTime || s.startup.state == .run)

/-- The part is powered and in RUN. -/
def State.running (s : State) : Bool := s.startup.powered && s.startup.state == .run

/-- Counting carries district time across a period start at the next millisecond (R2). -/
def State.boundaryDue (s : State) : Bool :=
  s.running && s.time.counting && !s.startup.catchUpDue &&
    decide (s.curKey < s.time.time.tick.key s.settings.periodLength)

/-- Whether an interval of n ms that started at a given elapsed time has passed; false while the timer is stopped. -/
def timerDue (start : Option Nat) (n now : Nat) : Bool :=
  match start with
  | some t => decide (t + n ≤ now)
  | none => false

/-! ## One millisecond -/

/-- The idle count of the canal line over one millisecond (R38): ten-thousandths of a byte time at the line rate; the character
being received runs out first, and while this station sends the count stays 0. -/
def LineInterface.tick (l : LineInterface) (rate : Nat) : LineInterface :=
  if l.tx = .sending then { l with idle := 0, idlePhase := 0, charLeft := 0 }
  else
    let units := l.idlePhase + (rate - l.charLeft)
    { l with charLeft := l.charLeft - rate, idle := min 255 (l.idle + units / 10000), idlePhase := units % 10000 }

/-- One millisecond of elapsed time and of the idle count, without district time. In LOADING and CONFIG_FAULT the idle count runs at
the line rate of the settings held (R38; log 9: DESIGN CHOICE). -/
def State.tickElapsed (s : State) : State :=
  (s.withTime { s.time with elapsed := s.time.elapsed + 1, backup := s.time.backup.tick }).withLine
    (s.line.tick s.settings.line.rate)

/-- One millisecond in which no command is due: with supply, elapsed time, the idle count, the backup clock and, while counting
is RUNNING, district time advance (R1, R5, R8, R38); without supply, the backup clock alone (section 1.5). -/
def State.tick (s : State) : State :=
  if s.startup.powered then
    let s := s.tickElapsed
    if s.time.counting then s.withTime { s.time with time := s.time.time.tick } else s
  else s.withTime { s.time with backup := s.time.backup.tick }

/-! ## Setting and trimming (section 1.6) -/

/-- The value check of a TIME_SET (R9). -/
def timeWellFormed (t : DistrictTime) : Bool := decide (t.minute ≤ 1439) && decide (t.second ≤ 59) && decide (t.ms ≤ 999)

/-- The check of a well-formed TIME_SET in RUN against the current state (R9): not before the start of the current period,
and in SET quality a move of at most 30 000 ms. -/
def State.timeSetAccepted (s : State) (t : DistrictTime) : Bool :=
  decide ((periodStart s.settings.periodLength s.curKey).toMs ≤ t.toMs) &&
    (s.time.quality != .set ||
      decide (t.toMs ≤ s.time.time.toMs + 30000) && decide (s.time.time.toMs ≤ t.toMs + 30000))

/-- Time quality after an accepted TIME_SET: SET on the main crystal, DEGRADED on the internal oscillator (R10, R11). -/
def qualityAfterSet (source : ClockSource) : Config.Quality :=
  match source with
  | .main => .set
  | .internal => .degraded

/-- The time to which a TIME_TRIM of x seconds moves district time (R12): at most 2 s either way, not before the start of the
current period and not past the last value (R1). -/
def State.trimmedTime (s : State) (x : Int) : DistrictTime :=
  let ms : Int := (s.time.time.toMs : Int) + clampInt (-2) 2 x * 1000
  let low := (periodStart s.settings.periodLength s.curKey).toMs
  DistrictTime.ofMs (min lastTime.toMs (max low ms.toNat))

end Sys2Proof.Machine
end

