-- ==== Sys2Proof/Machine/BookOps.lean ====
section
/-! DEFINITION. The operations of the Order Book (chapter 2) over its slots: windows, admission, grant schedules, period changes. -/

namespace Sys2Proof.Machine

open Sys2Proof.Config (Settings)

/-- The configured part of a turnout; a turnout index above 15 is not configured (R23). -/
def configOf (c : Settings) (turnout : Nat) : Config.Turnout := c.turnouts.getD turnout default

/-- The turnout is configured: its entry is marked present (section 2.3). -/
def present (c : Settings) (turnout : Nat) : Bool := (configOf c turnout).present

/-- τ_t of a turnout. -/
def tauOf (c : Settings) (turnout : Nat) : Nat := (configOf c turnout).tau

/-! ## One order -/

/-- End key: start key + duration − 1 (section 2.1). -/
def Order.endKey (o : Order) : Nat := o.startKey + o.duration - 1

/-- The window of the order contains period p. -/
def Order.windowHas (o : Order) (p : Nat) : Bool := decide (o.startKey ≤ p) && decide (p ≤ o.endKey)

/-- Window plus tail of the order contains period p. -/
def Order.tailHas (o : Order) (p : Nat) : Bool := decide (o.startKey ≤ p) && decide (p ≤ o.endKey + 1)

/-- PENDING or ACTIVE: the order has own demand in its window (R70). -/
def Order.demands (o : Order) : Bool := o.state == .pending || o.state == .active

/-- PENDING, ACTIVE or CLOSING: the order takes part in OVERLAP, CAPACITY, grant writes and attribution (R22, R26, R35, R80). -/
def Order.planned (o : Order) : Bool := o.state != .closedUnbilled

/-- The granted rate of entry 0. -/
def Order.entry0 (o : Order) : Nat := (o.grants.getD 0 { rate := 0, frozen := false }).rate

/-- The order's ranges meet: two windows plus tails have a period in common (R26). -/
def tailsMeet (s1 e1 s2 e2 : Nat) : Bool := decide (s1 ≤ e2 + 1) && decide (s2 ≤ e1 + 1)

/-! ## The slots (R16) -/

/-- The live order in a slot. -/
def OrderBook.at? (b : OrderBook) (slot : Nat) : Option Order := (b.slots[slot]?).join

/-- The live orders with their slots, in ascending slot order. -/
def OrderBook.live (b : OrderBook) : List (Nat × Order) :=
  b.slots.zipIdx.filterMap fun p => p.1.map fun o => (p.2, o)

/-- The lowest-numbered FREE slot. -/
def OrderBook.freeSlot (b : OrderBook) : Option Nat := b.slots.findIdx? (·.isNone)

/-- The slot and the record of the live order with a number (R16). -/
def OrderBook.find (b : OrderBook) (number : Nat) : Option (Nat × Order) := b.live.find? fun p => p.2.number == number

/-- Put a record into a slot, or free it. -/
def OrderBook.put (b : OrderBook) (slot : Nat) (o : Option Order) : OrderBook := { b with slots := b.slots.set slot o }

/-- Change every live record. -/
def OrderBook.mapLive (b : OrderBook) (f : Order → Order) : OrderBook := { b with slots := b.slots.map (Option.map f) }

/-- The ACTIVE order on a turnout. -/
def OrderBook.activeOn (b : OrderBook) (turnout : Nat) : Option Order :=
  (b.live.find? fun p => p.2.turnout == turnout && p.2.state == .active).map (·.2)

/-- The grant in force at a turnout: entry 0 of its ACTIVE order, else 0 (R34). -/
def OrderBook.grantInForce (b : OrderBook) (turnout : Nat) : Nat := ((b.activeOn turnout).map Order.entry0).getD 0

/-- Whether the turnout has an ACTIVE or CLOSING order (R34). -/
def OrderBook.hasLiveDraw (b : OrderBook) (turnout : Nat) : Bool :=
  b.live.any fun p => p.2.turnout == turnout && (p.2.state == .active || p.2.state == .closing)

/-! ## Admission (section 2.3) -/

/-- The form check of ORDER_PLACE (R23). -/
def formGood (plen : Nat) (r : OrderRequest) : Bool :=
  r.number != 0 && decide (1 ≤ r.cls) && decide (r.cls ≤ 4) && decide (1 ≤ r.duration) && decide (r.duration ≤ 288) &&
    decide (r.startKey + r.duration ≤ highestKey plen)

/-- Earliest start of an order (R25). -/
def earliestStart (c : Settings) (current cls : Nat) : Nat :=
  if cls = 2 then current + 1 else current + max c.station.minNotice 1

/-- The frost watch is active at a key (R25, R62). -/
def watchActive (watchEnd key : Nat) : Bool := watchEnd != 0 && decide (key ≤ watchEnd)

/-- The sum of the requested rates of the planned orders whose window contains p (R26). -/
def OrderBook.rateSum (b : OrderBook) (p : Nat) : Nat :=
  sumList ((b.live.filter fun q => q.2.planned && q.2.windowHas p).map fun q => q.2.rate)

/-- The admission checks of R24 in the order of the table; none when every check passes. -/
def State.admission (s : State) (r : OrderRequest) : Option ResultCode :=
  let c := s.settings
  let current := s.curKey
  let endKey := r.startKey + r.duration - 1
  let account := s.billing.accounts.getD r.account resetAccount
  if s.book.freeSlot.isNone then some .full
  else if (s.book.find r.number).isSome then some .duplicate
  else if !present c r.turnout then some .badTurnout
  else if !(s.meters.turnouts.getD r.turnout resetTurnout).inService then some .outOfService
  else if account.number = 0 ∨ account.state = .closed then some .account
  else if account.state = .hold then some .hold
  else if r.rate < 5 ∨ (configOf c r.turnout).capacity < r.rate then some .rate
  else if r.startKey < earliestStart c current r.cls then some .tooSoon
  else if current + c.station.horizon < r.startKey then some .tooFar
  else if r.cls = 2 ∧ !(watchActive s.neigh.watchEnd current && decide (endKey ≤ s.neigh.watchEnd)) then some .noWatch
  else if s.book.live.any fun p =>
      p.2.turnout == r.turnout && p.2.planned && tailsMeet r.startKey endKey p.2.startKey p.2.endKey then some .overlap
  else if (List.range r.duration).any fun k =>
      decide (c.reach.reachCapacity < s.book.rateSum (r.startKey + k) + r.rate) then some .capacity
  else none

/-- A fresh grant schedule (R27): twenty entries of rate 0, those with index below τ_t frozen. -/
def freshGrants (tau : Nat) : List GrantEntry := (List.range 20).map fun i => { rate := 0, frozen := decide (i < tau) }

/-- The record of an admitted order (R25, R27). -/
def admittedOrder (c : Settings) (r : OrderRequest) (cls : WaterClass) : Order :=
  { number := r.number, turnout := r.turnout, account := r.account, cls := cls, startKey := r.startKey,
    duration := r.duration, rate := r.rate, state := .pending, grants := freshGrants (tauOf c r.turnout), floor := 0,
    granted := 0, delivered := 0, flags := { OrderFlags.clear with frost := cls == .frost }, closeKey := none,
    charge := none, record := none }

/-! ## Grant writes (R31, R32) -/

/-- The planner writes a granted rate for a period key (R31): discarded outside book key to book key + 19, on a frozen entry and on
a CLOSED_UNBILLED order; a change of entry 0 lowers the period floor grant (R32). -/
def Order.writeGrant (bookKey key rate : Nat) (o : Order) : Order :=
  if !o.planned || decide (key < bookKey) then o
  else
    match o.grants[key - bookKey]? with
    | none => o
    | some e =>
      if e.frozen then o
      else { o with
        grants := o.grants.set (key - bookKey) { e with rate := rate }
        floor := if key = bookKey ∧ rate ≠ e.rate then min o.floor rate else o.floor }

/-! ## Period change (R17 to R20) -/

/-- The accrual of the period that ends (R18): an ACTIVE order gains the period floor grant × period seconds, and CURTAILED when
the floor is below the requested rate. -/
def Order.accrue (seconds : Nat) (o : Order) : Order :=
  if o.state = .active then
    { o with
      granted := satAdd volumeMax o.granted (o.floor * seconds)
      flags := { o.flags with curtailed := o.flags.curtailed || decide (o.floor < o.rate) } }
  else o

/-- Mark frozen every entry with index below τ_t (R19). -/
def freezeBelow (tau : Nat) (es : List GrantEntry) : List GrantEntry :=
  es.zipIdx.map fun p => if p.2 < tau then { p.1 with frozen := true } else p.1

/-- Shift a grant schedule by n entries (R19): entries for past periods leave, new ones join at rate 0 and open. -/
def shiftGrants (n : Nat) (es : List GrantEntry) : List GrantEntry :=
  es.drop n ++ List.replicate (min n 20) { rate := 0, frozen := false }

/-- The shift of a live order's schedule, the freeze, and the new period floor grant (R19). -/
def Order.shift (c : Settings) (n : Nat) (o : Order) : Order :=
  let grants := freezeBelow (tauOf c o.turnout) (shiftGrants n o.grants)
  let o := { o with grants := grants }
  { o with floor := o.entry0 }

/-- The range lo..hi meets the outage span first..last; an empty span (last < first) meets nothing. -/
def meetsSpan (lo hi first last : Nat) : Bool := decide (first ≤ last) && decide (lo ≤ last) && decide (first ≤ hi)

/-- What a period change from B to N makes of an order by its keys (R20): `none` when it closes, else its new state. -/
def Order.stateAt (o : Order) (n : Nat) : Option OrderState :=
  if o.endKey + 2 ≤ n then none
  else if o.endKey + 1 = n then some .closing
  else if o.startKey ≤ n then some .active
  else some .pending

/-- Whether R20 sets OUTAGE on the order at a period change from B to N. -/
def Order.outageAt (o : Order) (b n : Nat) : Bool :=
  match o.stateAt n with
  | none => meetsSpan o.startKey (o.endKey + 1) (b + 1) (n - 1)
  | some .pending => false
  | some _ => meetsSpan o.startKey o.endKey (b + 1) (n - 1)

/-- The order after the shift takes the state of R20 with its OUTAGE flag; one that closes keeps its former state here. -/
def Order.advance (b n : Nat) (o : Order) : Order :=
  if o.planned then
    { o with
      state := (o.stateAt n).getD o.state
      flags := { o.flags with outage := o.flags.outage || o.outageAt b n } }
  else o

/-- The order closes at the change to N (R20, R21). -/
def Order.closesAt (n : Nat) (o : Order) : Bool := o.planned && (o.stateAt n).isNone

/-- Accrual, shift and new state of one order at a period change from B to N (R18 to R20). -/
def Order.periodChange (c : Settings) (b n : Nat) (o : Order) : Order :=
  ((o.accrue (periodSeconds c)).shift c (n - b)).advance b n

/-- GRANT_CHANGED at a period change (R33): an order that stays ACTIVE with another entry 0, or becomes ACTIVE with an entry 0 other
than its requested rate. -/
def grantChangedAt (old new : Order) (n : Nat) : Bool :=
  new.state == .active && !new.closesAt n &&
    (if old.state = .active then old.entry0 != new.entry0 else new.entry0 != new.rate)

/-! ## Attribution (R35) -/

/-- The slot of the PENDING, ACTIVE or CLOSING order on a turnout whose window plus tail contains k. -/
def OrderBook.takerOf (b : OrderBook) (turnout k : Nat) : Option (Nat × Order) :=
  b.live.find? fun p => p.2.turnout == turnout && p.2.planned && p.2.tailHas k

/-- The order takes an offered volume (R35). -/
def Order.deliver (litres : Nat) (estimated : Bool) (o : Order) : Order :=
  { o with
    delivered := satAdd volumeMax o.delivered litres
    flags := { o.flags with estimated := o.flags.estimated || estimated } }

end Sys2Proof.Machine
end

