-- ==== Sys2Proof/Machine/LineOps.lean ====
section
/-! DEFINITION. Canal-line frames (sections 12.2, 3.2), the notices (section 3.4), and the receiver and transmitter of the Line
Interface (chapter 3). -/

namespace Sys2Proof.Machine

open Sys2Proof.Config (Settings Quality)

/-! ## Codings (R187, R189) -/

/-- The canal line's sync byte. -/
def lineSync : Byte := 0xA7
/-- Kind byte of a REACH notice. -/
def reachKind : Byte := 0x11
/-- Kind byte of a WATCH notice. -/
def watchKind : Byte := 0x12

/-- The number of a time quality, from 0 in the order of its table. -/
def qualityCode : Quality → Nat
  | .set => 0
  | .free => 1
  | .degraded => 2

/-- The time quality that a received byte names; an undefined byte gives the free value (log 13). -/
def qualityOf (b : Byte) : Quality :=
  if b = 0 then .set else if b = 1 then .free else if b = 2 then .degraded else Config.undefinedQuality b

/-- The status flags as a number, TRIPPED at bit 0. -/
def StatusFlags.code (f : StatusFlags) : Nat :=
  bitsOf [f.tripped, f.gateFault, f.levelFault, f.guarding, f.upstreamLost, f.manual]

/-- The status flags of a received byte. -/
def statusOf (b : Byte) : StatusFlags :=
  { tripped := b.getLsbD 0, gateFault := b.getLsbD 1, levelFault := b.getLsbD 2, guarding := b.getLsbD 3,
    upstreamLost := b.getLsbD 4, manual := b.getLsbD 5 }

/-- The four classes in order. -/
def classes : List WaterClass := [.senior, .frost, .standard, .surplus]

/-- One class of a 12-offset array: 24 bytes, offsets 0 to 11. -/
def classBytes (xs : List ByClass) (c : WaterClass) : List Byte := xs.flatMap fun x => toBytes 2 (x.get c)

/-- Class 1 offsets 0 to 11, then classes 2, 3 and 4. -/
def planBytes (xs : List ByClass) : List Byte := classes.flatMap (classBytes xs)

/-- A class is present in a block when some entry of it is not 0 (R190). -/
def classPresent (xs : List ByClass) (c : WaterClass) : Bool := xs.any fun x => x.get c != 0

/-- A grant block: station number, class mask, and 24 bytes for each class present (R189, R190). -/
def GrantBlock.bytes (b : GrantBlock) : List Byte :=
  byte b.station ++ byte (bitsOf (classes.map (classPresent b.grants))) ++
    (classes.filter (classPresent b.grants)).flatMap (classBytes b.grants)

/-- A closing pair: key, litres, estimated mark (R189). -/
def ClosingPair.bytes (p : ClosingPair) : List Byte := toBytes 4 p.key ++ toBytes 4 p.litres ++ markByte p.estimated

/-- The fields of a REACH notice (R45). -/
structure ReachFields where
  key : Nat
  quality : Quality
  flags : StatusFlags
  level : Nat
  watchEnd : Nat
  plan : List ByClass
  blocks : List GrantBlock
  pairs : List ClosingPair
  deriving DecidableEq, Repr

/-- The REACH payload (R189). -/
def ReachFields.bytes (f : ReachFields) : List Byte :=
  toBytes 4 f.key ++ byte (qualityCode f.quality) ++ byte f.flags.code ++ toBytes 2 f.level ++ toBytes 4 f.watchEnd ++
    byte f.blocks.length ++ byte f.pairs.length ++ planBytes f.plan ++ f.blocks.flatMap GrantBlock.bytes ++
    f.pairs.flatMap ClosingPair.bytes

/-- The WATCH payload: sender key, then watch end key (R189). -/
def watchBytes (key watchEnd : Nat) : List Byte := toBytes 4 key ++ toBytes 4 watchEnd

/-- A canal-line frame around a payload: sync, kind, sender, length, payload, CRC over kind to payload (R189). -/
def lineFrame (kind : Byte) (sender : Nat) (payload : List Byte) : List Byte :=
  let body := kind :: (byte sender ++ toBytes 2 payload.length ++ payload)
  lineSync :: (body ++ crcBytes body)

/-! ## Decoding a received frame (R40, R189, R190) -/

/-- A decoded notice: what the Line Interface hands to the Neighbour Table. -/
inductive Notice where
  | reach (sender : Nat) (fields : ReachFields)
  | watch (sender key watchEnd : Nat)
  deriving DecidableEq, Repr

/-- The n bytes from an offset on, as a number. -/
def fieldAt (bs : List Byte) (offset n : Nat) : Nat := ofBytes ((bs.drop offset).take n)

/-- The byte at an offset. -/
def byteAt (bs : List Byte) (offset : Nat) : Byte := bs.getD offset 0

/-- Twelve values of one class from 24 bytes. -/
def twelve (bs : List Byte) : List Nat := (List.range 12).map fun i => fieldAt bs (2 * i) 2

/-- Twelve offsets of four classes from the twelve values of each. -/
def combine (a b c d : List Nat) : List ByClass :=
  (List.range 12).map fun i => { c1 := a.getD i 0, c2 := b.getD i 0, c3 := c.getD i 0, c4 := d.getD i 0 }

/-- The plan of a REACH payload: 96 bytes at offset 14. -/
def decodePlan (bs : List Byte) : List ByClass :=
  combine (twelve (bs.drop 14)) (twelve (bs.drop 38)) (twelve (bs.drop 62)) (twelve (bs.drop 86))

/-- One class of a block: present when its bit is set, else twelve grants of 0 (R190); and the bytes that remain. -/
def takeClass (mask : Byte) (bit : Nat) (bs : List Byte) : List Nat × List Byte :=
  if mask.getLsbD bit then (twelve bs, bs.drop 24) else (List.replicate 12 0, bs)

/-- The number of classes whose bit is set in a mask. -/
def maskCount (mask : Byte) : Nat :=
  sumList ((List.range 4).map fun i => if mask.getLsbD i then 1 else 0)

/-- One grant block at the head of the bytes, with the bytes that follow it; none when the mask has a bit above bit 3 or the
block passes the end (R190). -/
def takeBlock (bs : List Byte) : Option (GrantBlock × List Byte) :=
  match bs with
  | station :: mask :: rest =>
    if 16 ≤ mask.toNat ∨ rest.length < 24 * maskCount mask then none
    else
      let (a, r1) := takeClass mask 0 rest
      let (b, r2) := takeClass mask 1 r1
      let (c, r3) := takeClass mask 2 r2
      let (d, r4) := takeClass mask 3 r3
      some ({ station := station.toNat, grants := combine a b c d }, r4)
  | _ => none

/-- A number of grant blocks in order. -/
def takeBlocks : Nat → List Byte → Option (List GrantBlock × List Byte)
  | 0, bs => some ([], bs)
  | n + 1, bs =>
    match takeBlock bs with
    | none => none
    | some (b, rest) => (takeBlocks n rest).map fun p => (b :: p.1, p.2)

/-- The closing pairs, 9 bytes each. An estimated-mark byte other than 0 is read as set (R190). -/
def takePairs (n : Nat) (bs : List Byte) : List ClosingPair :=
  (List.range n).map fun i =>
    { key := fieldAt bs (9 * i) 4, litres := fieldAt bs (9 * i + 4) 4, estimated := byteAt bs (9 * i + 8) != 0 }

/-- A REACH payload whose length is the length that its counts and masks call for (R190), decoded. -/
def decodeReach (bs : List Byte) : Option ReachFields :=
  let blockCount := fieldAt bs 12 1
  let pairCount := fieldAt bs 13 1
  if bs.length < 110 ∨ 3 < blockCount ∨ 2 < pairCount then none
  else
    match takeBlocks blockCount (bs.drop 110) with
    | none => none
    | some (blocks, rest) =>
      if rest.length ≠ 9 * pairCount then none
      else some
        { key := fieldAt bs 0 4, quality := qualityOf (byteAt bs 4), flags := statusOf (byteAt bs 5), level := fieldAt bs 6 2,
          watchEnd := fieldAt bs 8 4, plan := decodePlan bs, blocks := blocks, pairs := takePairs pairCount rest }

/-- The checks of R40 on a complete frame, in its order: CRC, sender, own number, kind, payload length; the notice when all pass. -/
def decodeFrame (own : Nat) (frame : List Byte) : Option Notice :=
  let body := (frame.drop 1).take (frame.length - 3)
  let sender := fieldAt frame 2 1
  let payload := (frame.drop 5).take (frame.length - 7)
  if frame.length < 7 ∨ byteAt frame 0 ≠ lineSync ∨ fieldAt frame 3 2 ≠ payload.length ∨ 480 < payload.length then none
  else if crcBytes body ≠ frame.drop (frame.length - 2) then none
  else if sender = 0 ∨ 250 < sender then none
  else if sender = own then none
  else if byteAt frame 1 = reachKind then (decodeReach payload).map (Notice.reach sender)
  else if byteAt frame 1 = watchKind then
    if payload.length = 8 then some (.watch sender (fieldAt payload 0 4) (fieldAt payload 4 4)) else none
  else none

/-! ## Receiver (R38, R39) -/

/-- Whether a frame being assembled is complete: sync, kind, sender, length, the payload of that length, two CRC bytes. -/
def frameComplete (chars : List Byte) : Bool :=
  decide (5 ≤ chars.length) && decide (chars.length = 7 + fieldAt chars 3 2)

/-- A character hunted for the sync byte (R39). -/
def huntChar (b : Byte) (bad : Bool) : LineRx := if b = lineSync ∧ !bad then .frame [b] else .hunt

/-- A character taken in FRAME (R39): a framing error and a payload length above 480 discard the frame; a complete frame is handed on. -/
def LineInterface.takeChar (l : LineInterface) (chars : List Byte) (b : Byte) (bad : Bool) : LineInterface :=
  let chars := chars ++ [b]
  if bad then { l with rx := .hunt }
  else if chars.length = 5 ∧ 480 < fieldAt chars 3 2 then { l with rx := .hunt }
  else if frameComplete chars then { l with rx := .hunt, arrived := l.arrived ++ [chars] }
  else { l with rx := .frame chars }

/-- A character of the own frame read back (R42): a framing error or another value than the one sent is a mismatch. So is a character
that comes after the last CRC character and before NOTICE_COMPLETE is taken (log 9: DESIGN CHOICE). -/
def LineInterface.readBack (l : LineInterface) (b : Byte) (bad : Bool) : LineInterface :=
  let sent := (l.frame.map TxFrame.chars).getD []
  if bad || sent[l.readCount]? != some b then { l with readBad := true } else { l with readCount := l.readCount + 1 }

/-- A character on CL_RXD: the idle count is set to 0 and held for the character (R38, log 9: DESIGN CHOICE); then the receiver, or the
read-back of the station that sends, takes it. -/
def LineInterface.char (l : LineInterface) (b : Byte) (bad : Bool) : LineInterface :=
  let gap := decide (3 < l.idle)
  let l := { l with idle := 0, idlePhase := 0, charLeft := 10000 }
  if l.tx = .sending then l.readBack b bad
  else
    match l.rx with
    | .off => l
    | .hunt => { l with rx := huntChar b bad }
    | .frame chars => if gap then { l with rx := huntChar b bad } else l.takeChar chars b bad

/-! ## Transmitter (R41 to R47) -/

/-- Access gap in byte times (R41). -/
def accessGap (own : Nat) : Nat := 6 + own % 8

/-- Backoff count in byte times (R43). -/
def backoffCount (own attempt : Nat) : Nat := 8 + (own * 5 + attempt * 3) % 24

/-- A notice request is pending (R47). -/
def LineInterface.asked (l : LineInterface) : Bool := l.reachReq || l.watchReq

/-- The transmitter leaves QUIET for GAP when the part is in RUN, a request is pending and the holdoff is not running (R41). -/
def LineInterface.wake (inRun : Bool) (l : LineInterface) : LineInterface :=
  if inRun && l.tx == .quiet && l.asked && l.holdoff.isNone then { l with tx := .gap } else l

/-- Make a REACH request (R47 to R50). -/
def State.requestReach (s : State) : State :=
  s.withLine ({ s.line with reachReq := true }.wake s.running)

/-- Make a WATCH request (R50); in LOADING and CONFIG_FAULT requests are not recorded (R51). -/
def State.requestWatch (s : State) : State :=
  if s.working then s.withLine ({ s.line with watchReq := true }.wake s.running) else s

/-- The status flags of a REACH notice, from their owners (R45). -/
def State.statusFlags (s : State) : StatusFlags :=
  { tripped := s.gate.drive.isTripped
    gateFault := s.gate.drive == .fault
    levelFault := s.gate.levelFault
    guarding := decide (0 < s.planner.guardCut)
    upstreamLost := s.planner.source == .fallback
    manual := s.gate.mode == .manual }

/-- The announced plan of the latest recompute (R72, R90). -/
def PlanResults.plan (r : PlanResults) : List ByClass := r.offsets.map (·.announced)

/-- One grant block (R83): entries 0 to 11 of the schedule; a valueless entry is stated as the neighbour's share at offset 0. -/
def grantBlock (station : Nat) (schedule : List DownEntry) (share0 : ByClass) : GrantBlock :=
  { station := station, grants := (schedule.take 12).map fun e => e.value.getD share0 }

/-- The grant blocks, one per configured downstream neighbour in configured order (R83). -/
def State.grantBlocks (s : State) (r : PlanResults) : List GrantBlock :=
  let shares := ((r.offsets[0]?).map OffsetPlan.downShare).getD []
  s.settings.neighbours.downstream.zipIdx.map fun p =>
    grantBlock p.1.station (s.planner.schedules.getD p.2 []) (shares.getD p.2 ByClass.zero)

/-- The fields of a REACH notice, from their owners at the instant of the attempt (R45). -/
def State.reachFields (s : State) (r : PlanResults) : ReachFields :=
  { key := s.planner.planKey, quality := s.time.quality, flags := s.statusFlags, level := s.gate.lastU,
    watchEnd := s.neigh.watchEnd, plan := r.plan, blocks := s.grantBlocks r, pairs := s.close.history }

/-- The frame built at the start of an attempt (R45): REACH when a REACH request is pending, else WATCH. -/
def State.buildFrame (s : State) (r : PlanResults) : TxFrame :=
  let own := s.settings.station.number
  if s.line.reachReq then
    let f := s.reachFields r
    { chars := lineFrame reachKind own f.bytes, copy := some { key := f.key, plan := f.plan, blocks := f.blocks } }
  else { chars := lineFrame watchKind own (watchBytes s.curKey s.neigh.watchEnd), copy := none }

/-- The start of an attempt (R41, R45, R47): the pending requests become carried, CL_DE goes on, the receiver goes OFF. -/
def State.startAttempt (s : State) (r : PlanResults) : State :=
  s.withLine { s.line with
    tx := .sending, rx := .off, frame := some (s.buildFrame r), readCount := 0, readBad := false
    carriedReach := s.line.reachReq, carriedWatch := s.line.watchReq, reachReq := false, watchReq := false
    idle := 0, idlePhase := 0, charLeft := 0 }

/-- An attempt may start: RUN, a request pending and the Planner holding results (R41, R90); then it starts. -/
def State.tryAttempt (s : State) : State :=
  match s.planner.results with
  | some r => if s.running && s.line.asked then s.startAttempt r else s
  | none => s

/-- The attempt is over: CL_DE off, the receiver in HUNT, no frame (R42, R46). -/
def LineInterface.endAttempt (l : LineInterface) : LineInterface :=
  { l with rx := .hunt, frame := none, readCount := 0, readBad := false, carriedReach := false, carriedWatch := false }

/-- The carried requests become pending once more (R47). -/
def LineInterface.returnCarried (l : LineInterface) : LineInterface :=
  { l with reachReq := l.reachReq || l.carriedReach, watchReq := l.watchReq || l.carriedWatch }

/-- A collision (R42, R43, R44). -/
def State.collide (s : State) : State :=
  let l := s.line.returnCarried.endAttempt
  if l.attempt + 1 < 6 then s.withLine { l with attempt := l.attempt + 1, tx := .backoff }
  else
    (s.withLine { l with attempt := 0, tx := .quiet, holdoff := some s.time.elapsed }).raise .lineCongestion

/-- Completion of an attempt (R46): the holdoff starts; a REACH notice also restarts the notice timer and replaces the last-sent copy. -/
def State.completeNotice (s : State) : State :=
  let copy := s.line.frame.bind TxFrame.copy
  let l := { s.line.endAttempt with attempt := 0, tx := .quiet, holdoff := some s.time.elapsed }
  match copy with
  | some x => s.withLine { l with noticeTimer := some s.time.elapsed, lastSent := some x }
  | none => s.withLine l

/-! ## Comparison with the last-sent copy (R49) -/

/-- The value sent for the same period: entry plan key + i − sent key, or 0 above 11. -/
def sentAt (sent : List ByClass) (sentKey planKey i : Nat) : ByClass :=
  if planKey + i < sentKey then ByClass.zero else sent.getD (planKey + i - sentKey) ByClass.zero

/-- Two values differ by at least the threshold. -/
def farApart (threshold a b : Nat) : Bool := decide (a + threshold ≤ b) || decide (b + threshold ≤ a)

/-- Some class differs by at least the threshold. -/
def classesFarApart (threshold : Nat) (x y : ByClass) : Bool :=
  classes.any fun c => farApart threshold (x.get c) (y.get c)

/-- An array of twelve offsets against the array sent, period by period. -/
def arrayChanged (threshold planKey sentKey : Nat) (now sent : List ByClass) : Bool :=
  now.zipIdx.any fun p => classesFarApart threshold p.1 (sentAt sent sentKey planKey p.2)

/-- The grants of a station in a list of blocks; twelve zeros' worth (the empty array) when it has none. -/
def blockFor (blocks : List GrantBlock) (station : Nat) : List ByClass :=
  ((blocks.find? fun b => b.station == station).map GrantBlock.grants).getD []

/-- The plan or a grant block differs from the last-sent copy by at least the change threshold (R49); an empty copy compares as 0. -/
def State.planChanged (s : State) (r : PlanResults) : Bool :=
  let t := s.settings.line.changeThreshold
  let sent := s.line.lastSent.getD { key := s.planner.planKey, plan := [], blocks := [] }
  let key := s.planner.planKey
  arrayChanged t key sent.key r.plan sent.plan ||
    (s.grantBlocks r).any fun b => arrayChanged t key sent.key b.grants (blockFor sent.blocks b.station)

end Sys2Proof.Machine
end

