-- ==== Sys2Proof/Decode.lean ====
section
/-! DEFINITION. The words of the table (none has bits) and the station-link frames of commands, decoded and encoded (sections 10.1 and 12.4). -/

namespace Sys2Proof

open Sys2Proof.Machine (LinkFrame toBytes ofBytes ofBytesSigned toBytesSigned fieldAt byteAt crcBytes byte)

/-- The command a word spells by the table's bits. The table gives no row any bits, so no word spells one (log 25: DESIGN CHOICE). -/
def decodeTableWord (_nbits _w : Nat) : Option Instr := none

/-! ## Payloads (R192) -/

/-- The four values of a class row: 2 bytes each, class order. -/
def readClasses (p : List Byte) (offset : Nat) : ByClass :=
  { c1 := fieldAt p offset 2, c2 := fieldAt p (offset + 2) 2, c3 := fieldAt p (offset + 4) 2, c4 := fieldAt p (offset + 6) 2 }

/-- The four values of a class row as bytes. -/
def classRow (x : ByClass) : List Byte := toBytes 2 x.c1 ++ toBytes 2 x.c2 ++ toBytes 2 x.c3 ++ toBytes 2 x.c4

/-- A rate table of 34 bytes (R192, code 1A; R193, section 9): the four classes of a rate stand together, tier 1 first (log 11: DESIGN CHOICE). -/
def readRates (p : List Byte) : RateTable :=
  { tier1 := readClasses p 0, tier2 := readClasses p 8, unused := readClasses p 16, unordered := fieldAt p 24 2,
    callOut := fieldAt p 26 4, lateCancel := fieldAt p 30 4 }

/-- A rate table as 34 bytes. -/
def rateBytes (t : RateTable) : List Byte :=
  classRow t.tier1 ++ classRow t.tier2 ++ classRow t.unused ++ toBytes 2 t.unordered ++ toBytes 4 t.callOut ++
    toBytes 4 t.lateCancel

/-- The fields of an ORDER_PLACE payload. -/
def readOrder (p : List Byte) : OrderRequest :=
  { number := fieldAt p 0 2, turnout := fieldAt p 2 1, account := fieldAt p 3 1, cls := fieldAt p 4 1,
    startKey := fieldAt p 5 4, duration := fieldAt p 9 2, rate := fieldAt p 11 2 }

/-- An ORDER_PLACE payload. -/
def orderBytes (r : OrderRequest) : List Byte :=
  toBytes 2 r.number ++ byte r.turnout ++ byte r.account ++ byte r.cls ++ toBytes 4 r.startKey ++ toBytes 2 r.duration ++
    toBytes 2 r.rate

/-- The alert marks of 3 bytes. -/
def readMarks (p : List Byte) : BitVec 24 := BitVec.ofNat 24 (fieldAt p 0 3)

/-- One row of the table of R192: a kind code, the payload lengths it calls for, and the command of a payload. -/
structure LinkRow where
  kind : Byte
  fits : Nat → Bool
  read : List Byte → Instr

/-- A row whose payload has one fixed length. -/
def fixedRow (kind : Byte) (length : Nat) (read : List Byte → Instr) : LinkRow :=
  { kind := kind, fits := fun n => n == length, read := read }

/-- The read commands of the table of R192. -/
def readRows : List LinkRow :=
  [ fixedRow 0x01 1 fun p => .statusRead (fieldAt p 0 1)
  , fixedRow 0x02 1 fun p => .planRead (fieldAt p 0 1)
  , fixedRow 0x03 2 fun p => .orderQuery (fieldAt p 0 2)
  , fixedRow 0x04 0 fun _ => .bookList
  , fixedRow 0x05 1 fun p => .accountQuery (fieldAt p 0 1)
  , fixedRow 0x06 1 fun p => .turnoutQuery (fieldAt p 0 1)
  , fixedRow 0x07 1 fun p => .logRead (fieldAt p 0 1)
  , fixedRow 0x08 0 fun _ => .alertRead ]

/-- The other commands of the table of R192. The millisecond of TIME_SET takes 2 bytes (log 11: DESIGN CHOICE). -/
def writeRows : List LinkRow :=
  [ fixedRow 0x10 7 fun p => .timeSet (fieldAt p 0 2) (fieldAt p 2 2) (fieldAt p 4 1) (fieldAt p 5 2)
  , fixedRow 0x11 1 fun p => .timeTrim (ofBytesSigned (p.take 1))
  , fixedRow 0x12 2 fun p => .supplySet (fieldAt p 0 2)
  , fixedRow 0x13 4 fun p => .watchDeclare (fieldAt p 0 4)
  , fixedRow 0x14 13 fun p => .orderPlace (readOrder p)
  , fixedRow 0x15 2 fun p => .orderCancel (fieldAt p 0 2)
  , fixedRow 0x16 2 fun p => .orderShutoff (fieldAt p 0 2)
  , fixedRow 0x17 10 fun p => .accountSet (fieldAt p 0 1) (fieldAt p 1 4) (fieldAt p 5 4) (fieldAt p 9 1)
  , fixedRow 0x18 2 fun p => .turnoutService (fieldAt p 0 1) (fieldAt p 1 1)
  , fixedRow 0x19 2 fun p => .turnoutAck (fieldAt p 0 1) (byteAt p 1)
  , fixedRow 0x1A 34 fun p => .ratesStage (readRates p)
  , fixedRow 0x1B 2 fun p => .targetStage (fieldAt p 0 2)
  , fixedRow 0x1C 3 fun p => .gateMode (fieldAt p 0 1) (fieldAt p 1 2)
  , fixedRow 0x1D 0 fun _ => .tripClear
  , fixedRow 0x1E 2 fun p => .logRelease (fieldAt p 0 2)
  , fixedRow 0x1F 3 fun p => .alertAck (readMarks p)
  , fixedRow 0x20 3 fun p => .alertMask (readMarks p)
  , fixedRow 0x21 0 fun _ => .seasonClose
  , fixedRow 0x22 0 fun _ => .restart
  , fixedRow 0x23 0 fun _ => .noticeNow
  , { kind := 0x30, fits := fun n => decide (3 ≤ n) && decide (n ≤ 514), read := fun p => .configData (fieldAt p 0 2) (p.drop 2) }
  , fixedRow 0x31 0 fun _ => .configEnd ]

/-- The table of R192. -/
def linkRows : List LinkRow := readRows ++ writeRows

/-- The command of a checked frame: UNKNOWN_COMMAND when the kind names none or calls for another length (R168). -/
def decodeCommand (kind : Byte) (payload : List Byte) : Instr :=
  match linkRows.find? fun r => r.kind == kind with
  | some r => if r.fits payload.length then r.read payload else .unknownCommand kind
  | none => .unknownCommand kind

/-- The frame's check agrees: its characters after the sync are kind, length, payload of that length, at most 1 024 bytes, and
the CRC over them (R168). -/
def framePasses (f : LinkFrame) : Bool :=
  !f.bad && decide (f.chars.length = 5 + fieldAt f.chars 1 2) && decide (fieldAt f.chars 1 2 ≤ 1024) &&
    decide (crcBytes (f.chars.take (f.chars.length - 2)) = f.chars.drop (f.chars.length - 2))

/-- The command that a complete frame of the station link stands for (R168): CHECK for a failed frame, with its kind byte. -/
def decodeLink (f : LinkFrame) : Instr :=
  if framePasses f then decodeCommand (byteAt f.chars 0) ((f.chars.drop 3).take (f.chars.length - 5))
  else .check (byteAt f.chars 0)

/-! ## Encoding -/

/-- The kind code and the payload of a command of the station link; none for the other rows of the table. -/
def linkPayload : Instr → Option (Byte × List Byte)
  | .statusRead part => some (0x01, byte part)
  | .planRead part => some (0x02, byte part)
  | .orderQuery number => some (0x03, toBytes 2 number)
  | .bookList => some (0x04, [])
  | .accountQuery index => some (0x05, byte index)
  | .turnoutQuery turnout => some (0x06, byte turnout)
  | .logRead count => some (0x07, byte count)
  | .alertRead => some (0x08, [])
  | .timeSet day minute second ms => some (0x10, toBytes 2 day ++ toBytes 2 minute ++ byte second ++ toBytes 2 ms)
  | .timeTrim seconds => some (0x11, toBytesSigned 1 seconds)
  | .supplySet flow => some (0x12, toBytes 2 flow)
  | .watchDeclare key => some (0x13, toBytes 4 key)
  | .orderPlace request => some (0x14, orderBytes request)
  | .orderCancel number => some (0x15, toBytes 2 number)
  | .orderShutoff number => some (0x16, toBytes 2 number)
  | .accountSet index allotment limit state =>
    some (0x17, byte index ++ toBytes 4 allotment ++ toBytes 4 limit ++ byte state)
  | .turnoutService turnout direction => some (0x18, byte turnout ++ byte direction)
  | .turnoutAck turnout marks => some (0x19, byte turnout ++ [marks])
  | .ratesStage table => some (0x1A, rateBytes table)
  | .targetStage level => some (0x1B, toBytes 2 level)
  | .gateMode mode opening => some (0x1C, byte mode ++ toBytes 2 opening)
  | .tripClear => some (0x1D, [])
  | .logRelease count => some (0x1E, toBytes 2 count)
  | .alertAck marks => some (0x1F, toBytes 3 marks.toNat)
  | .alertMask marks => some (0x20, toBytes 3 marks.toNat)
  | .seasonClose => some (0x21, [])
  | .restart => some (0x22, [])
  | .noticeNow => some (0x23, [])
  | .configData offset bytes => some (0x30, toBytes 2 offset ++ bytes)
  | .configEnd => some (0x31, [])
  | .resetRelease _ _ _ | .supplyLoss | .imageReadComplete _ | .catchUp | .periodBoundary | .crystalStop | .crystalRunning
  | .planPeriodChange | .gatePeriodBoundary | .meterPeriodClose | .periodClose | .billingDayClose | .lineFrameReceived _
  | .lineFrameGap | .holdExpiry _ | .accessGapReached | .collision | .backoffExpiry | .noticeComplete | .holdoffExpiry
  | .noticeTimerExpiry | .levelSample _ | .sampleWatchExpiry | .encoderStep _ | .limitInputChange _ _ | .restExpiry
  | .stallExpiry | .supplyLowChange _ | .tripInputChange _ | .tripWaitExpiry | .meterPulse _ | .noFlowExpiry _
  | .linkFrameReceived _ _ | .linkFrameGap | .replySent | .check _ | .unknownCommand _ | .moderationExpiry
  | .lineCharacterReceived _ _ | .linkCharacterReceived _ _ => none

/-- The characters of a link frame after its sync byte (R192). -/
def linkChars (kind : Byte) (payload : List Byte) : List Byte :=
  let body := kind :: (toBytes 2 payload.length ++ payload)
  body ++ crcBytes body

end Sys2Proof
end

