-- ==== Sys2Proof/Machine/BillingOps.lean ====
section
/-! DEFINITION. Charges, bill records, the billing log and the wait list (chapter 9). -/

namespace Sys2Proof.Machine

/-! ## Prices and charges (section 9.3) -/

/-- Remaining allotment in litres (R149). -/
def Account.remaining (a : Account) : Nat := a.allotment * 1000 - a.used

/-- The price of v litres at r hundredths of a cent per cubic metre, in cents (R149). -/
def price (v r : Nat) : Nat := roundDiv (v * r) 100000

/-- An account entry; an index above 63 is not configured. -/
def Billing.account (b : Billing) (index : Nat) : Account := b.accounts.getD index resetAccount

/-- Tier-1 and tier-2 volumes of a delivered volume (R150, steps 1 and 2). -/
def tierVolumes (a : Account) (delivered : Nat) : Nat × Nat :=
  (min delivered a.remaining, delivered - min delivered a.remaining)

/-- The unused charge (R150, step 4). -/
def unusedCharge (t : RateTable) (o : Order) : Nat :=
  if o.delivered < o.granted / 2 then price (o.granted / 2 - o.delivered) (t.unused.get o.cls) else 0

/-- The charge of a DELIVERY (R150). -/
def deliveryCharge (t : RateTable) (a : Account) (o : Order) : Nat :=
  let v := tierVolumes a o.delivered
  min (price v.1 (t.tier1.get o.cls) + price v.2 (t.tier2.get o.cls) + unusedCharge t o +
    (if o.cls = .frost then t.callOut else 0)) volumeMax

/-- The charge of a CANCEL (R151): the late-cancel fee when LATE. -/
def cancelCharge (t : RateTable) (o : Order) : Nat := if o.flags.late then t.lateCancel else 0

/-- An account after a charge (R153, R154): the volume and the charge added, and HOLD for a GOOD account that a charge above 0 takes
above its credit limit. An entry that is not configured is never charged (R144, log 20: DESIGN CHOICE). -/
def Account.charged (a : Account) (volume amount : Nat) : Account :=
  if a.number = 0 then a
  else
    let a' := { a with used := satAdd volumeMax a.used volume, charges := satAdd volumeMax a.charges amount }
    if 0 < amount ∧ a'.limit < a'.charges ∧ a'.state = .good then { a' with state := .hold } else a'

/-- Charge an account (R153) and raise ACCOUNT_HOLD when it enters HOLD (R154). -/
def State.chargeAccount (s : State) (index volume amount : Nat) : State :=
  let a := s.billing.account index
  let a' := a.charged volume amount
  (s.withBilling { s.billing with accounts := s.billing.accounts.set index a' }).raiseIf
    (a.state == .good && a'.state == .hold) .accountHold

/-! ## The log (section 9.5) -/

/-- Number of records the log holds at most (R156). -/
def logCapacity : Nat := 256

/-- A record enters the log with the next sequence number, which then rises by one and rolls (R156). -/
def Billing.enter (b : Billing) (r : BillRecord) : Billing :=
  { b with log := b.log ++ [{ r with seq := b.nextSeq }], nextSeq := (b.nextSeq + 1) % 4294967296 }

/-- A record enters the log, raising LOG_LEVEL when it brings the log to the threshold (R156, R159). -/
def State.enterLog (s : State) (r : BillRecord) : State :=
  (s.withBilling (s.billing.enter r)).raiseIf
    (decide (s.billing.log.length + 1 = s.settings.alert.logThreshold)) .logLevel

/-- A record that is not moved from the wait list enters only when the log has space and the wait list is empty (R156). -/
def Billing.hasRoom (b : Billing) : Bool := decide (b.log.length < logCapacity) && b.waitList.isEmpty

/-- An item joins the newest end of the wait list, raising LOG_FULL when the list was empty (R160). -/
def State.joinWait (s : State) (item : WaitItem) : State :=
  (s.withBilling { s.billing with waitList := s.billing.waitList ++ [item] }).raiseIf s.billing.waitList.isEmpty .logFull

/-! ## Bill records (section 9.4, R155) -/

/-- Time quality is not SET: the record carries TIME_UNCERTAIN (R155). It is the quality at the instant the record is made, also for a record of the
catch-up after a TIME_SET that came before it was made (R167; log 15: DESIGN CHOICE). -/
def State.timeUncertain (s : State) : Bool := s.time.quality != .set

/-- The record of an order that closes, before it has a sequence number (R155). -/
def orderRecord (s : State) (kind : RecordKind) (key charge : Nat) (o : Order) : BillRecord :=
  let a := s.billing.account o.account
  { seq := 0, kind := kind, key := key, account := a.number, turnout := o.turnout
    order := some { number := o.number, cls := o.cls, startKey := o.startKey, endKey := o.endKey, rate := o.rate }
    granted := if kind = .delivery then some o.granted else none
    delivered := o.delivered
    tiers := if kind = .delivery then some (tierVolumes a o.delivered) else none
    charge := charge, flags := o.flags, timeUncertain := s.timeUncertain }

/-- The UNORDERED record of a tally at the instant it enters the log (R152, R155). -/
def tallyRecord (s : State) (turnout tally charge : Nat) : BillRecord :=
  { seq := 0, kind := .unordered, key := s.curKey
    account := (s.billing.account (configOf s.settings turnout).account).number
    turnout := turnout, order := none, granted := none, delivered := tally, tiers := none, charge := charge
    flags := OrderFlags.clear, timeUncertain := s.timeUncertain }

/-! ## Closing an order (R21, R150, R151, R156, R160) -/

/-- The charge struck for an order that closes. -/
def closeCharge (s : State) (kind : RecordKind) (o : Order) : Nat :=
  match kind with
  | .delivery => deliveryCharge s.billing.active (s.billing.account o.account) o
  | .cancel => cancelCharge s.billing.active o
  | .unordered => 0

/-- An order closes (R21): its close key is set, the account is charged, its record is made and offered to the log. With space the
slot is freed; otherwise the order becomes CLOSED_UNBILLED, keeps its record, and joins the wait list. -/
def State.closeOrder (s : State) (kind : RecordKind) (slot key : Nat) (o : Order) : State :=
  let charge := closeCharge s kind o
  let record := orderRecord s kind key charge o
  let s := s.chargeAccount o.account (if kind = .delivery then o.delivered else 0) charge
  if s.billing.hasRoom then (s.enterLog record).withBook (s.book.put slot none)
  else
    (s.joinWait (.order slot)).withBook
      (s.book.put slot (some { o with state := .closedUnbilled, closeKey := some key, charge := some charge, record := some record }))

/-- Close the orders of a list of slots as a period change does, in the order of the list (R162). -/
def State.closeSlots (s : State) (n : Nat) : List Nat → State
  | [] => s
  | slot :: rest =>
    match s.book.at? slot with
    | none => State.closeSlots s n rest
    | some o => if o.closesAt n then State.closeSlots (s.closeOrder .delivery slot n o) n rest else State.closeSlots s n rest

/-- Cancel the PENDING order in a slot (R28, R30): LATE or SERVICE is set, and it closes as a CANCEL at the current key. -/
def State.cancelOrder (s : State) (slot : Nat) (late service : Bool) (o : Order) : State :=
  s.closeOrder .cancel slot s.curKey
    { o with flags := { o.flags with late := o.flags.late || late, service := o.flags.service || service } }

/-- A cancellation is late within the lock time (R28); with a lock time of 0 none is late (log 19: DEDUCED). -/
def State.isLate (s : State) (o : Order) : Bool :=
  decide (0 < s.settings.station.lockTime) && decide (o.startKey < s.curKey + s.settings.station.lockTime)

/-! ## Tallies (R152, R160, R161, R164) -/

/-- Put a turnout entry. -/
def State.putTurnout (s : State) (i : Nat) (t : Turnout) : State :=
  s.withMeters { s.meters with turnouts := s.meters.turnouts.set i t }

/-- A turnout's runtime part. -/
def State.turnout (s : State) (i : Nat) : Turnout := s.meters.turnouts.getD i resetTurnout

/-- A tally is charged and its record enters the log: the tally is set to 0 and its due mark cleared (R152). -/
def State.billTally (s : State) (i : Nat) : State :=
  let t := s.turnout i
  let charge := price t.tally s.billing.active.unordered
  let record := tallyRecord s i t.tally charge
  ((s.chargeAccount (configOf s.settings i).account t.tally charge).enterLog record).putTurnout i { t with tally := 0, due := false }

/-- A tally is offered at a day close (R164): billed when the log takes the record, else due and on the wait list (R160). -/
def State.offerTally (s : State) (i : Nat) : State :=
  if s.billing.hasRoom then s.billTally i
  else (s.joinWait (.tally i)).putTurnout i { s.turnout i with due := true }

/-- The turnout is present, its tally above 0 and its due mark clear (R164). -/
def State.tallyOwed (s : State) (i : Nat) : Bool :=
  present s.settings i && decide (0 < (s.turnout i).tally) && !(s.turnout i).due

/-- The first part of a day close over a list of turnouts, in its order (R164). -/
def State.offerTallies (s : State) : List Nat → State
  | [] => s
  | i :: rest => State.offerTallies (if s.tallyOwed i then s.offerTally i else s) rest

/-- The second part of a day close: a staged table becomes active (R164). -/
def Billing.switchRates (b : Billing) : Billing :=
  match b.staged with
  | some t => { b with active := t, staged := none }
  | none => b

/-- A day close (R164). -/
def State.dayClose (s : State) : State :=
  let s := s.offerTallies (List.range 16)
  s.withBilling s.billing.switchRates

/-- One item of the wait list enters the log (R161). -/
def State.moveItem (s : State) (item : WaitItem) : State :=
  match item with
  | .tally i => s.billTally i
  | .order slot =>
    match s.book.at? slot with
    | some o =>
      match o.record with
      | some r => (s.enterLog r).withBook (s.book.put slot none)
      | none => s
    | none => s

/-- Moves from the oldest end of the wait list while the log has space, at most as many as the number given (R161). -/
def State.moveWait (s : State) : Nat → State
  | 0 => s
  | n + 1 =>
    match s.billing.waitList with
    | [] => s
    | item :: rest =>
      if s.billing.log.length < logCapacity then
        State.moveWait ((s.withBilling { s.billing with waitList := rest }).moveItem item) n
      else s

/-- The removal of the n oldest records (R158). -/
def Billing.release (b : Billing) (n : Nat) : Billing :=
  { b with log := b.log.drop n, readPos := (b.readPos + n) % 4294967296 }

/-- LOG_RELEASE of n records that the log holds, with the moves that follow (R158, R161). -/
def State.releaseLog (s : State) (n : Nat) : State :=
  let s := s.withBilling (s.billing.release n)
  s.moveWait s.billing.waitList.length

/-! ## Season close (R165) -/

/-- The present turnouts whose tally is above 0, in ascending order. -/
def State.talliesAboveZero (s : State) : List Nat :=
  (List.range 16).filter fun i => present s.settings i && decide (0 < (s.turnout i).tally)

/-- Bill the tallies of a list of turnouts, in its order. -/
def State.billTallies (s : State) : List Nat → State
  | [] => s
  | i :: rest => State.billTallies (s.billTally i) rest

/-- The three steps of a season close (R165): tallies, season totals, season id, which is also written into the marker. -/
def State.seasonClose (s : State) : State :=
  let s := s.billTallies s.talliesAboveZero
  let id := (s.billing.seasonId + 1) % 65536
  let accounts := s.billing.accounts.map fun a => { a with used := 0, charges := 0 }
  (s.withBilling { s.billing with accounts := accounts, seasonId := id }).withStartup
    { s.startup with marker := { s.startup.marker with seasonId := id } }

end Sys2Proof.Machine
end

