-- ==== Sys2Proof/Machine/ImageOps.lean ====
section
/-! DEFINITION. The configuration image (R193) and its check (R180, R181, R52, R116, R144). -/

namespace Sys2Proof.Machine

open Sys2Proof.Config (Settings TripAction)

/-- What an image that passes its check gives. The in-service flags stand in the settings of the turnouts. -/
structure Image where
  seasonId : Nat
  settings : Settings
  accounts : List Account
  rates : RateTable
  deriving DecidableEq, Repr

/-! ## The layout (R193) -/

/-- The header size. -/
def headerSize : Nat := 8
/-- The longest image. -/
def imageMax : Nat := 8192

/-- Identifier of a section, 1 to 10 (R193). Where a reply names HEADER as what fails, it is sent as 0 (log 11: DESIGN CHOICE). -/
def ImageSection.identifier : ImageSection → Nat
  | .header => 0
  | .station => 1
  | .time => 2
  | .line => 3
  | .neighbours => 4
  | .reachAndGate => 5
  | .levelsAndControl => 6
  | .turnouts => 7
  | .accounts => 8
  | .rates => 9
  | .alertSettings => 10

/-- The ten sections in their fixed order. -/
def imageSections : List ImageSection :=
  [.station, .time, .line, .neighbours, .reachAndGate, .levelsAndControl, .turnouts, .accounts, .rates, .alertSettings]

/-- The bytes of a section's settings, by the sizes of the table of R193. -/
def ImageSection.size : ImageSection → Nat
  | .header => 8
  | .station => 5
  | .time => 1
  | .line => 5
  | .neighbours => 16
  | .reachAndGate => 24
  | .levelsAndControl => 24
  | .turnouts => 192
  | .accounts => 768
  | .rates => 34
  | .alertSettings => 7

/-- The offset of a section's identifier byte: the header, then the sections before it, each with identifier and length. -/
def ImageSection.start (x : ImageSection) : Nat :=
  headerSize + sumList ((imageSections.filter fun y => decide (y.identifier < x.identifier)).map fun y => 3 + y.size)

/-- The settings of a section, after its identifier and its length. -/
def ImageSection.settings (x : ImageSection) (image : List Byte) : List Byte := (image.drop (x.start + 3)).take x.size

/-- The identifier and the length of a section agree with its place, and its settings are present (R193). An image that is longer than
its ten sections passes, and the surplus inside the header's length is not read (log 29: DESIGN CHOICE). -/
def ImageSection.fits (x : ImageSection) (image : List Byte) : Bool :=
  decide (fieldAt image x.start 1 = x.identifier) && decide (fieldAt image (x.start + 1) 2 = x.size) &&
    decide (x.start + 3 + x.size ≤ image.length)

/-- The length that an image's header gives. -/
def headerLength (image : List Byte) : Nat := fieldAt image 6 2
/-- The season id of the header. -/
def headerSeason (image : List Byte) : Nat := fieldAt image 3 2
/-- The station number of the header. -/
def headerStation (image : List Byte) : Nat := fieldAt image 5 1

/-! ## Sections as values -/

/-- Section 1. -/
def readStation (p : List Byte) : Config.Station :=
  { number := fieldAt p 0 1, minNotice := fieldAt p 1 1, horizon := fieldAt p 2 2, lockTime := fieldAt p 4 1 }

/-- The line rate of a code, bit/s (R193). -/
def lineRate (code : Nat) : Nat := if code = 0 then 4800 else if code = 1 then 9600 else 19200

/-- Section 3. -/
def readLine (p : List Byte) : Config.Line :=
  { rate := lineRate (fieldAt p 0 1), holdoff := fieldAt p 1 1, noticeInterval := fieldAt p 2 1, changeThreshold := fieldAt p 3 2 }

/-- Downstream position j of section 4, counted from 0. -/
def readDownstream (p : List Byte) (j : Nat) : Config.Downstream :=
  { station := fieldAt p (2 + 4 * j) 1, tau := fieldAt p (3 + 4 * j) 1, lostFlow := fieldAt p (4 + 4 * j) 2 }

/-- Section 4, with the positions of the downstream count only (R52). -/
def readNeighbours (p : List Byte) : Config.Neighbours :=
  { upstream := fieldAt p 0 1, downstream := (List.range (min (fieldAt p 1 1) 3)).map (readDownstream p), holdTime := fieldAt p 14 2 }

/-- Section 5. -/
def readReach (p : List Byte) : Config.Reach :=
  { cap := fieldAt p 0 2, loss := fieldAt p 2 2, fallback := fieldAt p 4 2, reachCapacity := fieldAt p 6 2,
    poolArea := fieldAt p 8 4, lossTolerance := fieldAt p 12 4, cd := fieldAt p 16 2, width := fieldAt p 18 2,
    aMax := fieldAt p 20 2, encoder := fieldAt p 22 2 }

/-- The trip action of a code. -/
def tripActionOf (code : Nat) : TripAction := if code = 0 then .hold else if code = 1 then .close else .openTo

/-- Section 6. -/
def readLevels (p : List Byte) : Config.Levels :=
  { target := fieldAt p 0 2, deadZone := fieldAt p 2 1, gain := fieldAt p 3 1, correctionLimit := fieldAt p 4 2,
    minimum := fieldAt p 6 2, hysteresis := fieldAt p 8 1, guardStep := fieldAt p 9 2, deadband := fieldAt p 11 1,
    restTime := fieldAt p 12 1, stallTime := fieldAt p 13 1, sampleInterval := fieldAt p 14 1, upHigh := fieldAt p 15 2,
    downHigh := fieldAt p 17 2, levelTrip := fieldAt p 19 1 == 1, tripAction := tripActionOf (fieldAt p 20 1),
    tripOpening := fieldAt p 21 2, autoResume := fieldAt p 23 1 == 1 }

/-- Turnout entry i of section 7. -/
def readTurnout (p : List Byte) (i : Nat) : Config.Turnout :=
  let o := 12 * i
  { present := fieldAt p o 1 == 1, inService := fieldAt p (o + 1) 1 == 1, account := fieldAt p (o + 2) 1,
    capacity := fieldAt p (o + 3) 2, litres := fieldAt p (o + 5) 2, tau := fieldAt p (o + 7) 1, spacing := fieldAt p (o + 8) 2,
    noFlow := fieldAt p (o + 10) 2 }

/-- The account state of a code, numbered from 0 in the order GOOD, HOLD, CLOSED. -/
def accountStateOf? (code : Nat) : Option AccountState :=
  match code with
  | 0 => some .good
  | 1 => some .hold
  | 2 => some .closed
  | _ => none

/-- The account number of entry i of section 8. -/
def readAccountNumber (p : List Byte) (i : Nat) : Nat := fieldAt p (12 * i) 3

/-- Account entry i of section 8, with season totals 0 (R144). -/
def readAccount (p : List Byte) (i : Nat) : Account :=
  let o := 12 * i
  { number := readAccountNumber p i, allotment := fieldAt p (o + 3) 4, limit := fieldAt p (o + 7) 4,
    state := (accountStateOf? (fieldAt p (o + 11) 1)).getD .good, used := 0, charges := 0 }

/-- Mask marks with those of the level-3 causes clear (R109, R110, R178; log 17: PRESUMED). -/
def clearLevel3 (m : BitVec 17) : BitVec 17 := m &&& ~~~level3Places

/-- Section 10. -/
def readAlert (p : List Byte) : Config.Alert :=
  { threshold := fieldAt p 0 1, masks := clearLevel3 (BitVec.ofNat 17 (fieldAt p 1 3)), moderation := fieldAt p 4 1,
    logThreshold := fieldAt p 5 2 }

/-- The value of an image. -/
def readImage (image : List Byte) : Image :=
  let accounts := ImageSection.accounts.settings image
  { seasonId := headerSeason image
    settings :=
      { station := readStation (ImageSection.station.settings image)
        periodLength := fieldAt (ImageSection.time.settings image) 0 1
        line := readLine (ImageSection.line.settings image)
        neighbours := readNeighbours (ImageSection.neighbours.settings image)
        reach := readReach (ImageSection.reachAndGate.settings image)
        levels := readLevels (ImageSection.levelsAndControl.settings image)
        turnouts := (List.range 16).map (readTurnout (ImageSection.turnouts.settings image))
        alert := readAlert (ImageSection.alertSettings.settings image) }
    accounts := (List.range 64).map (readAccount accounts)
    rates := readRates (ImageSection.rates.settings image) }

/-! ## The checks of the sections (R181) -/

/-- lo ≤ v ≤ hi. -/
def within (lo hi v : Nat) : Bool := decide (lo ≤ v) && decide (v ≤ hi)

/-- A byte coded 0 or 1 (R193, log 17: PRESUMED). -/
def codedMark (v : Nat) : Bool := decide (v ≤ 1)

/-- Station: R181, R193 and the ranges of section 2.3. -/
def stationGood (headerNumber : Nat) (p : List Byte) : Bool :=
  let x := readStation p
  within 1 250 x.number && x.number == headerNumber && within 0 144 x.minNotice && within 1 4032 x.horizon && within 0 144 x.lockTime

/-- Time: one of the five period lengths (R181). -/
def timeGood (p : List Byte) : Bool := [5, 10, 15, 20, 30].contains (fieldAt p 0 1)

/-- Line: sections 3.1 and 3.5, R49. -/
def lineGood (p : List Byte) : Bool :=
  let x := readLine p
  within 0 2 (fieldAt p 0 1) && within 5 60 x.holdoff && within 20 120 x.noticeInterval && within 5 500 x.changeThreshold

/-- A formed downstream position: number 1 to 250, τ_j 0 to 8, lost-neighbour flow 0 to 32 000. -/
def downstreamGood (d : Config.Downstream) : Bool := within 1 250 d.station && within 0 8 d.tau && within 0 32000 d.lostFlow

/-- No value stands twice in the list. -/
def distinct : List Nat → Bool
  | [] => true
  | x :: xs => !xs.contains x && distinct xs

/-- Neighbours: ranges, and no formed entry with the own number or with another's (R52). -/
def neighboursGood (own : Nat) (p : List Byte) : Bool :=
  let x := readNeighbours p
  let numbers := (if x.upstream = 0 then [] else [x.upstream]) ++ x.downstream.map Config.Downstream.station
  within 0 250 x.upstream && within 0 3 (fieldAt p 1 1) && x.downstream.all downstreamGood && within 60 600 x.holdTime &&
    !numbers.contains own && distinct numbers

/-- Reach and gate: sections 5.1, 2.3, 8.1 and 6.1. -/
def reachGood (p : List Byte) : Bool :=
  let x := readReach p
  within 0 32000 x.cap && within 0 2000 x.loss && within 0 32000 x.fallback && within 0 32000 x.reachCapacity &&
    within 100 500000 x.poolArea && within 0 10000000 x.lossTolerance && within 500 750 x.cd && within 300 6000 x.width &&
    within 100 2000 x.aMax && within 50 5000 x.encoder

/-- Levels and control: sections 5.1 and 6.1. -/
def levelsGood (p : List Byte) : Bool :=
  let x := readLevels p
  within 0 4000 x.target && within 0 50 x.deadZone && within 0 100 x.gain && within 0 2000 x.correctionLimit &&
    within 0 4000 x.minimum && within 10 200 x.hysteresis && within 5 500 x.guardStep && within 5 100 x.deadband &&
    within 1 30 x.restTime && within 2 60 x.stallTime && within 1 10 x.sampleInterval && within 0 4000 x.upHigh &&
    within 0 4000 x.downHigh && codedMark (fieldAt p 19 1) && within 0 2 (fieldAt p 20 1) && within 0 2000 x.tripOpening &&
    codedMark (fieldAt p 23 1)

/-- One turnout (R116): the settings of an absent turnout are not checked; the default account is configured in the image. -/
def turnoutGood (p accounts : List Byte) (i : Nat) : Bool :=
  let x := readTurnout p i
  codedMark (fieldAt p (12 * i) 1) &&
    (!x.present ||
      codedMark (fieldAt p (12 * i + 1) 1) && within 0 63 x.account && readAccountNumber accounts x.account != 0 &&
        within 0 32000 x.capacity && within 1 1000 x.litres && within 0 8 x.tau && within 10 5000 x.spacing && within 5 600 x.noFlow)

/-- Turnouts: all sixteen. -/
def turnoutsGood (p accounts : List Byte) : Bool := (List.range 16).all (turnoutGood p accounts)

/-- Accounts (R144): no number other than 0 twice, no allotment above 4 000 000, a defined state. -/
def accountsGood (p : List Byte) : Bool :=
  distinct (((List.range 64).map (readAccountNumber p)).filter (· != 0)) &&
    (List.range 64).all fun i => within 0 4000000 (fieldAt p (12 * i + 3) 4) && within 0 2 (fieldAt p (12 * i + 11) 1)

/-- Highest fee, cents (section 9.2). -/
def feeMax : Nat := 1000000

/-- The fees of a rate table lie in their range (section 9.2, R148). -/
def feesGood (t : RateTable) : Bool := within 0 feeMax t.callOut && within 0 feeMax t.lateCancel

/-- Alert settings: sections 10.5 and 9.5; a mark at bits 17 to 23 names no cause (log 17: PRESUMED). -/
def alertGood (p : List Byte) : Bool :=
  let x := readAlert p
  within 0 3 x.threshold && decide (fieldAt p 1 3 < 2 ^ 17) && within 0 60 x.moderation && within 1 256 x.logThreshold

/-- A section passes its own check. -/
def ImageSection.good (x : ImageSection) (image : List Byte) : Bool :=
  let p := x.settings image
  match x with
  | .header => true
  | .station => stationGood (headerStation image) p
  | .time => timeGood p
  | .line => lineGood p
  | .neighbours => neighboursGood (readStation (ImageSection.station.settings image)).number p
  | .reachAndGate => reachGood p
  | .levelsAndControl => levelsGood p
  | .turnouts => turnoutsGood p (ImageSection.accounts.settings image)
  | .accounts => accountsGood p
  | .rates => feesGood (readRates p)
  | .alertSettings => alertGood p

/-- The header check (R181, item 1): length, CRC, format version. -/
def headerGood (image : List Byte) : Bool :=
  within headerSize imageMax (headerLength image) && headerLength image == image.length &&
    crcBytes (image.drop 2) == image.take 2 && fieldAt image 2 1 == 1

/-- The first failure in the order of R181; none when the image passes. -/
def imageFailure (image : List Byte) : Option ImageSection :=
  if headerGood image then imageSections.find? fun x => !(x.fits image && x.good image) else some .header

end Sys2Proof.Machine
end

