-- ==== Sys2Proof/Machine/Operands.lean ====
section
/-! DEFINITION. The operands that the station processor sends, as their owners read them: directions, modes, marks, counts and clamps. -/

namespace Sys2Proof.Machine

/-- Direction of a TURNOUT_SERVICE (R192): 0 out, 1 in; other values are not defined (R187). -/
def directionOf? (v : Nat) : Option Bool :=
  match v with
  | 0 => some false
  | 1 => some true
  | _ => none

/-- Control mode of a GATE_MODE (R187): 0 AUTO, 1 MANUAL. -/
def modeOf? (v : Nat) : Option ControlMode :=
  match v with
  | 0 => some .auto
  | 1 => some .manual
  | _ => none

/-- Alert marks, when every mark names a cause: bits 17 to 23 name none (R192). -/
def causeMarks? (m : BitVec 24) : Option (BitVec 17) := if m.toNat < 2 ^ 17 then some (m.setWidth 17) else none

/-- The change flags left by the marks of a TURNOUT_ACK (R126): bit 0 is RATE_OVER. -/
def ChangeFlags.clearMarked (f : ChangeFlags) (m : Byte) : ChangeFlags :=
  { rateOver := f.rateOver && !m.getLsbD 0
    noisy := f.noisy && !m.getLsbD 1
    unorderedDraw := f.unorderedDraw && !m.getLsbD 2
    serviceChanged := f.serviceChanged && !m.getLsbD 3 }

/-- The change flags as a number, RATE_OVER at bit 0. -/
def ChangeFlags.code (f : ChangeFlags) : Nat := bitsOf [f.rateOver, f.noisy, f.unorderedDraw, f.serviceChanged]

/-- Highest allotment, cubic metres (section 9.1). -/
def allotmentMax : Nat := 4000000

/-- A declared watch end key, clamped to current key + 288 (R63) and to the highest period key (log 16: DESIGN CHOICE). -/
def clampWatch (plen current key : Nat) : Nat := min key (min (current + 288) (highestKey plen))

/-- The manual opening of a GATE_MODE, clamped to a_max (R103). -/
def clampOpening (c : Config.Settings) (opening : Nat) : Nat := min opening c.reach.aMax

/-- A sample record on LS_RXD (R191): its two levels when it is good (R91): 8 bytes, sync E2, its check agrees, quality byte 0, both
levels at most 4 000 mm. Bytes that are not 8 or do not begin with E2 are a bad sample as well (log 27: DESIGN CHOICE). -/
def readSample (record : List Byte) : Option (Nat × Nat) :=
  let u := fieldAt record 1 2
  let d := fieldAt record 3 2
  if record.length = 8 ∧ byteAt record 0 = 0xE2 ∧ crcBytes ((record.drop 1).take 5) = record.drop 6 ∧ byteAt record 5 = 0 ∧
      u ≤ levelMax ∧ d ≤ levelMax then some (u, d)
  else none

end Sys2Proof.Machine
end

