-- ==== Sys2Proof/Machine/GateOps.lean ====
section
/-! DEFINITION. The operations of the Gate Controller (chapter 6) over its own state: levels, flow, opening target, drive, trips. Each reads the
settings `c` and the elapsed time `now`. -/

namespace Sys2Proof.Machine

open Sys2Proof.Config (Settings)

/-! ## Outputs (section 6.8) -/

/-- DRV_OPEN is on. -/
def Drive.openOn : Drive → Bool
  | .opening => true
  | .tripped (.moving up) => up
  | _ => false

/-- DRV_CLOSE is on. -/
def Drive.closeOn : Drive → Bool
  | .closing => true
  | .tripped (.moving up) => !up
  | _ => false

/-- One of the two drive outputs is on: a move is in flight. -/
def Drive.on (d : Drive) : Bool := d.openOn || d.closeOn

/-- A state whose entry starts the rest timer: RESTING, and the WAITING phase of TRIPPED (R107, R110). -/
def Drive.rests : Drive → Bool
  | .resting => true
  | .tripped .waiting => true
  | _ => false

/-- The drive enters a state, and the outputs change with it (R104): a rest timer starts with RESTING or WAITING (R107, R110), the
stall watch with a move (R109), and the end of a move is recorded as the time at which an output went off. -/
def Gate.enter (now : Nat) (d : Drive) (g : Gate) : Gate :=
  { g with
    drive := d
    restStart := if d.rests then some now else none
    stallStart := if d.on then some now else none
    lastOff := if g.drive.on && !d.on then some now else g.lastOff }

/-! ## Position (R99, R100) -/

/-- The position in mm: the lesser of floor(counts × encoder resolution / 1 000) and a_max (R99). -/
def Gate.position (c : Settings) (g : Gate) : Nat := min (g.counts * c.reach.encoder / 1000) c.reach.aMax

/-- The encoder counts at the open stop: a_max × 1 000 / encoder resolution, rounded up (R100). -/
def openStopCounts (c : Settings) : Nat := (c.reach.aMax * 1000 + c.reach.encoder - 1) / c.reach.encoder

/-- One quadrature step (R99): one count up or down, held at the ends with POSITION_SUSPECT set. -/
def Gate.count (opening : Bool) (g : Gate) : Gate :=
  if opening then
    if g.counts < 65535 then { g with counts := g.counts + 1 } else { g with suspect := true }
  else
    if 0 < g.counts then { g with counts := g.counts - 1 } else { g with suspect := true }

/-! ## Levels (R92) -/

/-- Averaged upstream level: the floor of the mean over the window, or none when it is empty. -/
def Gate.hU (g : Gate) : Option Nat :=
  if g.window.isEmpty then none else some (sumList (g.window.map (·.1)) / g.window.length)

/-- Averaged downstream level. -/
def Gate.hD (g : Gate) : Option Nat :=
  if g.window.isEmpty then none else some (sumList (g.window.map (·.2)) / g.window.length)

/-- A good sample joins the window at its newest end; of 8 samples held the oldest leaves. -/
def joinWindow (w : List (Nat × Nat)) (sample : Nat × Nat) : List (Nat × Nat) :=
  (if 8 ≤ w.length then w.drop (w.length - 7) else w) ++ [sample]

/-! ## Flow (R95) -/

/-- The regime at an opening: free flow when hD is at or below it. -/
def regimeAt (a hD : Nat) : Regime := if hD ≤ a then .free else .submerged

/-- The head Δh, signed: hU − ⌊a / 2⌋ in free flow, hU − hD in submerged flow. -/
def headAt (a hU hD : Nat) : Int :=
  match regimeAt a hD with
  | .free => (hU : Int) - (a / 2 : Nat)
  | .submerged => (hU : Int) - hD

/-- The velocity term V = ⌊√(19 620 × Δh)⌋ of a positive head. -/
def velocity (head : Int) : Nat := isqrt (19620 * head.toNat)

/-- The flow of R95 before its range limit: round-half-up(Cd × b × a × V / 10⁹). -/
def rawFlow (c : Settings) (a : Nat) (head : Int) : Nat := roundDiv (c.reach.cd * c.reach.width * a * velocity head) 1000000000

/-- The flow computation of a good sample (R95) from the new averages and the current opening; at opening 0 it names no regime
(log 22: DESIGN CHOICE). -/
def Gate.computeFlow (c : Settings) (hU hD : Nat) (g : Gate) : Gate :=
  let a := g.position c
  if a = 0 then { g with flow := 0, reverseHead := false, saturated := false, regime := none }
  else
    let head := headAt a hU hD
    let g := { g with regime := some (regimeAt a hD) }
    if head ≤ 0 then { g with flow := 0, reverseHead := true, saturated := false }
    else
      let q := rawFlow c a head
      { g with flow := min q flowMax, reverseHead := false, saturated := decide (flowMax < q) }

/-! ## Period gate volume (R96, R97) -/

/-- Adding one sample's volume: flow in force × sample interval, with the estimated mark for a missed sample or a suspect position. -/
def Gate.addVolume (c : Settings) (missed : Bool) (g : Gate) : Gate :=
  { g with
    volume := satAdd volumeMax g.volume (g.flow * c.levels.sampleInterval)
    volumeEst := g.volumeEst || missed || g.suspect }

/-- Closing the accumulator under a key (R97). -/
def Gate.closeVolume (key : Nat) (g : Gate) : Gate :=
  { g with closed := some { key := key, litres := g.volume, estimated := g.volumeEst }, volume := 0, volumeEst := false }

/-- Whether the accumulator has already been closed under a key (R129). -/
def Gate.closedAt (key : Nat) (g : Gate) : Bool :=
  match g.closed with
  | some p => decide (key ≤ p.key)
  | none => false

/-- The accumulator is closed under a key once, at the boundary handling or at the Period Close Unit's request (R129). -/
def Gate.closeOnce (key : Nat) (g : Gate) : Gate := if g.closedAt key then g else g.closeVolume key

/-! ## Opening target (R101, R102) -/

/-- The opening that passes a release target at the present levels and opening, or none in the two holding cases (R102). -/
def Gate.openingFor (c : Settings) (target : Nat) (g : Gate) : Option Nat :=
  if target = 0 then some 0
  else
    match g.hU, g.hD with
    | some u, some d =>
      let head := headAt (g.position c) u d
      if head ≤ 0 then none
      else some (min (roundDiv (target * 1000000000) (c.reach.cd * c.reach.width * velocity head)) c.reach.aMax)
    | _, _ => none

/-- A computation of the opening target in AUTO mode (R101): none while LEVEL_FAULT is set or no release target is in hand. -/
def Gate.computeTarget (c : Settings) (g : Gate) : Gate :=
  if g.mode = .manual ∨ g.levelFault then g
  else
    match g.inHand with
    | none => g
    | some r =>
      match g.openingFor c r with
      | none => g
      | some t => { g with target := t, lastUsed := some r }

/-! ## The drive (R105, R106) -/

/-- The arrival margin: half the deadband, rounded down (R106). -/
def arrivalMargin (c : Settings) : Nat := c.levels.deadband / 2

/-- The arrival test of R106 for a move toward a target. -/
def arrived (c : Settings) (up : Bool) (position target : Nat) : Bool :=
  if up then decide (target ≤ position + arrivalMargin c) else decide (position ≤ target + arrivalMargin c)

/-- The start rule (R105), applied in STOPPED only. -/
def Gate.startRule (c : Settings) (now : Nat) (g : Gate) : Gate :=
  let p := g.position c
  if g.drive ≠ .stopped then g
  else if g.supplyLow then g
  else if g.mode = .auto ∧ g.levelFault then g
  else if p + c.levels.deadband < g.target ∧ !g.limOpen then g.enter now .opening
  else if g.target + c.levels.deadband < p ∧ !g.limClosed then g.enter now .closing
  else g

/-- What the drive does when the opening target, the control mode, SUPPLY_LOW or LEVEL_FAULT has changed: in STOPPED the start rule,
in a move the table of R106; in the other states the new value is stored. -/
def Gate.onTarget (c : Settings) (now : Nat) (g : Gate) : Gate :=
  match g.drive with
  | .stopped => g.startRule c now
  | .opening => if arrived c true (g.position c) g.target then g.enter now .resting else g
  | .closing => if arrived c false (g.position c) g.target then g.enter now .resting else g
  | .resting | .tripped _ | .fault => g

/-- The trip target of an action (R111); HOLD has none. -/
def tripTarget (c : Settings) : Option Nat :=
  match c.levels.tripAction with
  | .hold => none
  | .close => some 0
  | .openTo => some (min c.levels.tripOpening c.reach.aMax)

/-- What the drive does when the position has changed: as `onTarget`, and a trip move is judged against the trip target (R111). -/
def Gate.onPosition (c : Settings) (now : Nat) (g : Gate) : Gate :=
  match g.drive with
  | .tripped (.moving up) =>
    match tripTarget c with
    | some t => if arrived c up (g.position c) t then g.enter now (.tripped .done) else g
    | none => g
  | _ => g.onTarget c now

/-- A release target arrives from the Planner (R101): it is kept in hand, and in AUTO it computes a new opening target when it
differs enough from the one last used, or when none has been used. A computation that held, at a boundary, at
GATE_MODE or otherwise, makes no exception: a next target within the threshold of the last used leads to no attempt (log 32: DESIGN CHOICE). -/
def Gate.handTarget (c : Settings) (now release : Nat) (g : Gate) : Gate :=
  let g := { g with inHand := some release }
  let enough : Bool :=
    match g.lastUsed with
    | none => true
    | some u => decide (u + c.line.changeThreshold ≤ release) || decide (release + c.line.changeThreshold ≤ u)
  if g.mode = .auto ∧ enough then (g.computeTarget c).onTarget c now else g

/-! ## Trips (R110 to R113) -/

/-- The level cause holds: level trip enabled and the averaged upstream level above the upstream high level (R110). -/
def Gate.levelCause (c : Settings) (g : Gate) : Bool :=
  c.levels.levelTrip &&
    match g.hU with
    | some u => decide (c.levels.upHigh < u)
    | none => false

/-- A trip cause holds. -/
def Gate.tripCause (c : Settings) (g : Gate) : Bool := g.tripIn || g.levelCause c

/-- A trip onset: outputs off, TRIPPED in WAITING, the rest timer started; the fault record is kept (R110). -/
def Gate.trip (now : Nat) (g : Gate) : Gate := g.enter now (.tripped .waiting)

/-- The trip action at the end of the WAITING rest time (R111). -/
def Gate.tripAct (c : Settings) (now : Nat) (g : Gate) : Gate :=
  match tripTarget c with
  | none => g.enter now (.tripped .done)
  | some t =>
    let p := g.position c
    if p < t then
      if arrived c true p t || g.limOpen then g.enter now (.tripped .done) else g.enter now (.tripped (.moving true))
    else
      if arrived c false p t || g.limClosed then g.enter now (.tripped .done) else g.enter now (.tripped (.moving false))

/-- The end of a trip by auto-resume: FAULT when a fault is recorded, RESTING otherwise (R112). -/
def Gate.resume (now : Nat) (g : Gate) : Gate := g.enter now (if g.record = .none then .resting else .fault)

/-- Auto-resume clears the trip at a boundary handling (R112). -/
def Gate.autoResumes (c : Settings) (g : Gate) : Bool :=
  c.levels.autoResume && g.drive.isTripped && !g.tripIn &&
    (!c.levels.levelTrip ||
      match g.hU with
      | some u => decide (u < c.levels.upHigh)
      | none => false)

/-- A fault of the drive (R109): outside a trip FAULT, in a trip move DONE; a trip that is not moving keeps its phase (log 23: DEDUCED). -/
def Gate.setFault (now : Nat) (r : FaultRecord) (g : Gate) : Gate :=
  let g := { g with record := r }
  match g.drive with
  | .tripped (.moving _) => g.enter now (.tripped .done)
  | .tripped _ => g
  | _ => g.enter now .fault

/-- A limit switch of the given sense stops a move in that sense: RESTING, or DONE for a trip move (R100). -/
def Gate.limitStop (now : Nat) (openLimit : Bool) (g : Gate) : Gate :=
  match g.drive with
  | .opening => if openLimit then g.enter now .resting else g
  | .closing => if openLimit then g else g.enter now .resting
  | .tripped (.moving up) => if up = openLimit then g.enter now (.tripped .done) else g
  | _ => g

/-- The effect of a switch becoming active on the position (R100). -/
def Gate.limitPosition (c : Settings) (openLimit : Bool) (g : Gate) : Gate :=
  if openLimit then { g with counts := openStopCounts c } else { g with counts := 0, suspect := false }

/-! ## Samples (R92 to R94, R98) -/

/-- The level-window conditions judged against new averages (R98). -/
def Gate.judgeWindow (c : Settings) (hU hD : Nat) (g : Gate) : Gate :=
  { g with
    upHigh := decide (c.levels.upHigh < hU)
    upLow := decide (hU < c.levels.minimum)
    downHigh := decide (c.levels.downHigh < hD) }

/-- A condition of the level window that was clear has become set (R98). -/
def Gate.windowRaised (old new : Gate) : Bool :=
  (new.upHigh && !old.upHigh) || (new.upLow && !old.upLow) || (new.downHigh && !old.downHigh)

/-- A good sample (R92), without the trip judgement: the window and the averages; the missed count and LEVEL_FAULT, whose
clearing computes a new opening target in AUTO (R94); the flow; the volume in RUN (R96); the level window. -/
def Gate.goodSample (c : Settings) (now : Nat) (inRun : Bool) (u d : Nat) (g : Gate) : Gate :=
  let cleared := g.levelFault
  let g := { g with window := joinWindow g.window (u, d), missed := 0, levelFault := false }
  let hU := g.hU.getD 0
  let hD := g.hD.getD 0
  let g := { g with lastU := hU, lastD := hD }
  let g := if cleared then (g.computeTarget c).onTarget c now else g
  let g := g.computeFlow c hU hD
  let g := if inRun then g.addVolume c false else g
  g.judgeWindow c hU hD

/-- A missed sample (R93): the held volume in RUN with the estimated mark, and the missed count, the third of which sets
LEVEL_FAULT, empties the window (R94) and reapplies the start rule (R105). -/
def Gate.missedSample (c : Settings) (now : Nat) (inRun : Bool) (g : Gate) : Gate :=
  let g := { g with missed := min (g.missed + 1) 3 }
  let g := if inRun then g.addVolume c true else g
  if g.missed = 3 ∧ !g.levelFault then { g with levelFault := true, window := [] }.startRule c now else g

/-! ## Start (R114) -/

/-- The Gate Controller at a start, before the limit inputs and the trip causes are judged: the Cold or Warm column of section 6.1.
The encoder counts of a warm start and the input pins are those of the gate as it stands. -/
def Gate.atStart (c : Settings) (kind : StartKind) (g : Gate) : Gate :=
  let counts := match kind with
    | .cold => 0
    | .warm => g.counts
  let fresh : Gate := { resetGate with
    counts := counts
    suspect := true
    volumeEst := kind == .warm
    drive := .resting
    restStart := some 0
    sampleWatch := some 0
    limClosed := g.limClosed
    limOpen := g.limOpen
    tripIn := g.tripIn
    supplyLow := g.supplyLow }
  { fresh with target := fresh.position c }

/-- The judgement of the limit inputs at a start (R114, R100): an active switch acts on the position as if it had just become active;
both active are a sensor fault, LIM_OPEN setting the counts last (log 30: DESIGN CHOICE). The opening target is the position, so that no
move is called for (log 24: DEDUCED). -/
def Gate.judgeLimits (c : Settings) (now : Nat) (g : Gate) : Gate :=
  let g := if g.limClosed then g.limitPosition c false else g
  let g := if g.limOpen then g.limitPosition c true else g
  let g := { g with target := g.position c }
  if g.limClosed && g.limOpen then g.setFault now .limits else g

end Sys2Proof.Machine
end

