-- ==== Sys2Proof/Machine/PlanOps.lean ====
section
/-! DEFINITION. The Release Planner (chapter 5): demand, class allocation, supply, sharing, grants, the release target, and its period change;
and the views of the Neighbour Table that it reads (section 4.4). -/

namespace Sys2Proof.Machine

open Sys2Proof.Config (Settings)

/-! ## The views of the Neighbour Table (R60, R61) -/

/-- The index at which a neighbour array is read: own key + offset + shift − sender key, clamped to 0 to 11 (R60). -/
def readIndex (own i shift sender : Nat) : Nat := min 11 (own + i + shift - sender)

/-- A neighbour array read at an offset through R60. -/
def readArray (xs : List ByClass) (own i shift sender : Nat) : ByClass := xs.getD (readIndex own i shift sender) ByClass.zero

/-- The entry of the upstream station. -/
def NeighbourTable.upstream (n : NeighbourTable) : Option Entry := n.entries.find? fun e => e.role == .upstream

/-- The entries of the downstream stations, in configured order. -/
def NeighbourTable.downstream (n : NeighbourTable) : List Entry := n.entries.filter fun e => e.role != .upstream

/-- The content of an entry that may be used: only a FRESH one's (R61). -/
def Entry.usable (e : Entry) : Option Content := if e.state = .fresh then e.content else none

/-- Downstream demand view of an entry at an offset (R61, R71): its plan with shift τ_j while FRESH, else the lost-neighbour flow in class 3. -/
def Entry.demand (e : Entry) (planKey i : Nat) : ByClass :=
  match e.usable with
  | some x => readArray x.plan planKey i e.tau x.senderKey
  | none => { ByClass.zero with c3 := e.lostFlow }

/-- Upstream grant view (R61): the sender key and the grant to this station, while FRESH with UPSTREAM_MISMATCH clear. -/
def NeighbourTable.upstreamGrant (n : NeighbourTable) : Option (Nat × List ByClass) :=
  match n.upstream with
  | none => none
  | some e =>
    match e.usable with
    | none => none
    | some x => if e.mismatch then none else x.grant.map fun g => (x.senderKey, g)

/-- Controlled-level view: the upstream level of downstream neighbour 1 while FRESH (R61). -/
def NeighbourTable.controlledLevel (n : NeighbourTable) : Option Nat :=
  match n.downstream with
  | [] => none
  | e :: _ => e.usable.map Content.level

/-! ## Class allocation and pro-rata share (R73, R78) -/

/-- Class allocation of a limit over the four class demands (R73). -/
def classAllocation (limit : Nat) (d : ByClass) : ByClass :=
  let a1 := min d.c1 limit
  let a2 := min d.c2 (limit - a1)
  let a3 := min d.c3 (limit - a1 - a2)
  let a4 := min d.c4 (limit - a1 - a2 - a3)
  { c1 := a1, c2 := a2, c3 := a3, c4 := a4 }

/-- The pro-rata share of a consumer demand d from a pool g among demands that sum to dsum (R78). -/
def proRata (g dsum d : Nat) : Nat :=
  if dsum = 0 then 0 else if dsum ≤ g then d else d * (g * 1024 / dsum) / 1024

/-! ## Demand and supply at one offset (R70 to R77) -/

/-- The own demand of a slot at an offset (R70). -/
def ownDemand (c : Settings) (planKey i : Nat) (slot : Option Order) : Nat :=
  match slot with
  | none => 0
  | some o => if o.demands && o.windowHas (planKey + i + tauOf c o.turnout) then o.rate else 0

/-- The slot holds an order of the class. -/
def slotHasClass (slot : Option Order) (k : WaterClass) : Bool :=
  match slot with
  | none => false
  | some o => o.cls == k

/-- The own demand, or share, of one class: the sum over the slots that hold an order of it. -/
def ownSum (slots : List (Option Order)) (values : List Nat) (k : WaterClass) : Nat :=
  sumList ((slots.zip values).map fun p => if slotHasClass p.1 k then p.2 else 0)

/-- The station is the head station (R74). -/
def isHead (c : Settings) : Bool := c.neighbours.upstream == 0

/-- The station is a tail station. -/
def isTail (c : Settings) : Bool := c.neighbours.downstream.isEmpty

/-- The announced demand at an offset (R72): the raw demand, or when its sum passes Cap the class allocation of Cap over it. -/
def announcedOf (c : Settings) (raw : ByClass) : ByClass :=
  if raw.total ≤ c.reach.cap then raw else classAllocation c.reach.cap raw

/-- The supply source (R74, R76). -/
def State.supplySource (s : State) : SupplySource :=
  if isHead s.settings then .head
  else
    match s.neigh.upstreamGrant with
    | some _ => .upstream
    | none => .fallback

/-- The supply by class at an offset (R74, R76). -/
def State.supplyAt (s : State) (i : Nat) (announced : ByClass) : ByClass :=
  if isHead s.settings then classAllocation s.planner.headSupply announced
  else
    match s.neigh.upstreamGrant with
    | some (sender, grant) => ByClass.zip min (readArray grant s.planner.planKey i 0 sender) announced
    | none => classAllocation s.settings.reach.fallback announced

/-- The share of a slot: pro rata in the pool of its class (R79). -/
def slotShare (pool sums : ByClass) (slot : Option Order) (demand : Nat) : Nat :=
  match slot with
  | none => 0
  | some o => proRata (pool.get o.cls) (sums.get o.cls) demand

/-- The whole planning of one offset (R70 to R79). -/
def State.planOffset (s : State) (i : Nat) : OffsetPlan :=
  let c := s.settings
  let slots := s.book.slots
  let own := slots.map (ownDemand c s.planner.planKey i)
  let down := s.neigh.downstream.map fun e => e.demand s.planner.planKey i
  let consumers := ByClass.zip (· + ·) (ByClass.of (ownSum slots own)) (sumClasses down)
  let raw := { consumers with c1 := consumers.c1 + c.reach.loss }
  let announced := announcedOf c raw
  let supply := s.supplyAt i announced
  let lossServed := min c.reach.loss supply.c1
  let pool := { supply with c1 := supply.c1 - lossServed }
  let ownShare := List.zipWith (slotShare pool consumers) slots own
  let downShare := down.map fun d => ByClass.of fun k => proRata (pool.get k) (consumers.get k) (d.get k)
  let given := sumList ownShare + (sumClasses downShare).total
  { ownDemand := own, ownShare := ownShare, downDemand := down, downShare := downShare, raw := raw, announced := announced,
    supply := supply, pool := pool, lossServed := lossServed, margin := pool.total - given }

/-- The release target from the results at offset 0 (R84). -/
def State.releaseOf (s : State) (p : OffsetPlan) : Release :=
  let shares := sumList p.ownShare + (sumClasses p.downShare).total
  let limit := min s.settings.reach.cap p.supply.total
  let sum : Int := (shares : Int) + p.lossServed + s.planner.correction - s.planner.guardCut
  { target := (clampInt 0 limit sum).toNat, shares := shares, loss := p.lossServed, correction := s.planner.correction,
    guardCut := s.planner.guardCut, limit := limit }

/-- The results of a recompute (R67): twelve offsets and the release target. -/
def State.computePlan (s : State) : PlanResults :=
  { key := s.planner.planKey, offsets := (List.range 12).map s.planOffset, release := s.releaseOf (s.planOffset 0) }

/-! ## Writing the results (R80, R81) -/

/-- The grants of a slot: its share at each offset, for the period plan key + i + τ_t (R80). -/
def writeShares (c : Settings) (bookKey planKey : Nat) (shares : List Nat) (o : Order) : Order :=
  shares.zipIdx.foldl (fun o p => o.writeGrant bookKey (planKey + p.2 + tauOf c o.turnout) p.1) o

/-- The shares of a slot at the twelve offsets. -/
def PlanResults.sharesOf (r : PlanResults) (slot : Nat) : List Nat := r.offsets.map fun p => p.ownShare.getD slot 0

/-- The slots after the grant writes of a recompute (R80). -/
def grantedSlots (c : Settings) (bookKey : Nat) (r : PlanResults) (slots : List (Option Order)) : List (Option Order) :=
  slots.zipIdx.map fun p => p.1.map (writeShares c bookKey r.key (r.sharesOf p.2))

/-- An ACTIVE order of the first list has another entry 0 in the second (R33). -/
def entry0Changed (old new : List (Option Order)) : Bool :=
  (old.zip new).any fun p =>
    match p.1, p.2 with
    | some o, some o' => o.state == .active && o.entry0 != o'.entry0
    | _, _ => false

/-- A write into a downstream schedule (R81): an open entry takes the value; a write to a frozen entry is discarded. -/
def writeDown (schedule : List DownEntry) (index : Nat) (v : ByClass) : List DownEntry :=
  match schedule[index]? with
  | none => schedule
  | some e => if e.frozen then schedule else schedule.set index { e with value := some v }

/-- The writes of a recompute into the schedule of downstream neighbour number k (R81). -/
def writeSchedule (r : PlanResults) (tau k : Nat) (schedule : List DownEntry) : List DownEntry :=
  r.offsets.zipIdx.foldl (fun es p => writeDown es (p.2 + tau) (p.1.downShare.getD k ByClass.zero)) schedule

/-- The downstream schedules after the writes of a recompute. -/
def State.grantedSchedules (s : State) (r : PlanResults) : List (List DownEntry) :=
  s.planner.schedules.zipIdx.map fun p =>
    writeSchedule r ((s.settings.neighbours.downstream.getD p.2 default).tau) p.2 p.1

/-- After a recompute the Line Interface compares the results with its last-sent copy and makes a REACH request (R49). -/
def State.comparePlan (s : State) (r : PlanResults) : State := if s.planChanged r then s.requestReach else s

/-- A recompute (R67), taken in RUN only: the results replace those before, the grants are written into the orders (R80, with GRANT_CHANGED,
R33) and the downstream schedules (R81), the plan is compared with the last-sent copy (R49), and the release target is handed to
the Gate Controller (R84, R101). -/
def State.recompute (s : State) : State :=
  if !s.running then s
  else
    let r := s.computePlan
    let slots := grantedSlots s.settings s.book.bookKey r s.book.slots
    let changed := entry0Changed s.book.slots slots
    let planner := { s.planner with results := some r, source := s.supplySource, schedules := s.grantedSchedules r }
    let s := ((s.withBook { s.book with slots := slots }).withPlanner planner).raiseIf changed .grantChanged
    let s := s.comparePlan r
    s.withGate (s.gate.handTarget s.settings s.time.elapsed r.release.target)

/-! ## Period change of the Planner (R68, R82, R85 to R87) -/

/-- A downstream schedule at a start: twenty valueless entries, those below τ_j frozen (section 5.1). -/
def freshSchedule (tau : Nat) : List DownEntry := (List.range 20).map fun i => { value := none, frozen := decide (i < tau) }

/-- The shift of a downstream schedule by n entries, and the freeze below τ_j (R82). -/
def shiftSchedule (n tau : Nat) (es : List DownEntry) : List DownEntry :=
  let shifted : List DownEntry := es.drop n ++ List.replicate (min n 20) { value := none, frozen := false }
  shifted.zipIdx.map fun p => if p.2 < tau then { p.1 with frozen := true } else p.1

/-- The level correction (R85): 0 at a tail station, without a controlled level and within the dead zone; else Kc × e / 10 truncated
toward zero and clamped to the correction limit. -/
def State.levelCorrection (s : State) : Int :=
  if isTail s.settings then 0
  else
    match s.neigh.controlledLevel with
    | none => 0
    | some level =>
      let e : Int := (s.planner.target : Int) - level
      if e.natAbs ≤ s.settings.levels.deadZone then 0
      else clampInt (-s.settings.levels.correctionLimit) s.settings.levels.correctionLimit
        ((s.settings.levels.gain * e).tdiv 10)

/-- The guard cut after one boundary handling (R87). -/
def guardAfter (c : Settings) (hU : Option Nat) (cut : Nat) : Nat :=
  match hU with
  | none => cut
  | some u =>
    if u < c.levels.minimum then min (cut + c.levels.guardStep) flowMax
    else if c.levels.minimum + c.levels.hysteresis < u then cut - c.levels.guardStep
    else cut

/-- A staged target level takes effect (R86). -/
def Planner.applyStaged (p : Planner) : Planner :=
  match p.staged with
  | some t => { p with target := t, staged := none }
  | none => p

/-- The handling of a boundary or jump with new key K (R68): shift and freeze, staged target, level correction, guard cut, plan key,
recompute. An event whose new key is not above the plan key is discarded. -/
def State.planPeriodChange (s : State) (newKey : Nat) : State :=
  if newKey ≤ s.planner.planKey then s
  else
    let n := newKey - s.planner.planKey
    let schedules := s.planner.schedules.zipIdx.map fun p =>
      shiftSchedule n ((s.settings.neighbours.downstream.getD p.2 default).tau) p.1
    let s := s.withPlanner { s.planner with schedules := schedules }.applyStaged
    let s := s.withPlanner { s.planner with correction := s.levelCorrection }
    let s := s.withPlanner { s.planner with guardCut := guardAfter s.settings s.gate.hU s.planner.guardCut, planKey := newKey }
    s.recompute

end Sys2Proof.Machine
end

