-- ==== Sys2Proof/Machine/NeighbourOps.lean ====
section
/-! DEFINITION. The Neighbour Table taking notices (chapter 4), the Period Close Unit's balance queue (sections 8.4 to 8.6) that closing pairs fill,
and the close of a period (sections 8.2 and 8.3) with the order book's period change (R17). -/

namespace Sys2Proof.Machine

open Sys2Proof.Config (Settings)

/-! ## Balance queue (R136 to R140) -/

/-- An entry is complete when every downstream slot holds a volume (section 8.4). -/
def BalanceEntry.complete (e : BalanceEntry) : Bool := e.slots.all (·.isSome)

/-- The unaccounted volume, signed and exact (R139); an unknown storage change is taken as 0. -/
def BalanceEntry.unaccounted (e : BalanceEntry) : Int :=
  (e.inflow : Int) - sumList (e.slots.map fun x => (x.map (·.1)).getD 0) - e.turnoutSum - e.storage.getD 0 - e.expectedLoss

/-- The result of an evaluation (R139). -/
def BalanceEntry.result (tolerance : Nat) (e : BalanceEntry) : BalanceResult :=
  if e.storage.isNone then .unjudged else if tolerance < e.unaccounted.natAbs then .out else .within

/-- The evaluation of an entry acts on the consecutive-loss count and the REACH_LOSS status (R139, R140). -/
def CloseUnit.evaluate (tolerance : Nat) (u : CloseUnit) (e : BalanceEntry) : CloseUnit :=
  let r := e.result tolerance
  let u := { u with lastEval := some { key := e.key, unaccounted := e.unaccounted, result := r, estimated := e.estimated } }
  match r with
  | .unjudged => u
  | .within => { u with lossCount := 0, reachLoss := false }
  | .out => { u with lossCount := min (u.lossCount + 1) 255, reachLoss := u.reachLoss || u.lossCount + 1 == 3 }

/-- Complete entries at the oldest end are evaluated and leave, in order (R138), at most as many as the number given. The Bool says
whether some evaluation raised REACH_LOSS (R140). -/
def CloseUnit.drain (tolerance : Nat) : Nat → CloseUnit → CloseUnit × Bool
  | 0, u => (u, false)
  | n + 1, u =>
    match u.queue with
    | [] => (u, false)
    | e :: rest =>
      if e.complete then
        let u' := CloseUnit.evaluate tolerance { u with queue := rest } e
        let raised := u'.reachLoss && !u.reachLoss
        let (v, more) := CloseUnit.drain tolerance n u'
        (v, raised || more)
      else (u, false)

/-- The queue is evaluated as far as it is complete, raising REACH_LOSS (R138, R140). -/
def State.drainQueue (s : State) : State :=
  let r := s.close.drain s.settings.reach.lossTolerance s.close.queue.length
  (s.withClose r.1).raiseIf r.2 .reachLoss

/-- Abandon the oldest incomplete entry (R136). -/
def CloseUnit.abandon (u : CloseUnit) : CloseUnit :=
  match u.queue.find? fun e => !e.complete with
  | some e => { u with queue := u.queue.eraseP (fun e => !e.complete), lastAbandoned := some e.key }
  | none => u

/-- A new entry joins the queue at its newest end; a queue that holds 3 first gives up its oldest incomplete entry (R136). -/
def CloseUnit.join (e : BalanceEntry) (u : CloseUnit) : CloseUnit :=
  let u := if 3 ≤ u.queue.length then u.abandon else u
  { u with queue := u.queue ++ [e] }

/-- An offered closing pair fills the empty slot of downstream neighbour number k in the entry of its key (R137). -/
def BalanceEntry.offer (k : Nat) (p : ClosingPair) (e : BalanceEntry) : BalanceEntry :=
  if e.key = p.key ∧ e.slots[k]? = some none then
    { e with slots := e.slots.set k (some (p.litres, p.estimated)), estimated := e.estimated || p.estimated }
  else e

/-- The closing pairs of an accepted notice are offered to the queue, and complete entries are evaluated (R137, R138). -/
def State.offerPairs (s : State) (k : Nat) (pairs : List ClosingPair) : State :=
  let queue := pairs.foldl (fun q p => q.map (BalanceEntry.offer k p)) s.close.queue
  (s.withClose { s.close with queue := queue }).drainQueue

/-! ## The frost watch (R62 to R65) -/

/-- The watch end key becomes a greater value: WATCH_CHANGED and a WATCH request (R65); an equal or smaller value changes nothing. -/
def State.raiseWatch (s : State) (key : Nat) : State :=
  if s.neigh.watchEnd < key then ((s.withNeigh { s.neigh with watchEnd := key }).raise .watchChanged).requestWatch else s

/-- The merge of a received watch end key (R64): a value above the highest key is taken as the highest key. -/
def State.mergeWatch (s : State) (key : Nat) : State := s.raiseWatch (min key (highestKey s.settings.periodLength))

/-! ## Taking a notice (R54 to R58) -/

/-- A notice is in step when its sender key and the current key differ by 1 or less (section 4.3). -/
def inStep (senderKey current : Nat) : Bool := decide (senderKey ≤ current + 1) && decide (current ≤ senderKey + 1)

/-- The entry's position: its index in the table. -/
def NeighbourTable.indexOf (n : NeighbourTable) (station : Nat) : Option Nat := n.entries.findIdx? fun e => e.station == station

/-- Put an entry. -/
def State.putEntry (s : State) (i : Nat) (e : Entry) : State := s.withNeigh { s.neigh with entries := s.neigh.entries.set i e }

/-- The grant block addressed to this station: the first that carries its number (R57). -/
def grantFor (own : Nat) (blocks : List GrantBlock) : Option (List ByClass) :=
  (blocks.find? fun b => b.station == own).map GrantBlock.grants

/-- The content taken from a notice into an entry (R56, R57): the grant to this station for the UPSTREAM entry only. -/
def contentOf (own : Nat) (role : Role) (f : ReachFields) : Content :=
  { senderKey := f.key, quality := f.quality, flags := f.flags, level := f.level, plan := f.plan
    grant := if role = .upstream then grantFor own f.blocks else none
    pairs := f.pairs }

/-- The entry after an acceptance (R56, R57). -/
def Entry.accept (own now : Nat) (f : ReachFields) (e : Entry) : Entry :=
  { e with
    state := .fresh
    content := some (contentOf own e.role f)
    receipt := some now
    outOfStep := false
    mismatch := decide (e.role = .upstream) && (grantFor own f.blocks).isNone }

/-- The acceptance changed the entry's state or some content field (R58); the receipt time and OUT_OF_STEP are no content. -/
def Entry.changed (old new : Entry) : Bool :=
  old.state != new.state || old.content != new.content || old.mismatch != new.mismatch

/-- The hand-on of an acceptance (R58): the pairs of a DOWNSTREAM entry to the Period Close Unit, and a recompute on a change. -/
def State.handOn (s : State) (old new : Entry) (f : ReachFields) : State :=
  let s := match new.role with
    | .upstream => s
    | .downstream j => s.offerPairs (j - 1) f.pairs
  if Entry.changed old new then s.recompute else s

/-- An in-step REACH notice accepted into an entry (R56 to R58): NEIGHBOUR_BACK from ABSENT or LOST. -/
def State.acceptNotice (s : State) (i : Nat) (e : Entry) (f : ReachFields) : State :=
  let e' := e.accept s.settings.station.number s.time.elapsed f
  let s := (s.putEntry i e').raiseIf (e.state != .fresh) .neighbourBack
  s.handOn e e' f

/-- A handed frame sorted by its kind, its sender and the start state (R54, R55, R64). -/
def State.takeNotice (s : State) (n : Notice) : State :=
  match n with
  | .watch _ key watchEnd =>
    if s.startup.state = .run ∧ !inStep key s.curKey then s else s.mergeWatch watchEnd
  | .reach sender f =>
    if s.startup.state = .run then
      let stepped := inStep f.key s.curKey
      let s' := match s.neigh.indexOf sender with
        | none => s
        | some i =>
          match s.neigh.entries[i]? with
          | none => s
          | some e => if stepped then s.acceptNotice i e f else s.putEntry i { e with outOfStep := true }
      if stepped then s'.mergeWatch f.watchEnd else s'
    else s.mergeWatch f.watchEnd

/-- The hold timer of an entry has reached the hold time (R59). -/
def State.holdDue (s : State) (i : Nat) : Bool :=
  match s.neigh.entries[i]? with
  | none => false
  | some e => e.state == .fresh && timerDue e.receipt (s.settings.neighbours.holdTime * 1000) s.time.elapsed

/-- Hold expiry (R59): the entry becomes LOST, NEIGHBOUR_LOST is raised, and the Planner recomputes. -/
def State.loseEntry (s : State) (i : Nat) : State :=
  match s.neigh.entries[i]? with
  | none => s
  | some e => ((s.putEntry i { e with state := .lost }).raise .neighbourLost).recompute

/-! ## Meter periods (R122 to R124) -/

/-- The rate estimate is above the overdraw limit of a grant in force: 125 % (R122). -/
def overLimit (rate grant : Nat) : Bool := decide (5 * grant < 4 * rate)

/-- A judgement of the overdraw mark (R122). -/
def Turnout.judge (book : OrderBook) (i : Nat) (t : Turnout) : Turnout :=
  if t.rate = 0 ∨ ((book.activeOn i).isSome ∧ !overLimit t.rate (book.grantInForce i)) then { t with overdraw := false } else t

/-- The last judgement of a meter period: the turnout has overdrawn through the whole period (R122). -/
def Turnout.overdrawn (book : OrderBook) (i : Nat) (t : Turnout) : Bool :=
  (t.judge book i).overdraw && (book.activeOn i).isSome && overLimit t.rate (book.grantInForce i)

/-- The close of one turnout's meter period under a key (R123, steps 1 to 4). -/
def Turnout.closePeriod (c : Settings) (book : OrderBook) (key i : Nat) (t : Turnout) : Turnout :=
  let drawn := t.overdrawn book i
  let record : ClosedMeter :=
    { key := key, pulses := t.pulses, litres := min (t.pulses * (configOf c i).litres) volumeMax, rejects := t.rejects,
      estimated := t.estimated }
  let noisy := t.noisy && t.rejects != 0
  { t with
    closed := some record, noisy := noisy, pulses := 0, rejects := 0, estimated := noisy, overdraw := decide (0 < t.rate)
    flags := { t.flags with rateOver := t.flags.rateOver || drawn } }

/-- The close of the meter period of every present turnout under a key (R123), raising OVERDRAW (R122). -/
def State.closeMeters (s : State) (key : Nat) : State :=
  let c := s.settings
  let drawn := s.meters.turnouts.zipIdx.any fun p => present c p.2 && p.1.overdrawn s.book p.2
  let turnouts := s.meters.turnouts.zipIdx.map fun p =>
    if present c p.2 then p.1.closePeriod c s.book key p.2 else p.1
  (s.withMeters { turnouts := turnouts, closedKey := some key }).raiseIf drawn .overdraw

/-- Each key is closed once, at the boundary handling or at the Period Close Unit's request (R124). -/
def State.closeMetersOnce (s : State) (key : Nat) : State :=
  match s.meters.closedKey with
  | some k => if key ≤ k then s else s.closeMeters key
  | none => s.closeMeters key

/-! ## The order book's period change (R17 to R21) -/

/-- The close report with new key N (R17): the period change of every order, the closes in ascending slot order (R162), and
GRANT_CHANGED (R33). A report whose new key is not above the book key is discarded. -/
def State.closeReport (s : State) (n : Nat) : State :=
  if n ≤ s.book.bookKey then s
  else
    let c := s.settings
    let old := s.book
    let changed := old.mapLive (Order.periodChange c old.bookKey n)
    let alerts := (old.slots.zip changed.slots).any fun p =>
      match p.1, p.2 with
      | some o, some o' => grantChangedAt o o' n
      | _, _ => false
    let s := (s.withBook { changed with bookKey := n }).raiseIf alerts .grantChanged
    s.closeSlots n (List.range 48)

/-- The period change makes at least one order ACTIVE (R17, R67): one that was not ACTIVE before and is after it. -/
def madeActive (old new : OrderBook) : Bool :=
  (old.slots.zip new.slots).any fun p =>
    match p.1, p.2 with
    | some o, some o' => o.state != .active && o'.state == .active
    | _, _ => false

/-! ## Closing a period (R129 to R135) -/

/-- The accumulator closed under a key once, at the boundary handling or at the Period Close Unit's request (R97, R129). -/
def State.closeGateOnce (s : State) (key : Nat) : State := s.withGate (s.gate.closeOnce key)

/-- The volume and the mark that the Meter Unit hands over for a turnout (R124). -/
def Turnout.handed (t : Turnout) : Nat × Bool := ((t.closed.map (·.litres)).getD 0, (t.closed.map (·.estimated)).getD false)

/-- The volume of one turnout for period k is attributed to an order or to the tally (R35, R130). -/
def State.attribute (s : State) (k i : Nat) : State :=
  let t := s.turnout i
  match s.book.takerOf i k with
  | some (slot, o) => s.withBook (s.book.put slot (some (o.deliver t.handed.1 t.handed.2)))
  | none => s.putTurnout i { t with tally := satAdd volumeMax t.tally t.handed.1 }

/-- The attributions of period k over a list of turnouts, in its order (R130). -/
def State.attributeAll (s : State) (k : Nat) : List Nat → State
  | [] => s
  | i :: rest => State.attributeAll (if present s.settings i then s.attribute k i else s) k rest

/-- The volumes handed for the present turnouts. -/
def State.handedVolumes (s : State) : List (Nat × Bool) :=
  ((List.range 16).filter (present s.settings)).map fun i => (s.turnout i).handed

/-- The storage change (R135): closing level less opening level, times the pool area; unknown when either is none. -/
def storageChange (c : Settings) (opening closing : Option Nat) : Option Int :=
  match opening, closing with
  | some a, some b => some (((b : Int) - a) * c.reach.poolArea)
  | _, _ => none

/-- The balance entry of period k (R134). -/
def State.balanceEntry (s : State) (k : Nat) (gate : ClosingPair) (level : Option Nat) (volumes : List (Nat × Bool)) : BalanceEntry :=
  { key := k, inflow := gate.litres, turnoutSum := min (sumList (volumes.map (·.1))) volumeMax
    storage := storageChange s.settings s.close.openLevel level
    expectedLoss := s.settings.reach.loss * periodSeconds s.settings
    slots := List.replicate s.settings.neighbours.downstream.length none
    estimated := gate.estimated || volumes.any (·.2) }

/-- The closing-volume history, the outage span and the balance queue after the close of period k with new key N (R131 to R136). -/
def CloseUnit.closed (u : CloseUnit) (k n : Nat) (gate : ClosingPair) (level : Option Nat) (e : BalanceEntry) : CloseUnit :=
  let u := { u with
    openKey := n, openLevel := level
    history := (gate :: u.history).take 2
    outage := if k + 2 ≤ n then some { first := k + 1, last := n - 1, count := n - k - 1 } else u.outage }
  u.join e

/-- The close of the period of the open key at an event with new key N (R129 to R136): meters and gate close at its request, the
turnout volumes are attributed, the close report is sent, the closing pair is pushed with a REACH request, the balance entry
joins the queue, and the Planner recomputes when an order became ACTIVE (R67). An event whose new key is not above the open
key is discarded. -/
def State.closePeriod (s : State) (n : Nat) : State :=
  if n ≤ s.close.openKey then s
  else
    let k := s.close.openKey
    let s := (s.closeMetersOnce k).closeGateOnce k
    let gate := s.gate.closed.getD { key := k, litres := 0, estimated := true }
    let level := s.gate.hD
    let volumes := s.handedVolumes
    let entry := s.balanceEntry k gate level volumes
    let s := s.attributeAll k (List.range 16)
    let before := s.book
    let s := s.closeReport n
    let activated := madeActive before s.book
    let s := (s.withClose (s.close.closed k n gate level entry)).requestReach
    let s := s.drainQueue
    if activated then s.recompute else s

/-! ## Counting after a boundary (R97, R121, R123)

A period event may wait when a pulse or a sample comes, and what comes after the event belongs to the new period. So the meters or the
accumulator are closed first under the ended key of every event that waits for their block; that block's own row then finds the
key closed. A record under an earlier key that the Period Close Unit has not taken is taken by it before it is replaced (R124,
R129: either may be first; log 14: DESIGN CHOICE). -/

/-- The meter periods of the waiting events are closed (R123). -/
def State.settleMeters (s : State) : State :=
  if s.running then s.inbox.meter.foldl (fun t e => (t.closePeriod e.oldKey).closeMetersOnce e.oldKey) s else s

/-- The accumulator of the waiting events is closed (R97). -/
def State.settleGate (s : State) : State :=
  if s.running then s.inbox.gate.foldl (fun t e => (t.closePeriod e.oldKey).closeGateOnce e.oldKey) s else s

end Sys2Proof.Machine
end

