-- ==== Sys2Proof/Machine/StartOps.lean ====
section
/-! DEFINITION. Entry to LOADING, the start decision, the two kinds of start, entry to RUN and the catch-up step (chapter 11 and the start
section of every chapter). -/

namespace Sys2Proof.Machine

open Sys2Proof.Config (Settings Quality)

/-! ## LOADING and CONFIG_FAULT -/

/-- The load source of the latched straps (R179). -/
def loadSource (start : BitVec 2) : LoadSource := if start.getLsbD 0 then .link else .memory

/-- The clock source while no district time is held, and the one a start begins on: it follows the main crystal as the last of
CRYSTAL_STOP and CRYSTAL_RUNNING left it (R13 to R15; log 26: DESIGN CHOICE). -/
def sourceOf (crystal : Bool) : ClockSource := if crystal then .main else .internal

/-- What a turnout keeps when the part stops: the retained items (R128, section 11.3). -/
def Turnout.kept (t : Turnout) : Turnout := { resetTurnout with inService := t.inService, tally := t.tally, due := t.due }

/-- The gate with the part not started: outputs off, what section 11.3 does not retain gone, the input pins as they stand (R114, log 21: DESIGN CHOICE). -/
def Gate.unstarted (g : Gate) : Gate :=
  { resetGate with
    counts := g.counts, suspect := g.suspect, limClosed := g.limClosed, limOpen := g.limOpen, tripIn := g.tripIn
    supplyLow := g.supplyLow }

/-- The buffer emptied, the overrun mark clear, no reply: the link at a start and at every entry to LOADING (R170). A part frame that the
receiver is assembling is left to it (log 27: DESIGN CHOICE). -/
def StationLink.emptied (l : StationLink) : StationLink :=
  { l with arrived := [], buffer := [], overrun := false, reply := none }

/-- The blocks let go of everything that section 11.3 does not retain: the canal line silent with its receiver OFF (R51), counting
STOPPED (R15), no event under way, no alert (R174), the link's buffer and reply gone (R170). -/
def State.clearVolatile (s : State) : State :=
  { s with
    time := { s.time with counting := false, source := sourceOf s.time.crystal }
    inbox := resetInbox
    line := resetLine
    neigh := { s.neigh with entries := [] }
    planner := resetPlanner
    gate := s.gate.unstarted
    meters := { turnouts := s.meters.turnouts.map Turnout.kept, closedKey := none }
    close := resetClose 0
    link := s.link.emptied
    alerts := { s.alerts with pending := 0, moderation := none } }

/-- Entry to LOADING with the straps as latched (R179, R186): the load begins again from offset 0 (R180). The kind of the last start
stays until the next one, through a reset and a loss of supply too (R183; log 6: DESIGN CHOICE). -/
def State.enterLoading (s : State) : State :=
  s.clearVolatile.withStartup { s.startup with
    state := .loading, source := loadSource s.startup.start, failing := none, image := [], catchUpDue := false }

/-- A failed image leaves the part in CONFIG_FAULT with the failing section (R181). -/
def State.enterConfigFault (s : State) (x : ImageSection) : State :=
  s.withStartup { s.startup with state := .configFault, failing := some x, image := [] }

/-! ## The start decision (R183) -/

/-- The image marks absent a turnout that a retained live order names, whose retained tally is above 0 or that stands on the
retained wait list. -/
def State.absentInUse (s : State) (c : Settings) : Bool :=
  (s.book.live.any fun p => !present c p.2.turnout) ||
    ((List.range 16).any fun i =>
      !present c i && (decide (0 < (s.turnout i).tally) || s.billing.waitList.contains (WaitItem.tally i)))

/-- The start decision: cold when any ground of R183 holds, else warm. -/
def State.startKind (s : State) (m : Image) : StartKind :=
  let k := s.startup.marker
  if s.startup.forceCold || !k.valid || k.seasonId != m.seasonId || k.station != m.settings.station.number ||
      k.periodLength != m.settings.periodLength || !k.timeSet || s.absentInUse m.settings then .cold
  else .warm

/-! ## What both kinds of start do -/

/-- The start cause of a kind of start (R174). -/
def startCause : StartKind → Cause
  | .cold => .coldStart
  | .warm => .warmStart

/-- Time quality after a start (R13, R14). -/
def qualityAtStart (source : ClockSource) : Quality :=
  match source with
  | .main => .free
  | .internal => .degraded

/-- A formed entry before any notice (R66). -/
def freshEntry (role : Role) (station tau lostFlow : Nat) : Entry :=
  { role := role, station := station, tau := tau, lostFlow := lostFlow, state := .absent, content := none, receipt := none,
    outOfStep := false, mismatch := false }

/-- The formed entries of a configuration (R52): the upstream station when its number is not 0, then the downstream ones in order. -/
def formEntries (n : Config.Neighbours) : List Entry :=
  (if n.upstream = 0 then [] else [freshEntry .upstream n.upstream 0 0]) ++
    n.downstream.zipIdx.map fun p => freshEntry (.downstream (p.2 + 1)) p.1.station p.1.tau p.1.lostFlow

/-- The Planner at a start (section 5.1, Cold and Warm columns), for its plan key. -/
def startPlanner (c : Settings) (planKey : Nat) : Planner :=
  { planKey := planKey, results := none, source := if isHead c then .head else .fallback, headSupply := c.reach.fallback
    schedules := c.neighbours.downstream.map fun d => freshSchedule d.tau
    correction := 0, target := c.levels.target, staged := none, guardCut := 0 }

/-- The Line Interface at a start: the table of section 3.5, receiver in HUNT (R51). -/
def startLine : LineInterface := { resetLine with rx := .hunt }

/-- The alerts at a start (R174): the set cleared, then the start cause raised, masks of the image, no moderation. -/
def startAlerts (c : Settings) (kind : StartKind) : Alerts :=
  Alerts.raise { pending := 0, masks := c.alert.masks, moderation := none } (startCause kind)

/-- Once the gate has taken its start values, a cause that already holds is a trip onset, and a sensor fault raises GATE_FAULT
(R114, R100, R110). -/
def State.judgeGate (s : State) : State :=
  let s := s.raiseIf (s.gate.record != .none) .gateFault
  if s.gate.tripCause s.settings then (s.withGate (s.gate.trip s.time.elapsed)).raise .gateTrip else s

/-- The link at a start (R170); elapsed time begins again at 0 (R5). A part frame on SL_RXD stays, as it does through RESTART, and its 20 ms
gap begins anew; RESET_RELEASE and SUPPLY_LOSS drop it (log 27: DESIGN CHOICE). -/
def StationLink.atStart (l : StationLink) : StationLink := { l.emptied with lastChar := 0 }

/-- The settings, alerts, line, link, neighbours, planner and gate at a start of either kind, at elapsed time 0 (R5), the Planner at
a given plan key; TIME_DEGRADED on the internal oscillator (section 1.7). -/
def State.startBlocks (s : State) (c : Settings) (kind : StartKind) (planKey : Nat) : State :=
  let s' : State := { s with
    settings := c
    inbox := resetInbox
    line := startLine
    neigh := { s.neigh with entries := formEntries c.neighbours }
    planner := startPlanner c planKey
    gate := (s.gate.atStart c kind).judgeLimits c 0
    close := resetClose planKey
    link := s.link.atStart
    alerts := startAlerts c kind }
  (s'.raiseIf (s.time.source == .internal) .timeDegraded).judgeGate

/-! ## Cold start (R184) -/

/-- The Time Base at a cold start (R13). -/
def TimeBase.atCold (t : TimeBase) : TimeBase :=
  let source := sourceOf t.crystal
  { t with
    time := { day := 0, minute := 0, second := 0, ms := 0 }, quality := qualityAtStart source, source := source
    counting := false, retainedKey := 0, backup := { day := 0, minute := 0, second := 0, phase := 0 }, elapsed := 0 }

/-- The Billing Unit at a cold start (R144, R147, R166). -/
def coldBilling (m : Image) : Billing :=
  { accounts := m.accounts, active := m.rates, staged := none, log := [], nextSeq := 0, readPos := 0, waitList := []
    seasonId := m.seasonId }

/-- The first act of a cold start: the marker INVALID. -/
def State.markInvalid (s : State) : State :=
  s.withStartup { s.startup with marker := { s.startup.marker with valid := false } }

/-- The work of a cold start: the retained collections cleared and the image's values loaded, every block at its Cold values. The
in-service flag of an absent turnout is its entry's byte too, and is what a later warm start finds (log 31: DESIGN CHOICE). -/
def State.coldBlocks (s : State) (m : Image) : State :=
  let s1 : State := { s with
    time := s.time.atCold
    book := { slots := List.replicate 48 none, bookKey := 0 }
    neigh := { s.neigh with watchEnd := 0 }
    meters := { turnouts := m.settings.turnouts.map fun t => { resetTurnout with inService := t.inService }, closedKey := none }
    billing := coldBilling m }
  s1.startBlocks m.settings .cold 0

/-- The last act of a cold start: the marker VALID with the image's values and the time-set mark clear, and the part in WAIT_TIME. -/
def State.markCold (s : State) (m : Image) : State :=
  s.withStartup { s.startup with
    state := .waitTime, failing := none, lastStart := some .cold, image := [], catchUpDue := false
    marker := { valid := true, seasonId := m.seasonId, station := m.settings.station.number,
                periodLength := m.settings.periodLength, timeSet := false } }

/-- A cold start (R184) in its three acts. A supply loss after the first and before the last leaves the marker INVALID; as a start is
one step (log 6: DESIGN CHOICE), that case is taken by the retained-memory mark of RESET_RELEASE (log 7: DESIGN CHOICE). -/
def State.coldStart (s : State) (m : Image) : State := (s.markInvalid.coldBlocks m).markCold m

/-! ## Entry to RUN and warm start -/

/-- Entry to RUN (R51, R67): the notice timer starts from 0, a REACH request is made, and the Planner recomputes (their order is log 15:
DESIGN CHOICE). The sample watch goes on as it runs: after a first TIME_SET, from the entry to WAIT_TIME (log 24: DEDUCED). -/
def State.enterRun (s : State) : State :=
  (s.withLine { s.line with noticeTimer := some s.time.elapsed }).requestReach.recompute

/-- The Time Base at a warm start (R14): time from the backup clock, or the start of the retained key's period when the backup key
lies below it. -/
def TimeBase.atWarm (t : TimeBase) (plen : Nat) : TimeBase :=
  let source := sourceOf t.crystal
  let backup := t.backup.toTime
  { t with
    time := if backup.key plen < t.retainedKey then periodStart plen t.retainedKey else backup
    quality := qualityAtStart source, source := source, counting := true, elapsed := 0 }

/-- A present turnout at a warm start (R128): its retained items, with the period estimated mark set. -/
def warmTurnout (c : Settings) (i : Nat) (t : Turnout) : Turnout := { t.kept with estimated := present c i }

/-- A warm start (R185): the retained state kept, the configuration of the image, entry to RUN; the catch-up step is due. -/
def State.warmStart (s : State) (m : Image) : State :=
  let c := m.settings
  let s1 : State := { s with
    startup := { s.startup with state := .run, failing := none, lastStart := some .warm, image := [], catchUpDue := true }
    time := s.time.atWarm c.periodLength
    meters := { turnouts := s.meters.turnouts.zipIdx.map fun p => warmTurnout c p.2 p.1, closedKey := none } }
  (s1.startBlocks c .warm s.time.retainedKey).enterRun

/-- A good image leads to the start decision and the start it calls for (R183). -/
def State.startWith (s : State) (m : Image) : State :=
  match s.startKind m with
  | .cold => s.coldStart m
  | .warm => s.warmStart m

/-- The check of an image read from MEMORY (R181): a failure goes to LINK when START is 10, else to CONFIG_FAULT. -/
def State.takeMemoryImage (s : State) (image : List Byte) : State :=
  match imageFailure image with
  | none => s.startWith (readImage image)
  | some x =>
    if s.startup.start = 2#2 then s.withStartup { s.startup with source := .link, image := [] } else s.enterConfigFault x

/-- The check of an image loaded over the LINK (R181). -/
def State.takeLinkImage (s : State) (image : List Byte) : State :=
  match imageFailure image with
  | none => s.startWith (readImage image)
  | some x => s.enterConfigFault x

/-! ## The first TIME_SET and the catch-up step -/

/-- An accepted TIME_SET in WAIT_TIME (R11, R17, R88, R141, R184): time and quality set, counting RUNNING, the backup clock and the
retained key written, the time-set mark set, the first current key in every block, and entry to RUN. -/
def State.firstTime (s : State) (t : DistrictTime) : State :=
  let key := t.key s.settings.periodLength
  let s1 : State := { s with
    startup := { s.startup with state := .run, marker := { s.startup.marker with timeSet := true } }
    time := { s.time with
      time := t, quality := qualityAfterSet s.time.source, counting := true, retainedKey := key, backup := t.toBackup }
    book := { s.book with bookKey := key }
    planner := { s.planner with planKey := key }
    close := { s.close with openKey := key, openLevel := s.gate.hD } }
  s1.enterRun

/-- The catch-up step of a warm start (R14): the event from the retained key to the key of the time taken, if any; then the
retained key is written and the backup clock loaded. -/
def State.catchUp (s : State) : State :=
  if s.running && s.startup.catchUpDue then
    (s.withStartup { s.startup with catchUpDue := false }).moveTime s.time.retainedKey s.time.time
  else s

end Sys2Proof.Machine
end

