-- ==== Sys2Proof/Machine/Replies.lean ====
section
/-! DEFINITION. The data of the replies (R192, R194, and the rules that list their items; log 11, a DESIGN CHOICE, gives the sizes that the tables leave open). -/

namespace Sys2Proof.Machine

open Sys2Proof.Config (Settings)

/-! ## Codes of states, numbered from 0 in the order of their tables (R187) -/

/-- Start state. -/
def StartState.code : StartState → Nat
  | .loading => 0
  | .configFault => 1
  | .waitTime => 2
  | .run => 3

/-- Load source. -/
def LoadSource.code : LoadSource → Nat
  | .memory => 0
  | .link => 1

/-- Kind of start. -/
def StartKind.code : StartKind → Nat
  | .cold => 0
  | .warm => 1

/-- Clock source. -/
def ClockSource.code : ClockSource → Nat
  | .main => 0
  | .internal => 1

/-- Transmitter state. -/
def LineTx.code : LineTx → Nat
  | .quiet => 0
  | .gap => 1
  | .sending => 2
  | .backoff => 3

/-- Role of a neighbour entry: UPSTREAM 0, DOWNSTREAM 1 to 3. -/
def Role.code : Role → Nat
  | .upstream => 0
  | .downstream j => j

/-- State of a neighbour entry. -/
def EntryState.code : EntryState → Nat
  | .absent => 0
  | .fresh => 1
  | .lost => 2

/-- Supply source. -/
def SupplySource.code : SupplySource → Nat
  | .head => 0
  | .upstream => 1
  | .fallback => 2

/-- Control mode. -/
def ControlMode.code : ControlMode → Nat
  | .auto => 0
  | .manual => 1

/-- Drive state. -/
def Drive.code : Drive → Nat
  | .stopped => 0
  | .opening => 1
  | .closing => 2
  | .resting => 3
  | .tripped _ => 4
  | .fault => 5

/-- Trip phase, in TRIPPED. -/
def Drive.phase : Drive → Option Nat
  | .tripped .waiting => some 0
  | .tripped (.moving _) => some 1
  | .tripped .done => some 2
  | _ => none

/-- Fault record. -/
def FaultRecord.code : FaultRecord → Nat
  | .none => 0
  | .stall => 1
  | .limits => 2

/-- Flow regime, numbered in the order of R95, since no table defines it (R187; log 11: DESIGN CHOICE). -/
def Regime.code : Regime → Nat
  | .free => 0
  | .submerged => 1

/-- State of an order, numbered in the table of section 2.2, which begins with FREE; that the field of section 2.1, which lists the live
states only, does not renumber them is log 28 (DEDUCED). -/
def OrderState.code : OrderState → Nat
  | .pending => 1
  | .active => 2
  | .closing => 3
  | .closedUnbilled => 4

/-- Kind of a bill record. -/
def RecordKind.code : RecordKind → Nat
  | .delivery => 0
  | .cancel => 1
  | .unordered => 2

/-- Result of a balance evaluation. -/
def BalanceResult.code : BalanceResult → Nat
  | .unjudged => 0
  | .out => 1
  | .within => 2

/-- State of an account. -/
def AccountState.code : AccountState → Nat
  | .good => 0
  | .hold => 1
  | .closed => 2

/-- Result codes (R192): OK 0, FULL 1, to CHECK 18. -/
def ResultCode.code : ResultCode → Nat
  | .ok => 0
  | .full => 1
  | .duplicate => 2
  | .badTurnout => 3
  | .outOfService => 4
  | .account => 5
  | .hold => 6
  | .rate => 7
  | .tooSoon => 8
  | .tooFar => 9
  | .noWatch => 10
  | .overlap => 11
  | .capacity => 12
  | .notFound => 13
  | .state => 14
  | .role => 15
  | .badValue => 16
  | .notReady => 17
  | .check => 18

/-! ## The reply frame -/

/-- The payload of a reply: result byte, status byte with OVERRUN at bit 0, data (R192); bits 1 to 7 of the status byte are sent 0 (log 11:
DESIGN CHOICE). -/
def Reply.payload (r : Reply) : List Byte := byte r.result.code ++ markByte r.overrun ++ r.data

/-- The reply frame as sent on SL_TXD: sync 5D, then kind, length, payload and CRC (R192). -/
def Reply.frame (r : Reply) : List Byte := 0x5D :: linkChars r.kind r.payload

/-! ## Shared records -/

/-- The flags of an order with TIME_UNCERTAIN, in the order of their list. -/
def OrderFlags.code (f : OrderFlags) (uncertain : Bool) : Nat :=
  bitsOf [f.curtailed, f.shutoff, f.estimated, f.outage, f.late, f.service, f.frost, uncertain]

/-- A bill record: 48 bytes (R194). -/
def BillRecord.bytes (r : BillRecord) : List Byte :=
  let o := r.order
  let number := ((o.map OrderPart.number).getD 0)
  let presence := bitsOf [o.isSome, o.isSome, o.isSome, r.granted.isSome, r.tiers.isSome]
  toBytes 4 r.seq ++ byte r.kind.code ++ byte presence ++ toBytes 4 r.key ++ toBytes 2 number ++ toBytes 3 r.account ++
    byte r.turnout ++ byte ((o.map fun x => x.cls.number).getD 0) ++ toBytes 4 ((o.map OrderPart.startKey).getD 0) ++
    toBytes 4 ((o.map OrderPart.endKey).getD 0) ++ toBytes 2 ((o.map OrderPart.rate).getD 0) ++ toBytes 4 (r.granted.getD 0) ++
    toBytes 4 r.delivered ++ toBytes 4 ((r.tiers.map (·.1)).getD 0) ++ toBytes 4 ((r.tiers.map (·.2)).getD 0) ++
    toBytes 4 r.charge ++ byte (r.flags.code r.timeUncertain)

/-- An account entry: number, allotment, credit limit, state, season used, season charges (R145, R146). -/
def Account.bytes (a : Account) : List Byte :=
  toBytes 3 a.number ++ toBytes 4 a.allotment ++ toBytes 4 a.limit ++ byte a.state.code ++ toBytes 4 a.used ++ toBytes 4 a.charges

/-- The marks of 17 causes in 3 bytes. -/
def causeBytes (m : BitVec 17) : List Byte := toBytes 3 m.toNat

/-- Four class values of n bytes each. -/
def fourOf (n : Nat) (x : ByClass) : List Byte := toBytes n x.c1 ++ toBytes n x.c2 ++ toBytes n x.c3 ++ toBytes n x.c4

/-! ## STATUS_READ (R172) -/

/-- Part PART after its start state, which State.statusData puts before every part and which is sent once. The latched straps are one byte, START0
at bit 0, START1 at bit 1, FORCE_COLD at bit 2, and the alert line is 1 asserted, 0 deasserted, whatever the level of ALERT_N (log 11:
DESIGN CHOICE). -/
def State.statusPart (s : State) : List Byte :=
  optBytes 1 (s.startup.failing.map ImageSection.identifier) ++
    byte (bitsOf [s.startup.start.getLsbD 0, s.startup.start.getLsbD 1, s.startup.forceCold]) ++ byte s.startup.source.code ++
    optBytes 1 (s.startup.lastStart.map StartKind.code) ++ causeBytes s.alerts.pending ++ markByte s.alertLine

/-- A value that is present in WAIT_TIME and RUN only. -/
def State.held (s : State) (v : Nat) : Option Nat := if s.working then some v else none

/-- Part TIME; in LOADING and CONFIG_FAULT district time and quality are absent (R15). -/
def State.statusTime (s : State) : List Byte :=
  let t := s.time.time
  optBytes 2 (s.held t.day) ++ optBytes 2 (s.held t.minute) ++ optBytes 1 (s.held t.second) ++ optBytes 2 (s.held t.ms) ++
    optBytes 2 (s.held (t.periodOfDay s.settings.periodLength)) ++ optBytes 4 (s.held s.curKey) ++
    optBytes 1 (s.held (qualityCode s.time.quality)) ++ byte s.time.source.code ++ markByte s.time.counting

/-- Part LINE. -/
def State.statusLine (s : State) : List Byte :=
  let l := s.line
  byte l.tx.code ++ byte l.attempt ++ markByte l.reachReq ++ markByte l.watchReq ++ markByte l.holdoff.isSome ++
    markByte l.noticeTimer.isSome

/-- One entry of part NEIGHBOURS. The age is in seconds (section 4.2): the whole seconds that have passed, the rest dropped, in 4 bytes; a count
byte stands before the closing pairs; and UPSTREAM_MISMATCH, clear in a downstream entry, is sent for every entry (log 11: DESIGN CHOICE). -/
def Entry.bytes (now : Nat) (e : Entry) : List Byte :=
  let pairs := (e.content.map Content.pairs).getD []
  byte e.role.code ++ byte e.station ++ byte e.state.code ++ optBytes 4 (e.receipt.map fun t => (now - t) / 1000) ++
    optBytes 4 (e.content.map Content.senderKey) ++ optBytes 1 (e.content.map fun x => qualityCode x.quality) ++
    optBytes 1 (e.content.map fun x => x.flags.code) ++ optBytes 2 (e.content.map Content.level) ++ byte pairs.length ++
    pairs.flatMap ClosingPair.bytes ++ markByte e.outOfStep ++ markByte e.mismatch

/-- The watch is active at the current key (R62); without a current key it is not. -/
def State.watchOn (s : State) : Bool := s.working && watchActive s.neigh.watchEnd s.curKey

/-- Part NEIGHBOURS, a count byte before the entries (log 11: DESIGN CHOICE). -/
def State.statusNeighbours (s : State) : List Byte :=
  byte s.neigh.entries.length ++ s.neigh.entries.flatMap (Entry.bytes s.time.elapsed) ++ toBytes 4 s.neigh.watchEnd ++
    markByte s.watchOn

/-- The release target and its five parts, in the sizes of PLAN_READ's SUMMARY, as one optional record (log 11: DESIGN CHOICE); absent before the
first recompute (section 5.1). -/
def State.releaseBytes (s : State) : List Byte :=
  optRecord 14 (s.planner.results.map fun r =>
    toBytes 2 r.release.target ++ toBytes 4 r.release.shares ++ toBytes 2 r.release.loss ++
      toBytesSigned 2 r.release.correction ++ toBytes 2 r.release.guardCut ++ toBytes 2 r.release.limit)

/-- Part PLANNER. -/
def State.statusPlanner (s : State) : List Byte :=
  let p := s.planner
  toBytes 4 p.planKey ++ byte p.source.code ++ toBytes 2 p.headSupply ++ s.releaseBytes ++ toBytesSigned 2 p.correction ++
    toBytes 2 p.target ++ optBytes 2 p.staged ++ toBytes 2 p.guardCut ++ markByte (decide (0 < p.guardCut)) ++
    markByte (p.source == .fallback)

/-- Part GATE: the items of the table of section 6.1 in its order, then the items that R172 adds; a count byte before the level window,
the marks of one kind in one byte, and the trip phase as an optional value (log 11: DESIGN CHOICE). -/
def State.statusGate (s : State) : List Byte :=
  let g := s.gate
  let c := s.settings
  byte g.window.length ++ (g.window.flatMap fun w => toBytes 2 w.1 ++ toBytes 2 w.2) ++ optBytes 2 g.hU ++ optBytes 2 g.hD ++
    toBytes 2 g.lastU ++ toBytes 2 g.lastD ++ byte g.missed ++ markByte g.levelFault ++ toBytes 2 g.flow ++
    byte (bitsOf [g.reverseHead, g.saturated]) ++ toBytes 4 g.volume ++ markByte g.volumeEst ++
    optRecord 9 (g.closed.map ClosingPair.bytes) ++ toBytes 2 g.counts ++ markByte g.suspect ++ byte g.mode.code ++
    toBytes 2 g.manual ++ optBytes 2 g.inHand ++ optBytes 2 g.lastUsed ++ toBytes 2 g.target ++ byte g.drive.code ++
    optBytes 1 g.drive.phase ++ byte g.record.code ++ byte (bitsOf [g.upHigh, g.upLow, g.downHigh]) ++
    toBytes 2 (g.position c) ++ byte (bitsOf [g.limClosed, g.limOpen, g.tripIn, g.supplyLow]) ++
    byte (bitsOf [g.tripIn, g.levelCause c]) ++ optBytes 1 (g.regime.map Regime.code)

/-- A balance entry (R143), its slots with the station numbers of the downstream neighbours; no count stands before the slots, which are as
many as the configured neighbours (log 11: DESIGN CHOICE). -/
def BalanceEntry.bytes (stations : List Nat) (e : BalanceEntry) : List Byte :=
  toBytes 4 e.key ++ toBytes 4 e.inflow ++ toBytes 4 e.turnoutSum ++
    optRecord 4 (e.storage.map (toBytesSigned 4)) ++ toBytes 4 e.expectedLoss ++ markByte e.estimated ++
    (e.slots.zipIdx.flatMap fun p =>
      byte (stations.getD p.2 0) ++ optRecord 5 (p.1.map fun v => toBytes 4 v.1 ++ markByte v.2))

/-- An evaluation (R143), its unaccounted volume clamped to the range of a signed 4-byte value (R139). -/
def Evaluation.bytes (e : Evaluation) : List Byte :=
  toBytes 4 e.key ++ toBytesSigned 4 (clampInt (-2147483648) 2147483647 e.unaccounted) ++ byte e.result.code ++ markByte e.estimated

/-- Part BALANCE (R143); in LOADING and CONFIG_FAULT no open key is held, and it is reported absent (log 11: DESIGN CHOICE). A count
byte stands before the history and before the queue (log 11: DESIGN CHOICE). -/
def State.statusBalance (s : State) : List Byte :=
  let u := s.close
  let stations := s.settings.neighbours.downstream.map Config.Downstream.station
  optBytes 4 (s.held u.openKey) ++ optBytes 2 u.openLevel ++ byte u.history.length ++ u.history.flatMap ClosingPair.bytes ++
    byte u.queue.length ++ u.queue.flatMap (BalanceEntry.bytes stations) ++ byte u.lossCount ++ markByte u.reachLoss ++
    optRecord 10 (u.lastEval.map Evaluation.bytes) ++ optBytes 4 u.lastAbandoned ++
    optRecord 12 (u.outage.map fun o => toBytes 4 o.first ++ toBytes 4 o.last ++ toBytes 4 o.count)

/-- A turnout in part TURNOUTS: present, in service, any change flag set, NOISY. All four are 0, the in-service mark among them whatever
flag is held (log 31), for a turnout that the image marks absent, and in LOADING and CONFIG_FAULT, where no configuration marks a turnout
present, for every turnout (log 11: DESIGN CHOICE). -/
def State.turnoutMarks (s : State) (i : Nat) : List Byte :=
  let t := s.turnout i
  if s.working && present s.settings i then byte (bitsOf [true, t.inService, t.flags.code != 0, t.noisy]) else byte 0

/-- Part TURNOUTS. -/
def State.statusTurnouts (s : State) : List Byte := (List.range 16).flatMap s.turnoutMarks

/-- Part BILLING. -/
def State.statusBilling (s : State) : List Byte :=
  let b := s.billing
  (b.accounts.flatMap fun a => byte a.state.code) ++ rateBytes b.active ++ optRecord 34 (b.staged.map rateBytes) ++
    toBytes 2 b.seasonId ++ toBytes 2 b.log.length ++ toBytes 4 b.readPos ++ byte b.waitList.length

/-- The data of a STATUS_READ part, numbered in the order of R172, after the start state; none above part 8. The start state is sent once, in part
PART too, where R172 lists it as the first item beside the one that the reply carries (log 11: DESIGN CHOICE). -/
def State.statusData (s : State) (part : Nat) : Option (List Byte) :=
  let body : Option (List Byte) :=
    match part with
    | 0 => some s.statusPart
    | 1 => some s.statusTime
    | 2 => some s.statusLine
    | 3 => some s.statusNeighbours
    | 4 => some s.statusPlanner
    | 5 => some s.statusGate
    | 6 => some s.statusBalance
    | 7 => some s.statusTurnouts
    | 8 => some s.statusBilling
    | _ => none
  body.map fun x => byte s.startup.state.code ++ x

/-! ## PLAN_READ (R192) -/

/-- The values of one offset when the Planner holds no results. -/
def emptyOffset : OffsetPlan :=
  { ownDemand := [], ownShare := [], downDemand := [], downShare := [], raw := ByClass.zero, announced := ByClass.zero,
    supply := ByClass.zero, pool := ByClass.zero, lossServed := 0, margin := 0 }

/-- The twelve offsets reported: those of the results, or zeros. -/
def State.reportedOffsets (s : State) : List OffsetPlan :=
  match s.planner.results with
  | some r => r.offsets
  | none => List.replicate 12 emptyOffset

/-- Part 0 SUMMARY. -/
def State.planSummary (s : State) : List Byte :=
  let p := s.planner
  let r := (p.results.map PlanResults.release).getD
    { target := 0, shares := 0, loss := 0, correction := 0, guardCut := 0, limit := 0 }
  byte p.source.code ++ toBytes 2 p.headSupply ++ toBytes 2 r.target ++ toBytes 4 r.shares ++ toBytes 2 r.loss ++
    toBytesSigned 2 r.correction ++ toBytes 2 (if p.results.isSome then r.guardCut else p.guardCut) ++ toBytes 2 r.limit ++
    toBytes 2 p.target ++ optBytes 2 p.staged

/-- One offset of part 1 CLASSES: 44 bytes. -/
def OffsetPlan.classPart (x : OffsetPlan) : List Byte :=
  fourOf 4 x.raw ++ fourOf 2 x.announced ++ fourOf 2 x.supply ++ fourOf 2 x.pool ++ toBytes 2 x.lossServed ++ toBytes 2 x.margin

/-- One slot of parts 2 to 4 ORDERS: 49 bytes; zeros for a slot without a PENDING, ACTIVE or CLOSING order, after its slot number (log 11:
DESIGN CHOICE), and without results for its number too. -/
def State.planSlot (s : State) (slot : Nat) : List Byte :=
  let planned := ((s.book.at? slot).map Order.planned).getD false
  byte (if s.planner.results.isSome then slot else 0) ++ s.reportedOffsets.flatMap fun x =>
    if planned then toBytes 2 (x.ownDemand.getD slot 0) ++ toBytes 2 (x.ownShare.getD slot 0) else toBytes 4 0

/-- A schedule entry: marks, then the class grants. -/
def DownEntry.bytes (held : Bool) (e : DownEntry) : List Byte :=
  if held then byte (bitsOf [e.value.isSome, e.frozen]) ++ fourOf 2 (e.value.getD ByClass.zero) else byte 0 ++ fourOf 2 ByClass.zero

/-- One neighbour of parts 5 to 7: 373 bytes; zeros after a station number 0 when the position is not configured. -/
def State.planNeighbour (s : State) (k : Nat) : List Byte :=
  let held := s.planner.results.isSome
  let schedule := (s.planner.schedules[k]?).getD (List.replicate 20 { value := none, frozen := false })
  byte (if held then ((s.settings.neighbours.downstream[k]?).map Config.Downstream.station).getD 0 else 0) ++
    (s.reportedOffsets.flatMap fun x =>
      fourOf 2 (x.downDemand.getD k ByClass.zero) ++ fourOf 2 (x.downShare.getD k ByClass.zero)) ++
    schedule.flatMap (DownEntry.bytes held)

/-- The plan key that a PLAN_READ states: that of the results, or the Planner's own when it holds none (R90). -/
def State.reportedPlanKey (s : State) : Nat := ((s.planner.results.map PlanResults.key).getD s.planner.planKey)

/-- The data of a PLAN_READ part: plan key, results byte, the part; none above part 7. -/
def State.planData (s : State) (part : Nat) : Option (List Byte) :=
  let body : Option (List Byte) :=
    match part with
    | 0 => some s.planSummary
    | 1 => some (s.reportedOffsets.flatMap OffsetPlan.classPart)
    | 2 => some ((List.range 16).flatMap s.planSlot)
    | 3 => some ((List.range 16).flatMap fun i => s.planSlot (i + 16))
    | 4 => some ((List.range 16).flatMap fun i => s.planSlot (i + 32))
    | 5 => some (s.planNeighbour 0)
    | 6 => some (s.planNeighbour 1)
    | 7 => some (s.planNeighbour 2)
    | _ => none
  body.map fun x => toBytes 4 s.reportedPlanKey ++ markByte s.planner.results.isSome ++ x

/-! ## The other reads -/

/-- The data of an ORDER_QUERY (R173): each entry's rate is followed by its frozen mark, and the book key stands last (log 11: DESIGN CHOICE). -/
def orderData (bookKey slot : Nat) (o : Order) : List Byte :=
  byte slot ++ toBytes 2 o.number ++ byte o.turnout ++ byte o.account ++ byte o.cls.number ++ toBytes 4 o.startKey ++
    toBytes 2 o.duration ++ toBytes 2 o.rate ++ toBytes 4 o.endKey ++ byte o.state.code ++
    (o.grants.flatMap fun e => toBytes 2 e.rate ++ markByte e.frozen) ++ toBytes 2 o.floor ++ toBytes 4 o.granted ++
    toBytes 4 o.delivered ++ byte (o.flags.code false) ++ optBytes 4 o.closeKey ++ optBytes 4 o.charge ++ toBytes 4 bookKey

/-- One slot of a BOOK_LIST (R173, R192). -/
def bookRow (p : Nat × Order) : List Byte :=
  let o := p.2
  byte p.1 ++ toBytes 2 o.number ++ byte o.state.code ++ byte o.turnout ++ byte o.cls.number ++ toBytes 2 o.rate ++
    toBytes 2 o.entry0 ++ toBytes 2 o.floor

/-- The data of a BOOK_LIST: book key, count, slots in ascending order. -/
def OrderBook.listData (b : OrderBook) : List Byte :=
  toBytes 4 b.bookKey ++ byte b.live.length ++ b.live.flatMap bookRow

/-- The data of an ACCOUNT_QUERY: the entry and the remaining allotment in litres (R146). -/
def Account.queryData (a : Account) : List Byte := a.bytes ++ toBytes 4 a.remaining

/-- A closed meter period (R123). -/
def ClosedMeter.bytes (m : ClosedMeter) : List Byte :=
  toBytes 4 m.key ++ toBytes 4 m.pulses ++ toBytes 4 m.litres ++ toBytes 2 m.rejects ++ markByte m.estimated

/-- The configured part of a turnout with its in-service flag as it stands (section 7.1). R187 gives no kind for a travel time or a spacing and
none that fits the litres of one pulse: the model takes the sizes of the image for every setting (R193), so litres per pulse 2, τ_t 1,
spacing 2, no-flow time 2 bytes (log 11: DESIGN CHOICE). -/
def turnoutConfigData (x : Config.Turnout) (inService : Bool) : List Byte :=
  markByte x.present ++ markByte inService ++ byte x.account ++ toBytes 2 x.capacity ++ toBytes 2 x.litres ++ byte x.tau ++
    toBytes 2 x.spacing ++ toBytes 2 x.noFlow

/-- The runtime part of a turnout (section 7.1), the last pulse time as its age in ms (R127); the no-flow timer is sent as a mark, running 1
and stopped 0 (log 11: DESIGN CHOICE). -/
def Turnout.runtimeData (now : Nat) (t : Turnout) : List Byte :=
  toBytes 4 t.pulses ++ toBytes 2 t.rejects ++ optBytes 4 (t.lastPulse.map fun x => now - x) ++ toBytes 2 t.rate ++
    markByte t.lastPulse.isSome ++ markByte t.noisy ++ markByte t.estimated ++ markByte t.overdraw ++
    optRecord 15 (t.closed.map ClosedMeter.bytes) ++ toBytes 4 t.tally ++ markByte t.due ++ byte t.flags.code

/-- The data of a TURNOUT_QUERY (R127). -/
def State.turnoutData (s : State) (i : Nat) : List Byte :=
  let t := s.turnout i
  turnoutConfigData (configOf s.settings i) t.inService ++ t.runtimeData s.time.elapsed ++ toBytes 2 (s.book.grantInForce i) ++
    markByte (s.book.hasLiveDraw i)

/-- The data of a LOG_READ of a count, clamped to 4 (R157). -/
def Billing.readData (b : Billing) (count : Nat) : List Byte :=
  toBytes 4 b.readPos ++ toBytes 2 b.log.length ++ byte b.waitList.length ++ (b.log.take (min count 4)).flatMap BillRecord.bytes

/-- The data of an ALERT_READ (R175); the line is sent as 1 asserted and 0 deasserted, whatever the level of ALERT_N (log 11: DESIGN CHOICE). -/
def State.alertData (s : State) : List Byte :=
  causeBytes s.alerts.pending ++ causeBytes s.persisting ++ causeBytes s.alerts.masks ++
    (allCauses.flatMap fun c => byte c.level) ++ byte s.settings.alert.threshold ++ markByte s.alertLine ++
    markByte s.alerts.moderation.isSome

/-- The data of a LOG_RELEASE: released, read position, log count, wait count (R158). -/
def Billing.releaseData (b : Billing) (released : Nat) : List Byte :=
  toBytes 2 released ++ toBytes 4 b.readPos ++ toBytes 2 b.log.length ++ byte b.waitList.length

/-- The data of a CONFIG_END: the failing section, or the kind of start taken (R181). -/
def StartUp.endData (u : StartUp) : List Byte :=
  match u.failing with
  | some x => optBytes 1 (some x.identifier) ++ optBytes 1 none
  | none => optBytes 1 none ++ optBytes 1 (u.lastStart.map StartKind.code)

end Sys2Proof.Machine
end

