-- ==== Sys2Proof/Machine/Ops.lean ====
section
/-! DEFINITION. How a command of the station link is served (R169 to R171), the link receiver (R168), and the taking of period events. -/

namespace Sys2Proof.Machine

/-! ## Serving a command (R169, R171) -/

/-- Which start states serve a command (R171). -/
inductive Service where
  /-- STATUS_READ, and the answers to failed and unknown frames: every start state. -/
  | always
  /-- CONFIG_DATA and CONFIG_END. -/
  | load
  /-- WAIT_TIME and RUN. -/
  | started
  /-- RUN only. -/
  | run
  deriving DecidableEq, Repr

/-- The refusal that the start state gives a command before its owner sees it (R171). -/
def Service.refusal : Service → StartState → Option ResultCode
  | .always, _ => none
  | .load, .waitTime | .load, .run => some .state
  | .load, .loading | .load, .configFault => none
  | .started, .loading | .started, .configFault => some .notReady
  | .started, .waitTime | .started, .run => none
  | .run, .run => none
  | .run, .loading | .run, .configFault | .run, .waitTime => some .notReady

/-- What an owner makes of a command: the state after it, the result code and the data of the reply. -/
structure Served where
  state : State
  result : ResultCode
  data : List Byte

/-- The command is refused: no block changes (R169). -/
def State.refuse (s : State) (r : ResultCode) : Served := { state := s, result := r, data := [] }

/-- The command is taken, answered OK. -/
def State.accept (s : State) (data : List Byte) : Served := { state := s, result := .ok, data := data }

/-- The command occupies the oldest entry of the input buffer (R170). -/
def State.atHead (s : State) (c : Instr) : Bool :=
  match s.link.buffer with
  | f :: _ => decodeLink f == c
  | [] => false

/-- The reply is built (R169, R170): kind, result, the overrun mark, which is cleared, and data only on OK. -/
def State.answer (s : State) (kind : Byte) (result : ResultCode) (data : List Byte) (entry : Bool) : State :=
  s.withLink { s.link with
    overrun := false
    reply := some
      { kind := kind, result := result, overrun := s.link.overrun, data := if result = .ok then data else [], entry := entry } }

/-- What the owner makes of a command, unless the start state refuses it first (R171). -/
def State.result (s : State) (k : Service) (body : Served) : Served :=
  match k.refusal s.startup.state with
  | some r => s.refuse r
  | none => body

/-- A command of the station link is served whole (R169): the refusal of the start state, else the owner's result; then the reply
(log 10: DESIGN CHOICE); its entry is the one of the buffer that the command leaves behind, so a command that empties the buffer frees
its own entry (R170; log 10: DESIGN CHOICE). A command of the Order Book or of the Billing Unit between a warm start and its catch-up
step is served at once (R37, R167; log 15: DESIGN CHOICE). Without supply nothing happens (log 6: DESIGN CHOICE). -/
def State.serve (s : State) (c : Instr) (kind : Byte) (k : Service) (body : Served) : State :=
  if s.startup.powered then
    let r := s.result k body
    r.state.answer kind r.result r.data (r.state.atHead c)
  else s

/-- A read that changes nothing: its data, or a refusal. -/
def State.read (s : State) (data : Option (List Byte)) (refusal : ResultCode) : Served :=
  match data with
  | some bytes => s.accept bytes
  | none => s.refuse refusal

/-! ## Link receiver (R168) -/

/-- The sync byte of the station link (R192). -/
def linkSync : Byte := 0x5D

/-- A character hunted for the sync byte. -/
def linkHunt (b : Byte) (bad : Bool) : LinkRx := if b = linkSync ∧ !bad then .frame [] false else .hunt

/-- More than 20 ms have passed since the last character, from one LINK_CHARACTER_RECEIVED to the next in whole ms (R168; log 27:
DESIGN CHOICE). -/
def StationLink.gapPassed (l : StationLink) (now : Nat) : Bool := decide (l.lastChar + 20 < now)

/-- A character taken into a frame: a payload length above 1 024 ends it at once as a failed frame; the second CRC byte completes it. -/
def StationLink.takeChar (l : StationLink) (chars : List Byte) (bad : Bool) : StationLink :=
  let length := fieldAt chars 1 2
  if chars.length = 3 ∧ 1024 < length then { l with rx := .hunt, arrived := l.arrived ++ [{ chars := chars, bad := true }] }
  else if 3 ≤ chars.length ∧ chars.length = 5 + length then
    { l with rx := .hunt, arrived := l.arrived ++ [{ chars := chars, bad := bad }] }
  else { l with rx := .frame chars bad }

/-- A character on SL_RXD (R168). -/
def StationLink.char (l : StationLink) (now : Nat) (b : Byte) (bad : Bool) : StationLink :=
  let gap := l.gapPassed now
  let l := { l with lastChar := now }
  match l.rx with
  | .hunt => { l with rx := linkHunt b bad }
  | .frame chars soFar => if gap then { l with rx := linkHunt b bad } else l.takeChar (chars ++ [b]) (soFar || bad)

/-- A complete frame joins the input buffer, or sets the overrun mark when both entries are occupied (R170). -/
def StationLink.join (l : StationLink) (f : LinkFrame) : StationLink :=
  if l.buffer.length < 2 then { l with buffer := l.buffer ++ [f] } else { l with overrun := true }

/-- The list without its head when the head is x: a frame handed on leaves the receiver. -/
def dropHead {α : Type} [DecidableEq α] (xs : List α) (x : α) : List α :=
  match xs with
  | y :: ys => if y = x then ys else xs
  | [] => []

/-! ## Expiry of an interval -/

/-- A timer of the working part, in seconds, has expired. -/
def State.expired (s : State) (start : Option Nat) (seconds : Nat) : Bool :=
  s.working && timerDue start (seconds * 1000) s.time.elapsed

/-! ## Cancelling the orders of a turnout (R30) -/

/-- The slots of a list that hold a PENDING order on the turnout. -/
def OrderBook.pendingOn (b : OrderBook) (turnout : Nat) : List Nat :=
  (b.live.filter fun p => p.2.turnout == turnout && p.2.state == .pending).map (·.1)

/-- Cancel the orders in the slots of a list as TURNOUT_SERVICE does (R30), in its order. -/
def State.cancelSlots (s : State) : List Nat → State
  | [] => s
  | slot :: rest =>
    match s.book.at? slot with
    | some o => State.cancelSlots (s.cancelOrder slot false true o) rest
    | none => State.cancelSlots s rest

end Sys2Proof.Machine
end

