-- ==== Sys2Proof/Machine/Accounts.lean ====
section
/-! DEFINITION. The commands of the Billing Unit (chapter 9). -/

namespace Sys2Proof.Machine

/-- What the Billing Unit makes of an ACCOUNT_SET (R145). -/
def State.takeAccount (s : State) (index allotment limit state : Nat) : Served :=
  let a := s.billing.account index
  if a.number = 0 then s.refuse .notFound
  else if allotmentMax < allotment then s.refuse .badValue
  else
    match accountStateOf? state with
    | none => s.refuse .badValue
    | some x =>
      let a := { a with allotment := allotment, limit := limit, state := x }
      State.accept (s.withBilling { s.billing with accounts := s.billing.accounts.set index a }) a.bytes

/-- ACCOUNT_SET (R145). -/
def execAccountSet (index allotment limit state : Nat) (s : State) : Out :=
  .next (s.serve (.accountSet index allotment limit state) 0x17 .run (s.takeAccount index allotment limit state))

/-- What the Billing Unit makes of a RATES_STAGE (R148). -/
def State.takeRates (s : State) (table : RateTable) : Served :=
  if feesGood table then State.accept (s.withBilling { s.billing with staged := some table }) [] else s.refuse .badValue

/-- RATES_STAGE (R148). -/
def execRatesStage (table : RateTable) (s : State) : Out := .next (s.serve (.ratesStage table) 0x1A .run (s.takeRates table))

/-- What the Billing Unit makes of a LOG_RELEASE (R158). -/
def State.takeRelease (s : State) (count : Nat) : Served :=
  let n := min count s.billing.log.length
  let s := s.releaseLog n
  s.accept (s.billing.releaseData n)

/-- LOG_RELEASE (R158, R161). -/
def execLogRelease (count : Nat) (s : State) : Out := .next (s.serve (.logRelease count) 0x1E .run (s.takeRelease count))

/-- What the Billing Unit makes of a SEASON_CLOSE (R165). -/
def State.takeSeasonClose (s : State) : Served :=
  if !s.book.live.isEmpty || !s.billing.waitList.isEmpty then s.refuse .state
  else if logCapacity < s.billing.log.length + s.talliesAboveZero.length then s.refuse .full
  else
    let s := s.seasonClose
    s.accept (toBytes 2 s.billing.seasonId)

/-- SEASON_CLOSE (R165). -/
def execSeasonClose (s : State) : Out := .next (s.serve .seasonClose 0x21 .run s.takeSeasonClose)

end Sys2Proof.Machine
end

