-- ==== Sys2Proof/Machine/AlertCommands.lean ====
section
/-! DEFINITION. The commands of the alert pending set (sections 10.5 and 10.6). -/

namespace Sys2Proof.Machine

/-- What the Station Link makes of an ALERT_ACK (R175, R177). -/
def State.takeAck (s : State) (marks : BitVec 24) : Served :=
  match causeMarks? marks with
  | none => s.refuse .badValue
  | some m =>
    let s := (s.acknowledge m).moderate
    s.accept (causeBytes s.alerts.pending)

/-- ALERT_ACK (R175). -/
def execAlertAck (marks : BitVec 24) (s : State) : Out := .next (s.serve (.alertAck marks) 0x1F .run (s.takeAck marks))

/-- What the Station Link makes of an ALERT_MASK (R178). -/
def State.takeMask (s : State) (marks : BitVec 24) : Served :=
  match causeMarks? marks with
  | none => s.refuse .badValue
  | some m => State.accept (s.withAlerts { s.alerts with masks := clearLevel3 m }) (causeBytes (clearLevel3 m))

/-- ALERT_MASK (R178). -/
def execAlertMask (marks : BitVec 24) (s : State) : Out := .next (s.serve (.alertMask marks) 0x20 .run (s.takeMask marks))

/-- MODERATION_EXPIRY (R177): the timer stops, and the line is judged afresh (it is computed, R176). -/
def execModerationExpiry (s : State) : Out :=
  if s.expired s.alerts.moderation s.settings.alert.moderation then .next (s.withAlerts { s.alerts with moderation := none })
  else .next s

end Sys2Proof.Machine
end

