-- ==== Sys2Proof/Machine/CanalLine.lean ====
section
/-! DEFINITION. The commands of the Line Interface and of the Neighbour Table (chapters 3 and 4). -/

namespace Sys2Proof.Machine

/-- LINE_CHARACTER_RECEIVED (R38, R39, R42). -/
def execLineCharacterReceived (char : Byte) (framingError : Bool) (s : State) : Out :=
  if s.startup.powered then .next (s.withLine (s.line.char char framingError)) else .next s

/-- The receiver listens: WAIT_TIME or RUN, and this station does not transmit (R40, section 3.2). -/
def State.listening (s : State) : Bool := s.working && s.line.tx != .sending

/-- LINE_FRAME_RECEIVED (R40, R54): a complete frame is checked and handed to the Neighbour Table; a frame that fails a check, and a
frame while the receiver is OFF, is discarded. -/
def execLineFrameReceived (frame : List Byte) (s : State) : Out :=
  let s := s.withLine { s.line with arrived := dropHead s.line.arrived frame }
  if s.listening then
    match decodeFrame s.settings.station.number frame with
    | some n => .next (s.takeNotice n)
    | none => .next s
  else .next s

/-- The receiver holds a part frame. -/
def LineRx.inFrame : LineRx → Bool
  | .frame _ => true
  | _ => false

/-- LINE_FRAME_GAP (R39): with the idle count above 3, a part frame is discarded. -/
def execLineFrameGap (s : State) : Out :=
  if s.startup.powered && s.line.rx.inFrame && decide (3 < s.line.idle) then .next (s.withLine { s.line with rx := .hunt })
  else .next s

/-- HOLD_EXPIRY (R59). -/
def execHoldExpiry (entry : Nat) (s : State) : Out :=
  if s.running && s.holdDue entry then .next (s.loseEntry entry) else .next s

/-- ACCESS_GAP_REACHED (R41). -/
def execAccessGapReached (s : State) : Out :=
  if s.line.tx = .gap ∧ accessGap s.settings.station.number ≤ s.line.idle then .next s.tryAttempt else .next s

/-- COLLISION (R42): a character of the frame on the line was read back wrong or with a framing error. -/
def execCollision (s : State) : Out :=
  if s.running && s.line.tx == .sending then .next s.collide else .next s

/-- BACKOFF_EXPIRY (R43). -/
def execBackoffExpiry (s : State) : Out :=
  if s.line.tx = .backoff ∧ backoffCount s.settings.station.number s.line.attempt ≤ s.line.idle then .next s.tryAttempt
  else .next s

/-- NOTICE_COMPLETE (R46): the last CRC character was read back without fault. -/
def execNoticeComplete (s : State) : Out :=
  if s.running && s.line.tx == .sending then .next s.completeNotice else .next s

/-- HOLDOFF_EXPIRY (R47). -/
def execHoldoffExpiry (s : State) : Out :=
  if s.expired s.line.holdoff s.settings.line.holdoff then
    .next (s.withLine ({ s.line with holdoff := none }.wake s.running))
  else .next s

/-- NOTICE_TIMER_EXPIRY (R48). -/
def execNoticeTimerExpiry (s : State) : Out :=
  if s.expired s.line.noticeTimer s.settings.line.noticeInterval then
    .next (s.withLine { s.line with noticeTimer := some s.time.elapsed }).requestReach
  else .next s

/-- NOTICE_NOW (R50). -/
def execNoticeNow (s : State) : Out :=
  .next (s.serve .noticeNow 0x23 .run (State.accept s.requestReach []))

/-- What the Neighbour Table makes of a WATCH_DECLARE (R63). -/
def State.declareWatch (s : State) (key : Nat) : Served :=
  if key < s.curKey then s.refuse .badValue
  else
    let s := s.raiseWatch (clampWatch s.settings.periodLength s.curKey key)
    s.accept (toBytes 4 s.neigh.watchEnd)

/-- WATCH_DECLARE (R63). -/
def execWatchDeclare (key : Nat) (s : State) : Out := .next (s.serve (.watchDeclare key) 0x13 .run (s.declareWatch key))

end Sys2Proof.Machine
end

