-- ==== Sys2Proof/Machine/CheckGate.lean ====
section
/-! DEFINITION. The commands of the Gate Controller (chapter 6). -/

namespace Sys2Proof.Machine

/-- The gate after an event of this instant. -/
def State.changeGate (s : State) (f : Config.Settings → Nat → Gate → Gate) : State :=
  s.withGate (f s.settings s.time.elapsed s.gate)

/-- A trip onset with its alert, unless the drive is already TRIPPED (R110). -/
def State.tripOnset (s : State) : State :=
  if s.gate.drive.isTripped then s else (s.withGate (s.gate.trip s.time.elapsed)).raise .gateTrip

/-- A missed sample (R93, R94): LEVEL_FAULT is raised when it comes into force. -/
def State.missSample (s : State) : State :=
  let s' := s.changeGate fun c now g => g.missedSample c now s.running
  s'.raiseIf (s'.gate.levelFault && !s.gate.levelFault) .levelFault

/-- A good sample (R92): its effects, LEVEL_WINDOW (R98), and the onset of a trip whose cause holds (R110). -/
def State.takeSample (s : State) (u d : Nat) : State :=
  let s' := s.changeGate fun c now g => g.goodSample c now s.running u d
  let s' := s'.raiseIf (s.gate.windowRaised s'.gate) .levelWindow
  if s'.gate.tripCause s'.settings then s'.tripOnset else s'

/-- The sample watch starts again from 0 (R91). -/
def State.restartWatch (s : State) : State := s.changeGate fun _ now g => { g with sampleWatch := some now }

/-- LEVEL_SAMPLE (R91): in WAIT_TIME and RUN the watch restarts, and the record is a good or a bad sample; else it is discarded. A
sample after a boundary adds to the new period (R97). -/
def execLevelSample (record : List Byte) (s : State) : Out :=
  if s.working then
    let s := s.settleGate
    match readSample record with
    | some (u, d) => .next (s.restartWatch.takeSample u d)
    | none => .next s.restartWatch.missSample
  else .next s

/-- SAMPLE_WATCH_EXPIRY (R91). A missed sample after a boundary adds to the new period (R93, R97). -/
def execSampleWatchExpiry (s : State) : Out :=
  if s.expired s.gate.sampleWatch s.settings.levels.sampleInterval then .next s.settleGate.restartWatch.missSample else .next s

/-- One quadrature step in its order (R99): the count, the stall watch of a move in flight (R109), the test for arrival (R106). -/
def Gate.step (opening : Bool) (c : Config.Settings) (now : Nat) (g : Gate) : Gate :=
  let g := g.count opening
  let g := if g.drive.on then { g with stallStart := some now } else g
  g.onPosition c now

/-- ENCODER_STEP (R99). -/
def execEncoderStep (opening : Bool) (s : State) : Out :=
  if s.working then .next (s.changeGate (Gate.step opening)) else .next s

/-- The level of a limit input, and with a new level. -/
def Gate.limit (openLimit : Bool) (g : Gate) : Bool := if openLimit then g.limOpen else g.limClosed
/-- The gate with a limit input at a level. -/
def Gate.setLimit (openLimit active : Bool) (g : Gate) : Gate :=
  if openLimit then { g with limOpen := active } else { g with limClosed := active }

/-- A limit switch becoming active (R100): its effect on the position and on the drive; both active are a sensor fault (R109). -/
def Gate.limitActive (openLimit : Bool) (c : Config.Settings) (now : Nat) (g : Gate) : Gate :=
  let g := g.limitPosition c openLimit
  if g.limClosed && g.limOpen then g.setFault now .limits else (g.limitStop now openLimit).onPosition c now

/-- LIMIT_INPUT_CHANGE (R100, R105). An unchanged level is no change; in LOADING and CONFIG_FAULT the pin alone changes (R114). -/
def execLimitInputChange (openLimit active : Bool) (s : State) : Out :=
  if s.gate.limit openLimit = active then .next s
  else
    let s := s.withGate (s.gate.setLimit openLimit active)
    if !s.working then .next s
    else if active then
      .next ((s.changeGate (Gate.limitActive openLimit)).raiseIf (s.gate.limClosed && s.gate.limOpen) .gateFault)
    else .next (s.changeGate Gate.startRule)

/-- REST_EXPIRY (R107): STOPPED, and the start rule at once (R105). -/
def execRestExpiry (s : State) : Out :=
  if s.gate.drive = .resting ∧ s.expired s.gate.restStart s.settings.levels.restTime then
    .next (s.changeGate fun c now g => (g.enter now .stopped).startRule c now)
  else .next s

/-- STALL_EXPIRY (R109). -/
def execStallExpiry (s : State) : Out :=
  if s.gate.drive.on ∧ s.expired s.gate.stallStart s.settings.levels.stallTime then
    .next ((s.changeGate fun _ now g => g.setFault now .stall).raise .gateFault)
  else .next s

/-- SUPPLY_LOW on a working gate (R108): becoming active it stops an OPENING or CLOSING move; becoming inactive the start rule applies. -/
def Gate.supplyLowChanged (c : Config.Settings) (now : Nat) (g : Gate) : Gate :=
  if g.supplyLow then
    match g.drive with
    | .opening | .closing => g.enter now .resting
    | .stopped | .resting | .tripped _ | .fault => g
  else g.startRule c now

/-- SUPPLY_LOW_CHANGE (R108). -/
def execSupplyLowChange (active : Bool) (s : State) : Out :=
  if s.gate.supplyLow = active then .next s
  else
    let s := s.withGate { s.gate with supplyLow := active }
    if s.working then .next (s.changeGate Gate.supplyLowChanged) else .next s

/-- TRIP_INPUT_CHANGE (R110). -/
def execTripInputChange (active : Bool) (s : State) : Out :=
  if s.gate.tripIn = active then .next s
  else
    let s := s.withGate { s.gate with tripIn := active }
    if s.working && active then .next s.tripOnset else .next s

/-- TRIP_WAIT_EXPIRY (R111). -/
def execTripWaitExpiry (s : State) : Out :=
  if s.gate.drive = .tripped .waiting ∧ s.expired s.gate.restStart s.settings.levels.restTime then
    .next (s.changeGate Gate.tripAct)
  else .next s

/-- The gate after a GATE_MODE that is taken (R103): MANUAL makes the clamped opening the target; AUTO computes one. -/
def Gate.setMode (mode : ControlMode) (opening : Nat) (c : Config.Settings) (now : Nat) (g : Gate) : Gate :=
  match mode with
  | .manual =>
    Gate.onTarget c now { g with mode := .manual, manual := clampOpening c opening, target := clampOpening c opening }
  | .auto => Gate.onTarget c now (Gate.computeTarget c { g with mode := .auto })

/-- What the Gate Controller makes of a GATE_MODE (R103); an undefined mode is BAD_VALUE (R187). -/
def State.takeGateMode (s : State) (mode opening : Nat) : Served :=
  match modeOf? mode with
  | none => s.refuse .badValue
  | some m =>
    let s := s.changeGate (Gate.setMode m opening)
    s.accept (byte s.gate.mode.code ++ toBytes 2 s.gate.target)

/-- GATE_MODE (R103). -/
def execGateMode (mode opening : Nat) (s : State) : Out :=
  .next (s.serve (.gateMode mode opening) 0x1C .run (s.takeGateMode mode opening))

/-- What the Gate Controller makes of a TRIP_CLEAR (R113). -/
def State.takeTripClear (s : State) : Served :=
  let g := s.gate
  if !(g.drive.isTripped || g.drive == .fault) || g.tripCause s.settings || (g.limClosed && g.limOpen) then s.refuse .state
  else State.accept (s.changeGate fun _ now g => Gate.enter now .resting { g with record := .none }) []

/-- TRIP_CLEAR (R113). -/
def execTripClear (s : State) : Out := .next (s.serve .tripClear 0x1D .run s.takeTripClear)

end Sys2Proof.Machine
end

