-- ==== Sys2Proof/Machine/Clock.lean ====
section
/-! DEFINITION. The commands of the Time Base (chapter 1). -/

namespace Sys2Proof.Machine

/-- PERIOD_BOUNDARY (R2): the millisecond of counting that carries district time across a period start, with the boundary event, the day
close, the retained key and the backup clock. It acts only when that millisecond is the next (log 1: DEDUCED). -/
def execPeriodBoundary (s : State) : Out :=
  if s.boundaryDue then .next (s.tickElapsed.moveTime s.curKey s.time.time.tick) else .next s

/-- CRYSTAL_STOP (R6, R15), the end of the 2 ms without oscillation (log 26: DESIGN CHOICE): the clock source becomes INTERNAL; in WAIT_TIME and RUN quality becomes DEGRADED with its alert. -/
def execCrystalStop (s : State) : Out :=
  let t := { s.time with crystal := false }
  if s.working then .next ((s.withTime { t with source := .internal, quality := .degraded }).raise .timeDegraded)
  else if s.startup.powered then .next (s.withTime { t with source := .internal })
  else .next (s.withTime t)

/-- CRYSTAL_RUNNING (R7, R15), the end of the 100 ms watch: the clock source becomes MAIN; quality stays. The model holds no watch
and asks for no 100 ms since the last CRYSTAL_STOP (log 26: DESIGN CHOICE). -/
def execCrystalRunning (s : State) : Out :=
  let t := { s.time with crystal := true }
  if s.startup.powered then .next (s.withTime { t with source := .main }) else .next (s.withTime t)

/-- An accepted TIME_SET in RUN (R10): the catch-up step first where it is still due (log 15: DESIGN CHOICE), then the new time with its events and the
quality. The catch-up step only issues its event, so the bill records that the event makes later are made in the new quality: with SET they carry
TIME_UNCERTAIN clear (log 15: DESIGN CHOICE). -/
def State.setTime (s : State) (t : DistrictTime) : State :=
  let s := s.catchUp
  let s := s.moveTime s.curKey t
  s.withTime { s.time with quality := qualityAfterSet s.time.source }

/-- What the Time Base makes of a TIME_SET (R9 to R11). -/
def State.takeTimeSet (s : State) (t : DistrictTime) : Served :=
  if !timeWellFormed t then s.refuse .badValue
  else if s.startup.state = .waitTime then State.accept (s.firstTime t) []
  else if s.timeSetAccepted t then State.accept (s.setTime t) []
  else s.refuse .badValue

/-- TIME_SET (R9 to R11). -/
def execTimeSet (day minute second ms : Nat) (s : State) : Out :=
  .next (s.serve (.timeSet day minute second ms) 0x10 .started
    (s.takeTimeSet { day := day, minute := minute, second := second, ms := ms }))

/-- What the Time Base makes of a TIME_TRIM (R12): 0 s changes nothing; otherwise the catch-up step first where it is still due. -/
def State.takeTimeTrim (s : State) (seconds : Int) : Served :=
  if seconds = 0 then s.accept []
  else
    let s := s.catchUp
    State.accept (s.moveTime s.curKey (s.trimmedTime seconds)) []

/-- TIME_TRIM (R12). -/
def execTimeTrim (seconds : Int) (s : State) : Out :=
  .next (s.serve (.timeTrim seconds) 0x11 .run (s.takeTimeTrim seconds))

end Sys2Proof.Machine
end

