-- ==== Sys2Proof/Machine/LinkFrames.lean ====
section
/-! DEFINITION. The frames of the station link: characters, complete frames, replies, failed and unknown frames (R168 to R170). -/

namespace Sys2Proof.Machine

/-- LINK_CHARACTER_RECEIVED (R168): the receiver runs in every start state. -/
def execLinkCharacterReceived (char : Byte) (framingError : Bool) (s : State) : Out :=
  if s.startup.powered then .next (s.withLink (s.link.char s.time.elapsed char framingError)) else .next s

/-- LINK_FRAME_RECEIVED (R170). -/
def execLinkFrameReceived (frame : List Byte) (framingError : Bool) (s : State) : Out :=
  let f : LinkFrame := { chars := frame, bad := framingError }
  if s.startup.powered then .next (s.withLink ({ s.link with arrived := dropHead s.link.arrived f }.join f)) else .next s

/-- The link receiver holds a part frame. -/
def LinkRx.inFrame : LinkRx → Bool
  | .frame _ _ => true
  | .hunt => false

/-- LINK_FRAME_GAP (R168): more than 20 ms after the last character, a part frame is discarded without a reply. -/
def execLinkFrameGap (s : State) : Out :=
  if s.startup.powered && s.link.rx.inFrame && s.link.gapPassed s.time.elapsed then
    .next (s.withLink { s.link with rx := .hunt })
  else .next s

/-- REPLY_SENT (R169, R170): the entry that the command occupied is freed. After the OK of a RESTART the part enters LOADING (R186). -/
def execReplySent (s : State) : Out :=
  match s.link.reply with
  | none => .next s
  | some r =>
    let s := s.withLink { s.link with reply := none, buffer := if r.entry then s.link.buffer.tail else s.link.buffer }
    if r.kind = 0x22 ∧ r.result = .ok then .next s.enterLoading else .next s

/-- CHECK (R168): a failed frame is answered CHECK with the kind byte as received. -/
def execCheck (kind : Byte) (s : State) : Out := .next (s.serve (.check kind) kind .always (s.refuse .check))

/-- UNKNOWN_COMMAND (R168): answered BAD_VALUE. -/
def execUnknownCommand (kind : Byte) (s : State) : Out :=
  .next (s.serve (.unknownCommand kind) kind .always (s.refuse .badValue))

end Sys2Proof.Machine
end

