-- ==== Sys2Proof/Machine/Metering.lean ====
section
/-! DEFINITION. The commands of the Meter Unit (chapter 7), and TURNOUT_SERVICE (R30). -/

namespace Sys2Proof.Machine

/-- A pulse lies less than the minimum spacing after the last accepted one (R118). -/
def Turnout.tooClose (x : Config.Turnout) (now : Nat) (t : Turnout) : Bool :=
  match t.lastPulse with
  | some p => decide (now < p + x.spacing)
  | none => false

/-- A rejected pulse in RUN (R118, R120): one more reject; above 8 the meter becomes NOISY. -/
def Turnout.reject (t : Turnout) : Turnout :=
  let t := { t with rejects := min (t.rejects + 1) 65535 }
  if 8 < t.rejects ∧ !t.noisy then { t with noisy := true, estimated := true, flags := { t.flags with noisy := true } } else t

/-- The rate estimate that an accepted pulse leaves (R119). -/
def Turnout.rateAt (x : Config.Turnout) (now : Nat) (t : Turnout) : Nat :=
  match t.lastPulse with
  | some p => min (x.litres * 1000 / (now - p)) flowMax
  | none => t.rate

/-- An accepted pulse (R118, R119, R121, R122): counted in RUN; rate estimate, last pulse time and no-flow timer; the unordered draw; in RUN
the overdraw judgement. -/
def Turnout.acceptPulse (x : Config.Turnout) (book : OrderBook) (inRun : Bool) (now i : Nat) (t : Turnout) : Turnout :=
  let t := { t with
    pulses := if inRun then satAdd volumeMax t.pulses 1 else t.pulses
    rate := t.rateAt x now
    lastPulse := some now
    flags := { t.flags with unorderedDraw := t.flags.unorderedDraw || !book.hasLiveDraw i } }
  if inRun then t.judge book i else t

/-- A pulse on a watched meter input (R117, R118). -/
def Turnout.pulse (x : Config.Turnout) (book : OrderBook) (inRun : Bool) (now i : Nat) (t : Turnout) : Turnout :=
  if t.tooClose x now then (if inRun then t.reject else t) else t.acceptPulse x book inRun now i

/-- A turnout after an event of this instant. -/
def State.changeTurnout (s : State) (i : Nat) (f : Turnout → Turnout) : State := s.putTurnout i (f (s.turnout i))

/-- METER_PULSE (R116 to R122): the inputs of present turnouts are watched in WAIT_TIME and RUN. A pulse after a boundary is counted
in the new meter period (R121). -/
def execMeterPulse (turnout : Nat) (s : State) : Out :=
  if s.working && present s.settings turnout then
    let s := s.settleMeters
    .next (s.changeTurnout turnout
      (Turnout.pulse (configOf s.settings turnout) s.book s.running s.time.elapsed turnout))
  else .next s

/-- The no-flow timer expires (R119): rate 0, no last pulse time, and the overdraw judgement. -/
def Turnout.noFlow (book : OrderBook) (i : Nat) (t : Turnout) : Turnout :=
  Turnout.judge book i { t with rate := 0, lastPulse := none }

/-- NO_FLOW_EXPIRY (R119). An expiry after a boundary is judged in the new meter period (R122). -/
def execNoFlowExpiry (turnout : Nat) (s : State) : Out :=
  if present s.settings turnout && s.expired (s.turnout turnout).lastPulse (configOf s.settings turnout).noFlow then
    let s := s.settleMeters
    .next (s.changeTurnout turnout (Turnout.noFlow s.book turnout))
  else .next s

/-- The in-service flag of a turnout takes a value, with SERVICE_CHANGED (R30). -/
def State.setService (s : State) (i : Nat) (on : Bool) : State :=
  let t := s.turnout i
  s.putTurnout i { t with inService := on, flags := { t.flags with serviceChanged := true } }

/-- Taking a turnout out of service (R30): its PENDING orders are cancelled in ascending slot order, and the Planner recomputes on them. -/
def State.outOfService (s : State) (i : Nat) : State :=
  let slots := s.book.pendingOn i
  let s := (s.setService i false).cancelSlots slots
  if slots.isEmpty then s else s.recompute

/-- What the Order Book makes of a TURNOUT_SERVICE (R30); the turnout is judged before the direction (log 12: DEDUCED). -/
def State.takeService (s : State) (i direction : Nat) : Served :=
  if !present s.settings i then s.refuse .badTurnout
  else
    match directionOf? direction with
    | none => s.refuse .badValue
    | some on =>
      if !on ∧ s.book.hasLiveDraw i then s.refuse .state
      else if (s.turnout i).inService = on then s.accept []
      else State.accept (if on then s.setService i true else s.outOfService i) []

/-- TURNOUT_SERVICE (R30). -/
def execTurnoutService (turnout direction : Nat) (s : State) : Out :=
  .next (s.serve (.turnoutService turnout direction) 0x18 .run (s.takeService turnout direction))

/-- What the Meter Unit makes of a TURNOUT_ACK (R126); a mark at bits 4 to 7 names no change flag (R187). -/
def State.takeTurnoutAck (s : State) (i : Nat) (marks : Byte) : Served :=
  if !present s.settings i then s.refuse .badTurnout
  else if 15 < marks.toNat then s.refuse .badValue
  else
    let t := s.turnout i
    let flags := t.flags.clearMarked marks
    State.accept (s.putTurnout i { t with flags := flags }) (byte flags.code)

/-- TURNOUT_ACK (R126). -/
def execTurnoutAck (turnout : Nat) (marks : Byte) (s : State) : Out :=
  .next (s.serve (.turnoutAck turnout marks) 0x19 .run (s.takeTurnoutAck turnout marks))

end Sys2Proof.Machine
end

