-- ==== Sys2Proof/Machine/Orders.lean ====
section
/-! DEFINITION. The commands of the Order Book (chapter 2) and of the Release Planner (chapter 5). -/

namespace Sys2Proof.Machine

/-- An admitted order takes the lowest-numbered FREE slot (R16, R27), and the Planner recomputes (R67). -/
def State.enterOrder (s : State) (r : OrderRequest) (cls : WaterClass) (slot : Nat) : State :=
  (s.withBook (s.book.put slot (some (admittedOrder s.settings r cls)))).recompute

/-- What the Order Book makes of an ORDER_PLACE (R23, R24, R27). -/
def State.takeOrder (s : State) (r : OrderRequest) : Served :=
  if !formGood s.settings.periodLength r then s.refuse .badValue
  else
    match s.admission r, s.book.freeSlot, classOf? r.cls with
    | some code, _, _ => s.refuse code
    | none, some slot, some cls => State.accept (s.enterOrder r cls slot) (byte slot)
    | none, none, _ => s.refuse .full
    | none, some _, none => s.refuse .badValue

/-- ORDER_PLACE (R23 to R27). -/
def execOrderPlace (request : OrderRequest) (s : State) : Out :=
  .next (s.serve (.orderPlace request) 0x14 .run (s.takeOrder request))

/-- A cancellation by the station processor (R28), with the recompute (R67). -/
def State.cancelByCommand (s : State) (slot : Nat) (o : Order) : State := (s.cancelOrder slot (s.isLate o) false o).recompute

/-- What the Order Book makes of an ORDER_CANCEL (R28). -/
def State.takeCancel (s : State) (number : Nat) : Served :=
  match s.book.find number with
  | none => s.refuse .notFound
  | some (slot, o) => if o.state = .pending then State.accept (s.cancelByCommand slot o) [] else s.refuse .state

/-- ORDER_CANCEL (R28). -/
def execOrderCancel (number : Nat) (s : State) : Out :=
  .next (s.serve (.orderCancel number) 0x15 .run (s.takeCancel number))

/-- An ACTIVE order shut off at the current key (R29): its end key becomes the current key unless it is at or below it; SHUTOFF is set. -/
def Order.shutOff (current : Nat) (o : Order) : Order :=
  { o with
    duration := if o.endKey ≤ current then o.duration else current - o.startKey + 1
    flags := { o.flags with shutoff := true } }

/-- What the Order Book makes of an ORDER_SHUTOFF (R29). -/
def State.takeShutoff (s : State) (number : Nat) : Served :=
  match s.book.find number with
  | none => s.refuse .notFound
  | some (slot, o) =>
    match o.state with
    | .active => State.accept (s.withBook (s.book.put slot (some (o.shutOff s.curKey)))).recompute []
    | .pending => State.accept (s.cancelByCommand slot o) []
    | .closing | .closedUnbilled => s.refuse .state

/-- ORDER_SHUTOFF (R29). -/
def execOrderShutoff (number : Nat) (s : State) : Out :=
  .next (s.serve (.orderShutoff number) 0x16 .run (s.takeShutoff number))

/-- What the Planner makes of a SUPPLY_SET (R75). -/
def State.takeSupply (s : State) (flow : Nat) : Served :=
  if isHead s.settings then
    let s := (s.withPlanner { s.planner with headSupply := min flow flowMax }).recompute
    s.accept (toBytes 2 s.planner.headSupply)
  else s.refuse .role

/-- SUPPLY_SET (R75). -/
def execSupplySet (flow : Nat) (s : State) : Out := .next (s.serve (.supplySet flow) 0x12 .run (s.takeSupply flow))

/-- What the Planner makes of a TARGET_STAGE (R86). -/
def State.takeTarget (s : State) (level : Nat) : Served :=
  if isTail s.settings then s.refuse .role
  else if levelMax < level then s.refuse .badValue
  else State.accept (s.withPlanner { s.planner with staged := some level }) []

/-- TARGET_STAGE (R86). -/
def execTargetStage (level : Nat) (s : State) : Out := .next (s.serve (.targetStage level) 0x1B .run (s.takeTarget level))

end Sys2Proof.Machine
end

