-- ==== Sys2Proof/Machine/Periods.lean ====
section
/-! DEFINITION. How the blocks take the period events that the Time Base has issued (R68, R97, R123, R129, R164). Each acts on the oldest event
that waits for its block, and on none changes nothing (log 14: DESIGN CHOICE). -/

namespace Sys2Proof.Machine

/-- PLAN_PERIOD_CHANGE (R68). -/
def execPlanPeriodChange (s : State) : Out :=
  match s.inbox.planner with
  | e :: rest =>
    if s.running then .next ((s.withInbox { s.inbox with planner := rest }).planPeriodChange e.newKey) else .next s
  | [] => .next s

/-- The boundary work of the Gate Controller for an ended key (R97, R101, R112): the accumulator closed once under it, an opening-target
computation in AUTO, and auto-resume. -/
def Gate.boundary (c : Config.Settings) (now key : Nat) (g : Gate) : Gate :=
  let g := g.closeOnce key
  let g := if g.mode = .auto then (g.computeTarget c).onTarget c now else g
  if g.autoResumes c then g.resume now else g

/-- The Period Close Unit has taken every record under an earlier key, so a block may store one under this key (log 14: DESIGN CHOICE). -/
def State.closeReady (s : State) (key : Nat) : Bool := decide (key ≤ s.close.openKey)

/-- GATE_PERIOD_BOUNDARY (R97, R112). -/
def execGatePeriodBoundary (s : State) : Out :=
  match s.inbox.gate with
  | e :: rest =>
    if s.running && s.closeReady e.oldKey then
      .next ((s.withInbox { s.inbox with gate := rest }).withGate (s.gate.boundary s.settings s.time.elapsed e.oldKey))
    else .next s
  | [] => .next s

/-- METER_PERIOD_CLOSE (R123, R124). -/
def execMeterPeriodClose (s : State) : Out :=
  match s.inbox.meter with
  | e :: rest =>
    if s.running && s.closeReady e.oldKey then .next ((s.withInbox { s.inbox with meter := rest }).closeMetersOnce e.oldKey)
    else .next s
  | [] => .next s

/-- PERIOD_CLOSE (R129 to R136). -/
def execPeriodClose (s : State) : Out :=
  match s.inbox.close with
  | e :: rest => if s.running then .next ((s.withInbox { s.inbox with close := rest }).closePeriod e.newKey) else .next s
  | [] => .next s

/-- BILLING_DAY_CLOSE (R164): it waits until the period that the same event ended is closed. -/
def execBillingDayClose (s : State) : Out :=
  match s.inbox.billing with
  | e :: rest =>
    if s.running && s.closeReady e.newKey then .next (s.withInbox { s.inbox with billing := rest }).dayClose else .next s
  | [] => .next s

end Sys2Proof.Machine
end

