-- ==== Sys2Proof/Machine/Reads.lean ====
section
/-! DEFINITION. The read commands of the station link (R172, R173, R90, R146, R127, R157, R175). None changes a block. -/

namespace Sys2Proof.Machine

/-- STATUS_READ (R172). -/
def execStatusRead (part : Nat) (s : State) : Out :=
  .next (s.serve (.statusRead part) 0x01 .always (s.read (s.statusData part) .badValue))

/-- PLAN_READ (R90, R192). -/
def execPlanRead (part : Nat) (s : State) : Out :=
  .next (s.serve (.planRead part) 0x02 .started (s.read (s.planData part) .badValue))

/-- ORDER_QUERY (R173). -/
def execOrderQuery (number : Nat) (s : State) : Out :=
  .next (s.serve (.orderQuery number) 0x03 .started
    (s.read ((s.book.find number).map fun p => orderData s.book.bookKey p.1 p.2) .notFound))

/-- BOOK_LIST (R173). -/
def execBookList (s : State) : Out := .next (s.serve .bookList 0x04 .started (s.accept s.book.listData))

/-- ACCOUNT_QUERY (R146): an index above 63 names an entry that is not configured. -/
def execAccountQuery (index : Nat) (s : State) : Out :=
  let a := s.billing.account index
  .next (s.serve (.accountQuery index) 0x05 .started
    (s.read (if a.number = 0 then none else some a.queryData) .notFound))

/-- TURNOUT_QUERY (R127, R116). -/
def execTurnoutQuery (turnout : Nat) (s : State) : Out :=
  .next (s.serve (.turnoutQuery turnout) 0x06 .started
    (s.read (if present s.settings turnout then some (s.turnoutData turnout) else none) .badTurnout))

/-- LOG_READ (R157). -/
def execLogRead (count : Nat) (s : State) : Out :=
  .next (s.serve (.logRead count) 0x07 .started (s.accept (s.billing.readData count)))

/-- ALERT_READ (R175). -/
def execAlertRead (s : State) : Out := .next (s.serve .alertRead 0x08 .started (s.accept s.alertData))

end Sys2Proof.Machine
end

