-- ==== Sys2Proof/Machine/Startup.lean ====
section
/-! DEFINITION. The commands of the Start-up Controller: reset, supply, image, catch-up, link load, RESTART (chapter 11). -/

namespace Sys2Proof.Machine

/-- RESET_RELEASE (R179): the straps are latched, and the part enters LOADING with the source they choose. A retained memory that the
backup cell did not hold leaves the marker INVALID (R183, log 7: DESIGN CHOICE). The kind of the last start stays (log 6: DESIGN CHOICE), and
a part frame on SL_RXD is dropped (log 27: DESIGN CHOICE). -/
def execResetRelease (start : BitVec 2) (forceCold retainedHeld : Bool) (s : State) : Out :=
  let k := s.startup.marker
  let s := s.withStartup { s.startup with
    powered := true, start := start, forceCold := forceCold, marker := { k with valid := k.valid && retainedHeld } }
  let s := s.enterLoading
  .next (s.withLink { s.link with rx := .hunt })

/-- SUPPLY_LOSS (R182): the part stops; the retained items and the backup clock stay, and so does the kind of the last
start (log 6: DESIGN CHOICE); a part frame on SL_RXD is dropped (log 27: DESIGN CHOICE). -/
def execSupplyLoss (s : State) : Out :=
  let s := s.enterLoading
  let s := s.withStartup { s.startup with powered := false }
  .next (s.withLink { s.link with rx := .hunt })

/-- IMAGE_READ_COMPLETE (R180, R181): in LOADING with source MEMORY, the bytes that the header's length gives are checked. -/
def execImageReadComplete (image : List Byte) (s : State) : Out :=
  if s.startup.powered && s.startup.state == .loading && s.startup.source == .memory then
    .next (s.takeMemoryImage (image.take (headerLength image)))
  else .next s

/-- CATCH_UP (R14, R185). -/
def execCatchUp (s : State) : Out := .next s.catchUp

/-- What the load takes of a CONFIG_DATA (R180): an offset above the count of bytes received, a size outside 1 to 512, or bytes that pass
8 192 are refused; otherwise the bytes from the offset on are replaced. In CONFIG_FAULT the source becomes LINK and the part
returns to LOADING, whose entry empties the input buffer and clears the overrun mark (R170), the entry of this command with it, while
its reply is still sent (log 10: DESIGN CHOICE); there a load begins from offset 0 (log 18: DEDUCED). -/
def State.loadBytes (s : State) (offset : Nat) (bytes : List Byte) : Served :=
  let u := s.startup
  if u.state = .loading ∧ u.source = .memory then s.refuse .state
  else if u.image.length < offset ∨ imageMax < offset + bytes.length ∨ bytes.length = 0 ∨ 512 < bytes.length then
    s.refuse .badValue
  else
    let s := if u.state = .configFault then s.withLink s.link.emptied else s
    State.accept (s.withStartup { u with
      state := .loading, source := .link, failing := none, image := u.image.take offset ++ bytes }) []

/-- CONFIG_DATA (R180, R171). -/
def execConfigData (offset : Nat) (bytes : List Byte) (s : State) : Out :=
  .next (s.serve (.configData offset bytes) 0x30 .load (s.loadBytes offset bytes))

/-- What the load takes of a CONFIG_END (R180, R181): OK in both outcomes, with the failing section or the kind of start. A start empties
the input buffer, the entry of this command with it, while its reply is still sent (R170; log 10: DESIGN CHOICE). In CONFIG_FAULT before any
CONFIG_DATA no byte has been received, so the check is of an empty image: it fails, and HEADER becomes the recorded failing section
(log 18: DEDUCED). -/
def State.endLoad (s : State) : Served :=
  if s.startup.state = .loading ∧ s.startup.source = .memory then s.refuse .state
  else
    let s := s.takeLinkImage s.startup.image
    s.accept s.startup.endData

/-- CONFIG_END (R181, R171). -/
def execConfigEnd (s : State) : Out := .next (s.serve .configEnd 0x31 .load s.endLoad)

/-- RESTART (R186): answered OK in RUN; LOADING follows the last character of the reply (REPLY_SENT). -/
def execRestart (s : State) : Out := .next (s.serve .restart 0x22 .run (s.accept []))

end Sys2Proof.Machine
end

