-- ==== Sys2Proof/Machine/Dispatch.lean ====
section
/-! DEFINITION. The dispatch: one arm per command, one direct call of its meaning. -/

namespace Sys2Proof.Machine

/-- The effect of a command on everything but the queue. -/
def exec (i : Instr) (s : State) : Host.Outcome State Fault Refusal :=
  match i with
  | .resetRelease start forceCold retainedHeld => Sys2Proof.Machine.execResetRelease start forceCold retainedHeld s
  | .supplyLoss => Sys2Proof.Machine.execSupplyLoss s
  | .imageReadComplete image => Sys2Proof.Machine.execImageReadComplete image s
  | .catchUp => Sys2Proof.Machine.execCatchUp s
  | .periodBoundary => Sys2Proof.Machine.execPeriodBoundary s
  | .crystalStop => Sys2Proof.Machine.execCrystalStop s
  | .crystalRunning => Sys2Proof.Machine.execCrystalRunning s
  | .planPeriodChange => Sys2Proof.Machine.execPlanPeriodChange s
  | .gatePeriodBoundary => Sys2Proof.Machine.execGatePeriodBoundary s
  | .meterPeriodClose => Sys2Proof.Machine.execMeterPeriodClose s
  | .periodClose => Sys2Proof.Machine.execPeriodClose s
  | .billingDayClose => Sys2Proof.Machine.execBillingDayClose s
  | .lineFrameReceived frame => Sys2Proof.Machine.execLineFrameReceived frame s
  | .lineFrameGap => Sys2Proof.Machine.execLineFrameGap s
  | .holdExpiry entry => Sys2Proof.Machine.execHoldExpiry entry s
  | .accessGapReached => Sys2Proof.Machine.execAccessGapReached s
  | .collision => Sys2Proof.Machine.execCollision s
  | .backoffExpiry => Sys2Proof.Machine.execBackoffExpiry s
  | .noticeComplete => Sys2Proof.Machine.execNoticeComplete s
  | .holdoffExpiry => Sys2Proof.Machine.execHoldoffExpiry s
  | .noticeTimerExpiry => Sys2Proof.Machine.execNoticeTimerExpiry s
  | .levelSample record => Sys2Proof.Machine.execLevelSample record s
  | .sampleWatchExpiry => Sys2Proof.Machine.execSampleWatchExpiry s
  | .encoderStep opening => Sys2Proof.Machine.execEncoderStep opening s
  | .limitInputChange openLimit active => Sys2Proof.Machine.execLimitInputChange openLimit active s
  | .restExpiry => Sys2Proof.Machine.execRestExpiry s
  | .stallExpiry => Sys2Proof.Machine.execStallExpiry s
  | .supplyLowChange active => Sys2Proof.Machine.execSupplyLowChange active s
  | .tripInputChange active => Sys2Proof.Machine.execTripInputChange active s
  | .tripWaitExpiry => Sys2Proof.Machine.execTripWaitExpiry s
  | .meterPulse turnout => Sys2Proof.Machine.execMeterPulse turnout s
  | .noFlowExpiry turnout => Sys2Proof.Machine.execNoFlowExpiry turnout s
  | .linkFrameReceived frame framingError => Sys2Proof.Machine.execLinkFrameReceived frame framingError s
  | .linkFrameGap => Sys2Proof.Machine.execLinkFrameGap s
  | .replySent => Sys2Proof.Machine.execReplySent s
  | .check kind => Sys2Proof.Machine.execCheck kind s
  | .unknownCommand kind => Sys2Proof.Machine.execUnknownCommand kind s
  | .statusRead part => Sys2Proof.Machine.execStatusRead part s
  | .planRead part => Sys2Proof.Machine.execPlanRead part s
  | .orderQuery number => Sys2Proof.Machine.execOrderQuery number s
  | .bookList => Sys2Proof.Machine.execBookList s
  | .accountQuery index => Sys2Proof.Machine.execAccountQuery index s
  | .turnoutQuery turnout => Sys2Proof.Machine.execTurnoutQuery turnout s
  | .logRead count => Sys2Proof.Machine.execLogRead count s
  | .alertRead => Sys2Proof.Machine.execAlertRead s
  | .timeSet day minute second ms => Sys2Proof.Machine.execTimeSet day minute second ms s
  | .timeTrim seconds => Sys2Proof.Machine.execTimeTrim seconds s
  | .supplySet flow => Sys2Proof.Machine.execSupplySet flow s
  | .watchDeclare key => Sys2Proof.Machine.execWatchDeclare key s
  | .orderPlace request => Sys2Proof.Machine.execOrderPlace request s
  | .orderCancel number => Sys2Proof.Machine.execOrderCancel number s
  | .orderShutoff number => Sys2Proof.Machine.execOrderShutoff number s
  | .accountSet index allotment limit state => Sys2Proof.Machine.execAccountSet index allotment limit state s
  | .turnoutService turnout direction => Sys2Proof.Machine.execTurnoutService turnout direction s
  | .turnoutAck turnout marks => Sys2Proof.Machine.execTurnoutAck turnout marks s
  | .ratesStage table => Sys2Proof.Machine.execRatesStage table s
  | .targetStage level => Sys2Proof.Machine.execTargetStage level s
  | .gateMode mode opening => Sys2Proof.Machine.execGateMode mode opening s
  | .tripClear => Sys2Proof.Machine.execTripClear s
  | .logRelease count => Sys2Proof.Machine.execLogRelease count s
  | .alertAck marks => Sys2Proof.Machine.execAlertAck marks s
  | .alertMask marks => Sys2Proof.Machine.execAlertMask marks s
  | .moderationExpiry => Sys2Proof.Machine.execModerationExpiry s
  | .seasonClose => Sys2Proof.Machine.execSeasonClose s
  | .restart => Sys2Proof.Machine.execRestart s
  | .noticeNow => Sys2Proof.Machine.execNoticeNow s
  | .configData offset bytes => Sys2Proof.Machine.execConfigData offset bytes s
  | .configEnd => Sys2Proof.Machine.execConfigEnd s
  | .lineCharacterReceived char framingError => Sys2Proof.Machine.execLineCharacterReceived char framingError s
  | .linkCharacterReceived char framingError => Sys2Proof.Machine.execLinkCharacterReceived char framingError s

end Sys2Proof.Machine
end

