-- ==== Sys2Proof/Machine/Due.lean ====
section
/-! DEFINITION. Which internal command is due when no command waits in the queue: the step that the part takes of itself (log 2: DESIGN CHOICE, log 3: DESIGN CHOICE). -/

namespace Sys2Proof.Machine

/-- A command that is due when a condition holds. -/
def dueIf (b : Bool) (c : Instr) : Option Instr := if b then some c else none

/-- The complete frame that a receiver has handed on and no block has taken. -/
def State.dueFrame (s : State) : Option Instr :=
  match s.line.arrived, s.link.arrived with
  | f :: _, _ => some (.lineFrameReceived f)
  | [], f :: _ => some (.linkFrameReceived f.chars f.bad)
  | [], [] => none

/-- The head of a list of period events satisfies a test. -/
def headReady {α : Type} (xs : List α) (p : α → Bool) : Bool :=
  match xs with
  | x :: _ => p x
  | [] => false

/-- The period event that a block can take now (R68, R97, R123, R129, R164). -/
def State.dueEvent (s : State) : List (Option Instr) :=
  if s.running then
    [ dueIf (headReady s.inbox.meter fun e => s.closeReady e.oldKey) .meterPeriodClose
    , dueIf (headReady s.inbox.gate fun e => s.closeReady e.oldKey) .gatePeriodBoundary
    , dueIf (!s.inbox.close.isEmpty) .periodClose
    , dueIf (!s.inbox.planner.isEmpty) .planPeriodChange
    , dueIf (headReady s.inbox.billing fun e => s.closeReady e.newKey) .billingDayClose ]
  else []

/-- The read-back of the frame on the line has ended it (R42, R46). A character that never comes back ends nothing: the transmitter
stays in SENDING (log 9: DESIGN CHOICE). -/
def State.dueReadBack (s : State) : List (Option Instr) :=
  let sending := s.running && s.line.tx == .sending
  let all : Nat := (s.line.frame.map fun f => f.chars.length).getD 0
  [ dueIf (sending && s.line.readBad) .collision
  , dueIf (sending && decide (0 < all) && s.line.readCount == all) .noticeComplete ]

/-- An interval of elapsed time has passed. -/
def State.dueTimers (s : State) : List (Option Instr) :=
  let c := s.settings
  let g := s.gate
  [ dueIf (g.drive == .resting && s.expired g.restStart c.levels.restTime) .restExpiry
  , dueIf (g.drive == .tripped .waiting && s.expired g.restStart c.levels.restTime) .tripWaitExpiry
  , dueIf (g.drive.on && s.expired g.stallStart c.levels.stallTime) .stallExpiry
  , dueIf (s.expired g.sampleWatch c.levels.sampleInterval) .sampleWatchExpiry
  , dueIf (s.expired s.alerts.moderation c.alert.moderation) .moderationExpiry
  , dueIf (s.expired s.line.holdoff c.line.holdoff) .holdoffExpiry
  , dueIf (s.expired s.line.noticeTimer c.line.noticeInterval) .noticeTimerExpiry ] ++
  ((List.range 4).map fun i => dueIf (s.running && s.holdDue i) (.holdExpiry i)) ++
  (List.range 16).map fun i =>
    dueIf (present c i && s.expired (s.turnout i).lastPulse (configOf c i).noFlow) (.noFlowExpiry i)

/-- A gap on one of the two links has passed, or the line is idle for long enough to send (R39, R41, R43, R168). -/
def State.dueGaps (s : State) : List (Option Instr) :=
  let own := s.settings.station.number
  let ready := s.running && s.line.asked && s.planner.results.isSome
  [ dueIf (s.line.rx.inFrame && decide (3 < s.line.idle)) .lineFrameGap
  , dueIf (s.link.rx.inFrame && s.link.gapPassed s.time.elapsed) .linkFrameGap
  , dueIf (ready && s.line.tx == .gap && decide (accessGap own ≤ s.line.idle)) .accessGapReached
  , dueIf (ready && s.line.tx == .backoff && decide (backoffCount own s.line.attempt ≤ s.line.idle)) .backoffExpiry ]

/-- The oldest command of the input buffer, taken once the reply before it has been sent (R169). -/
def State.dueLink (s : State) : Option Instr :=
  match s.link.reply, s.link.buffer with
  | none, f :: _ => some (decodeLink f)
  | _, _ => none

/-- The internal command that is due, in the fixed order of log 3 (DESIGN CHOICE); none when only time can pass. -/
def State.due (s : State) : Option Instr :=
  if s.startup.powered then
    ([dueIf (s.running && s.startup.catchUpDue) .catchUp, s.dueFrame] ++ s.dueEvent ++ s.dueReadBack ++ s.dueTimers ++ s.dueGaps ++
      [dueIf s.boundaryDue .periodBoundary, s.dueLink]).findSome? id
  else none

end Sys2Proof.Machine
end

