-- ==== Sys2Proof/WellFormed.lean ====
section
/-! DEFINITION. Which commands are well formed: every operand fits the bytes that R187 and R192 give it, and an index names a place that exists. -/

namespace Sys2Proof

/-- The number fits n bytes. -/
def fitsBytes (n v : Nat) : Bool := decide (v < 256 ^ n)

/-- The four values of a class row fit 2 bytes each. -/
def ByClass.wellFormed (x : ByClass) : Bool := fitsBytes 2 x.c1 && fitsBytes 2 x.c2 && fitsBytes 2 x.c3 && fitsBytes 2 x.c4

/-- The values of a rate table fit the 34 bytes of RATES_STAGE. -/
def RateTable.wellFormed (t : RateTable) : Bool :=
  t.tier1.wellFormed && t.tier2.wellFormed && t.unused.wellFormed && fitsBytes 2 t.unordered && fitsBytes 4 t.callOut &&
    fitsBytes 4 t.lateCancel

/-- The fields of an ORDER_PLACE fit their bytes. -/
def OrderRequest.wellFormed (r : OrderRequest) : Bool :=
  fitsBytes 2 r.number && fitsBytes 1 r.turnout && fitsBytes 1 r.account && fitsBytes 1 r.cls && fitsBytes 4 r.startKey &&
    fitsBytes 2 r.duration && fitsBytes 2 r.rate

/-- The operands of a command fit what carries them. Pins, characters and frames carry any value. -/
def Instr.wellFormed : Instr → Bool
  | .statusRead part => fitsBytes 1 part
  | .planRead part => fitsBytes 1 part
  | .orderQuery number => fitsBytes 2 number
  | .accountQuery index => fitsBytes 1 index
  | .turnoutQuery turnout => fitsBytes 1 turnout
  | .logRead count => fitsBytes 1 count
  | .timeSet day minute second ms => fitsBytes 2 day && fitsBytes 2 minute && fitsBytes 1 second && fitsBytes 2 ms
  | .timeTrim seconds => decide (-128 ≤ seconds) && decide (seconds ≤ 127)
  | .supplySet flow => fitsBytes 2 flow
  | .watchDeclare key => fitsBytes 4 key
  | .orderPlace request => request.wellFormed
  | .orderCancel number => fitsBytes 2 number
  | .orderShutoff number => fitsBytes 2 number
  | .accountSet index allotment limit state =>
    fitsBytes 1 index && fitsBytes 4 allotment && fitsBytes 4 limit && fitsBytes 1 state
  | .turnoutService turnout direction => fitsBytes 1 turnout && fitsBytes 1 direction
  | .turnoutAck turnout _ => fitsBytes 1 turnout
  | .ratesStage table => table.wellFormed
  | .targetStage level => fitsBytes 2 level
  | .gateMode mode opening => fitsBytes 1 mode && fitsBytes 2 opening
  | .logRelease count => fitsBytes 2 count
  | .configData offset bytes => fitsBytes 2 offset && decide (1 ≤ bytes.length) && decide (bytes.length ≤ 512)
  | .holdExpiry entry => decide (entry < 4)
  | .meterPulse turnout => decide (turnout < 16)
  | .noFlowExpiry turnout => decide (turnout < 16)
  | .resetRelease _ _ _ | .supplyLoss | .imageReadComplete _ | .catchUp | .periodBoundary | .crystalStop | .crystalRunning
  | .planPeriodChange | .gatePeriodBoundary | .meterPeriodClose | .periodClose | .billingDayClose | .lineFrameReceived _
  | .lineFrameGap | .accessGapReached | .collision | .backoffExpiry | .noticeComplete | .holdoffExpiry
  | .noticeTimerExpiry | .levelSample _ | .sampleWatchExpiry | .encoderStep _ | .limitInputChange _ _ | .restExpiry
  | .stallExpiry | .supplyLowChange _ | .tripInputChange _ | .tripWaitExpiry | .linkFrameReceived _ _ | .linkFrameGap
  | .replySent | .check _ | .unknownCommand _ | .bookList | .alertRead | .tripClear | .alertAck _ | .alertMask _
  | .moderationExpiry | .seasonClose | .restart | .noticeNow | .configEnd | .lineCharacterReceived _ _
  | .linkCharacterReceived _ _ => true

end Sys2Proof
end

