-- ==== Sys2Proof/Safety.lean ====
section
/-! DEFINITION. The terms of the statements: what every reachable state keeps, and when a notice or an instant is well formed. -/

namespace Sys2Proof.Machine

/-! ## Invariants of the whole part -/

/-- The billing log holds at most 256 records, and its sequence numbers run without a gap from the read position to the next
sequence number, rolling at 2 to the 32 (R156). -/
def Billing.LogGood (b : Billing) : Prop :=
  b.log.length ≤ logCapacity ∧ b.readPos < 4294967296 ∧ b.nextSeq = (b.readPos + b.log.length) % 4294967296 ∧
    ∀ i r, b.log[i]? = some r → r.seq = (b.readPos + i) % 4294967296

/-- While the wait list holds any item, the log holds 256 records (section 9.6). -/
def Billing.WaitGood (b : Billing) : Prop := b.waitList ≠ [] → b.log.length = logCapacity

/-- The mask marks of GATE_TRIP and GATE_FAULT are clear (R109, R110, R178). -/
def Alerts.MasksGood (a : Alerts) : Prop := hasCause a.masks .gateTrip = false ∧ hasCause a.masks .gateFault = false

/-- The balance queue holds at most 3 entries, and its oldest entry is incomplete (R136, R138). -/
def CloseUnit.QueueGood (u : CloseUnit) : Prop := u.queue.length ≤ 3 ∧ ∀ e, u.queue.head? = some e → e.complete = false

/-- The collections of bounded size hold no more than their rules allow: the input buffer 2 (R170), the closing-volume history 2
(R132), the level window 8 (R92); the attempt count stays below 6 between steps (R42, R44); the balance queue is good. -/
def State.Bounded (s : State) : Prop :=
  s.link.buffer.length ≤ 2 ∧ s.close.history.length ≤ 2 ∧ s.gate.window.length ≤ 8 ∧ s.line.attempt < 6 ∧ s.close.QueueGood

/-- The drive keeps its rests at an instant (R104), with `rest` the rest time in ms: no output went off later than now; in STOPPED a
full rest time has passed since one did; in RESTING and WAITING the rest timer runs and started no earlier than that. -/
def Gate.RestKept (rest now : Nat) (g : Gate) : Prop :=
  (∀ x, g.lastOff = some x → x ≤ now) ∧
  (g.drive = .stopped → ∀ x, g.lastOff = some x → x + rest ≤ now) ∧
  (g.drive.rests = true → ∃ r, g.restStart = some r ∧ r ≤ now ∧ ∀ x, g.lastOff = some x → x ≤ r)

/-- The drive of the part keeps its rests. -/
def State.RestKept (s : State) : Prop := s.gate.RestKept (s.settings.levels.restTime * 1000) s.time.elapsed

/-- No two live slots hold the same order number (R16). -/
def OrderBook.NumbersDistinct (b : OrderBook) : Prop :=
  ∀ i j o p, b.at? i = some o → b.at? j = some p → o.number = p.number → i = j

/-- The wait list is sound (section 9.6): it names no item twice; an order item names the slot of a CLOSED_UNBILLED order that holds its
record; a tally item names a present turnout whose due mark is set. -/
def State.WaitKept (s : State) : Prop :=
  s.billing.waitList.Nodup ∧
  (∀ slot, WaitItem.order slot ∈ s.billing.waitList →
    ∃ o r, s.book.at? slot = some o ∧ o.state = .closedUnbilled ∧ o.record = some r) ∧
  ∀ i, WaitItem.tally i ∈ s.billing.waitList → i < 16 ∧ present s.settings i = true ∧ (s.turnout i).due = true

/-! ## Ranges -/

/-- A district time inside its ranges (section 1.1). -/
def DistrictTime.Valid (t : DistrictTime) : Prop := t.day ≤ 65535 ∧ t.minute ≤ 1439 ∧ t.second ≤ 59 ∧ t.ms ≤ 999

/-- A permitted period length (chapter 0, "Units and ranges"). -/
def permittedLength (plen : Nat) : Prop := plen = 5 ∨ plen = 10 ∨ plen = 15 ∨ plen = 20 ∨ plen = 30

/-- Every class of the value fits 2 bytes. -/
def smallClasses (x : ByClass) : Prop := x.c1 < 65536 ∧ x.c2 < 65536 ∧ x.c3 < 65536 ∧ x.c4 < 65536

/-- Twelve offsets whose values fit 2 bytes. -/
def TwelveSmall (xs : List ByClass) : Prop := xs.length = 12 ∧ ∀ x ∈ xs, smallClasses x

/-- The fields of a REACH notice fit the layout of R189: keys and litres 4 bytes, level 2, the plan and at most three grant blocks of
twelve offsets, at most two pairs. -/
def ReachFields.WellFormed (f : ReachFields) : Prop :=
  f.key < 2 ^ 32 ∧ f.level < 2 ^ 16 ∧ f.watchEnd < 2 ^ 32 ∧ TwelveSmall f.plan ∧ f.blocks.length ≤ 3 ∧ f.pairs.length ≤ 2 ∧
    (∀ b ∈ f.blocks, b.station < 256 ∧ TwelveSmall b.grants) ∧ ∀ p ∈ f.pairs, p.key < 2 ^ 32 ∧ p.litres < 2 ^ 32

/-! ## The start states that serve a command (R171) -/

/-- The refusal that the table of R171 gives a command in a start state: none where it is served. A row of the table that is no
command of the station link is no concern of it. -/
def tableRefusal (c : Instr) (st : StartState) : Option ResultCode :=
  match linkPayload c, st with
  | none, _ => none
  | some (kind, _), .run => if kind = 0x30 ∨ kind = 0x31 then some .state else none
  | some (kind, _), .waitTime =>
    if kind = 0x30 ∨ kind = 0x31 then some .state else if kind.toNat ≤ 0x10 then none else some .notReady
  | some (kind, _), .loading | some (kind, _), .configFault =>
    if kind = 0x01 ∨ kind = 0x30 ∨ kind = 0x31 then none else some .notReady

/-! ## Answers on the station link (R169) -/

/-- The command is answered OK with these data, and the part is left as u with its reply. -/
def State.replies (u : State) (c : Instr) (kind : Byte) (data : List Byte) : Out := .next (u.answer kind .ok data (u.atHead c))

/-- The command is refused: the reply alone is new. -/
def State.refuses (s : State) (c : Instr) (kind : Byte) (r : ResultCode) : Out := .next (s.answer kind r [] (s.atHead c))

end Sys2Proof.Machine
end

