-- ==== Sys2Proof/Certificates/Slice0/Obligations.lean ====
section
/-! DEFINITION. The statements for the provers. Each docstring names the rules of spec/ that it rests on; where a clause is the model's own choice it
names the log entry. -/

section

open Sys2Proof Sys2Proof.Machine

/-! ## The step -/

/-- The command at the front of the queue runs, and the queue keeps its rest (the task's interface). -/
def Obligations.StepRunsFrontCommand : Prop :=
  ∀ (c : Instr) (rest : List Instr) (s : State), s.pending = c :: rest → step s = exec c (s.withPending rest)

/-- No command touches the queue: the state that exec answers has the queue it was given. -/
def Obligations.ExecKeepsQueue : Prop :=
  ∀ (c : Instr) (s t : State), exec c s = .next t → t.pending = s.pending

/-- With nothing waiting, a step takes the internal command that is due (log 2, log 3: DESIGN CHOICE); with nothing due either, a powered part lets one millisecond pass: elapsed time rises by 1 (R5), district time
advances by one millisecond exactly while counting is RUNNING (R1), and no event is issued. That the block does this on an empty
queue is the model's choice (log 2: DESIGN CHOICE). Without supply only the backup clock runs (section 1.5). -/
def Obligations.IdleStepPassesOneMillisecond : Prop :=
  (∀ (s : State) (c : Instr), s.pending = [] → s.due = some c → step s = exec c s) ∧
  ∀ s : State, s.pending = [] → s.due = none →
    ∃ t, step s = .next t ∧
      (s.startup.powered = true →
        t.time.elapsed = s.time.elapsed + 1 ∧
        t.time.time = (if s.time.counting then s.time.time.tick else s.time.time)) ∧
      (s.startup.powered = false → t.time.elapsed = s.time.elapsed ∧ t.time.time = s.time.time ∧ t.line = s.line) ∧
      t.time.backup = s.time.backup.tick ∧ t.time.retainedKey = s.time.retainedKey ∧ t.time.quality = s.time.quality ∧
      t.inbox = s.inbox ∧ t.book = s.book ∧ t.gate = s.gate ∧ t.meters = s.meters ∧ t.billing = s.billing ∧ t.alerts = s.alerts

/-- The machine right after reset (R179, R170, R174, R51): LOADING with source MEMORY, no reply, no alert, the canal line silent, drive
outputs off; and the invariants of the other statements hold. That START is 00 at reset is the model's choice (log 4: DESIGN CHOICE). -/
def Obligations.ResetIsLoading : Prop :=
  State.reset.startup.state = .loading ∧ State.reset.startup.source = .memory ∧ State.reset.pending = [] ∧
    State.reset.link.buffer = [] ∧ State.reset.link.reply = none ∧ State.reset.alerts.pending = 0 ∧
    State.reset.alertLine = false ∧ State.reset.line.tx = .quiet ∧ State.reset.line.rx = .off ∧
    State.reset.gate.drive.openOn = false ∧ State.reset.gate.drive.closeOn = false ∧ State.reset.time.counting = false ∧
    State.reset.planner.results = none ∧
    State.reset.billing.LogGood ∧ State.reset.billing.WaitGood ∧ State.reset.alerts.MasksGood ∧ State.reset.Bounded ∧
    State.reset.RestKept ∧ State.reset.book.NumbersDistinct ∧ State.reset.WaitKept

/-! ## Invariants that every step keeps -/

/-- Every step keeps the billing log within 256 records and without a gap in its sequence numbers, and keeps it full while the wait
list holds any item (R156, section 9.6). -/
def Obligations.StepKeepsBillingLog : Prop :=
  ∀ s t : State, s.billing.LogGood → s.billing.WaitGood → step s = .next t → t.billing.LogGood ∧ t.billing.WaitGood

/-- Every step keeps the mask marks of GATE_TRIP and GATE_FAULT clear (R109, R110, R178); so a pending one asserts the line in
WAIT_TIME and RUN whatever the threshold and the moderation timer (R176). That an image's marks for them are read as clear is the
model's choice (log 17: PRESUMED). -/
def Obligations.StepKeepsLevel3Unmasked : Prop :=
  (∀ s t : State, s.alerts.MasksGood → step s = .next t → t.alerts.MasksGood) ∧
    ∀ s : State, s.startup.state = .waitTime ∨ s.startup.state = .run →
      hasCause s.alerts.pending .gateTrip = true ∨ hasCause s.alerts.pending .gateFault = true → s.alertLine = true

/-- Every step keeps the bounded collections within their sizes (R170, R132, R92, R42, R44, R136, R138). -/
def Obligations.StepKeepsBounds : Prop :=
  ∀ s t : State, s.Bounded → step s = .next t → t.Bounded

/-- In every way a move can begin, the drive keeps its rest (R104): the open and close outputs are never both on, every step keeps the rests, a
step that turns an output on comes no sooner than one full rest time after the last output went off, and no step turns on the output of one
sense that finds the other on. A step of the working part that turns an output off records its instant as the last one at which an output went
off, and none forgets it, but for the entry to LOADING (log 21: DESIGN CHOICE). -/
def Obligations.StepKeepsDriveRest : Prop :=
  (∀ d : Drive, ¬(d.openOn = true ∧ d.closeOn = true)) ∧
    ∀ s t : State, s.RestKept → step s = .next t → t.RestKept ∧
      (s.gate.drive.on = false → t.gate.drive.on = true →
        ∀ x, s.gate.lastOff = some x → x + s.settings.levels.restTime * 1000 ≤ s.time.elapsed) ∧
      (s.gate.drive.openOn = true → t.gate.drive.closeOn = false) ∧
      (s.gate.drive.closeOn = true → t.gate.drive.openOn = false) ∧
      (s.working = true → t.startup.state ≠ .loading →
        (s.gate.drive.on = true → t.gate.drive.on = false → t.gate.lastOff = some s.time.elapsed) ∧
        ∀ x, s.gate.lastOff = some x → ∃ y, t.gate.lastOff = some y ∧ x ≤ y)

/-- Every step keeps the numbers of the live orders distinct (R16), and every step keeps the wait list sound (section 9.6): no item twice, each
order item the slot of a CLOSED_UNBILLED order with its record, each tally item a present turnout with its due mark set. -/
def Obligations.StepKeepsOrderNumbersDistinct : Prop :=
  (∀ s t : State, s.book.NumbersDistinct → step s = .next t → t.book.NumbersDistinct) ∧
    ∀ s t : State, s.WaitKept → step s = .next t → t.WaitKept

/-- The watch end key never decreases, except to 0 at a cold start (R62): only the step that takes the start, out of LOADING or CONFIG_FAULT,
lowers it. -/
def Obligations.WatchEndNeverFalls : Prop :=
  ∀ s t : State, step s = .next t →
    s.neigh.watchEnd ≤ t.neigh.watchEnd ∨
      (t.neigh.watchEnd = 0 ∧ t.startup.state = .waitTime ∧ t.startup.lastStart = some .cold ∧ s.startup.powered = true ∧
        (s.startup.state = .loading ∨ s.startup.state = .configFault))

/-! ## Encodings -/

/-- Decode and encode agree on the station link: every well-formed command of the link (R192) is what its own frame decodes to, with
every operand at every value its bytes allow (R187, R188); and its kind and payload are those of R192, field by field. That the millisecond of TIME_SET has 2 bytes, and that the four classes of a rate stand together, is the model's (log 11: DESIGN CHOICE). -/
def Obligations.LinkCommandRoundTrip : Prop :=
  (∀ (a b d e : Nat) (x : Int) (m : Byte) (q : BitVec 24) (r : OrderRequest) (t : RateTable) (bytes : List Byte),
    let four := fun y : ByClass => toBytes 2 y.c1 ++ toBytes 2 y.c2 ++ toBytes 2 y.c3 ++ toBytes 2 y.c4
    let sent := fun (c : Instr) (kind : Byte) (payload : List Byte) => linkPayload c = some (kind, payload)
    sent (.statusRead a) 0x01 (byte a) ∧ sent (.planRead a) 0x02 (byte a) ∧ sent (.orderQuery a) 0x03 (toBytes 2 a) ∧
    sent .bookList 0x04 [] ∧ sent (.accountQuery a) 0x05 (byte a) ∧ sent (.turnoutQuery a) 0x06 (byte a) ∧
    sent (.logRead a) 0x07 (byte a) ∧ sent .alertRead 0x08 [] ∧
    sent (.timeSet a b d e) 0x10 (toBytes 2 a ++ toBytes 2 b ++ byte d ++ toBytes 2 e) ∧
    sent (.timeTrim x) 0x11 (toBytesSigned 1 x) ∧ sent (.supplySet a) 0x12 (toBytes 2 a) ∧ sent (.watchDeclare a) 0x13 (toBytes 4 a) ∧
    sent (.orderPlace r) 0x14 (toBytes 2 r.number ++ byte r.turnout ++ byte r.account ++ byte r.cls ++ toBytes 4 r.startKey ++
      toBytes 2 r.duration ++ toBytes 2 r.rate) ∧
    sent (.orderCancel a) 0x15 (toBytes 2 a) ∧ sent (.orderShutoff a) 0x16 (toBytes 2 a) ∧
    sent (.accountSet a b d e) 0x17 (byte a ++ toBytes 4 b ++ toBytes 4 d ++ byte e) ∧
    sent (.turnoutService a b) 0x18 (byte a ++ byte b) ∧ sent (.turnoutAck a m) 0x19 (byte a ++ [m]) ∧
    sent (.ratesStage t) 0x1A (four t.tier1 ++ four t.tier2 ++ four t.unused ++ toBytes 2 t.unordered ++ toBytes 4 t.callOut ++
      toBytes 4 t.lateCancel) ∧
    sent (.targetStage a) 0x1B (toBytes 2 a) ∧ sent (.gateMode a b) 0x1C (byte a ++ toBytes 2 b) ∧ sent .tripClear 0x1D [] ∧
    sent (.logRelease a) 0x1E (toBytes 2 a) ∧ sent (.alertAck q) 0x1F (toBytes 3 q.toNat) ∧
    sent (.alertMask q) 0x20 (toBytes 3 q.toNat) ∧ sent .seasonClose 0x21 [] ∧ sent .restart 0x22 [] ∧ sent .noticeNow 0x23 [] ∧
    sent (.configData a bytes) 0x30 (toBytes 2 a ++ bytes) ∧ sent .configEnd 0x31 []) ∧
  ∀ (c : Instr) (kind : Byte) (payload : List Byte), c.wellFormed = true → linkPayload c = some (kind, payload) →
    decodeLink { chars := linkChars kind payload, bad := false } = c

/-- Decode and encode agree on the canal line: the frame that one station builds around the fields of a REACH notice, or around a
WATCH notice, passes the checks of R40 at every other station and gives it those fields (R189, R190). That levels and grants outside the ranges of R45 are taken
as they stand is the model's (log 13: PRESUMED). A frame is refused exactly when it fails a check of R40: its bytes are no frame of at most 480 payload bytes, its
check differs, its sender is 0, above 250 or the own number, its kind is neither, or its length is not the one called for: 8 for a WATCH; for a
REACH 110, the grant blocks as their masks give and 9 for each pair, with at most 3 blocks, at most 2 pairs and no mask bit above bit 3 (R190). The
frame, and the payload of a REACH notice with a block's class sent exactly when some grant of it is not 0, are those of R189 and R190 byte by byte. -/
def Obligations.CanalNoticeRoundTrip : Prop :=
  (∀ (kind : Byte) (sender : Nat) (payload : List Byte),
    let body := kind :: (byte sender ++ toBytes 2 payload.length ++ payload)
    lineFrame kind sender payload = 0xA7 :: (body ++ crcBytes body)) ∧
  (∀ f : ReachFields,
    let each : List WaterClass := [.senior, .frost, .standard, .surplus]
    let array := fun (xs : List ByClass) (k : WaterClass) => xs.flatMap fun x => toBytes 2 (x.get k)
    let block := fun b : GrantBlock =>
      let sent := fun k : WaterClass => b.grants.any fun x => decide (x.get k ≠ 0)
      byte b.station ++ byte (bitsOf (each.map sent)) ++ (each.filter sent).flatMap (array b.grants)
    f.bytes = toBytes 4 f.key ++ byte (qualityCode f.quality) ++ byte (bitsOf [f.flags.tripped, f.flags.gateFault, f.flags.levelFault,
        f.flags.guarding, f.flags.upstreamLost, f.flags.manual]) ++ toBytes 2 f.level ++ toBytes 4 f.watchEnd ++ byte f.blocks.length ++
      byte f.pairs.length ++ each.flatMap (array f.plan) ++ f.blocks.flatMap block ++
      f.pairs.flatMap fun p => toBytes 4 p.key ++ toBytes 4 p.litres ++ byte (if p.estimated then 1 else 0)) ∧
  (∀ (own sender : Nat) (f : ReachFields), 1 ≤ sender → sender ≤ 250 → sender ≠ own → f.WellFormed →
    decodeFrame own (lineFrame reachKind sender f.bytes) = some (.reach sender f)) ∧
  (∀ own sender key watchEnd : Nat, 1 ≤ sender → sender ≤ 250 → sender ≠ own → key < 2 ^ 32 → watchEnd < 2 ^ 32 →
    decodeFrame own (lineFrame watchKind sender (watchBytes key watchEnd)) = some (.watch sender key watchEnd)) ∧
  ∀ (own : Nat) (frame : List Byte) (start : Nat → Nat),
    let n := fieldAt frame 3 2
    let sender := fieldAt frame 2 1
    let payload := (frame.drop 5).take n
    let blocks := fieldAt payload 12 1
    let pairs := fieldAt payload 13 1
    let mask := fun j : Nat => byteAt payload (start j + 1)
    let present := fun j : Nat => ((List.range 4).filter fun bit => (mask j).getLsbD bit).length
    start 0 = 110 → (∀ j, j < blocks → start (j + 1) = start j + 2 + 24 * present j) →
    (decodeFrame own frame = none ↔
      byteAt frame 0 ≠ 0xA7 ∨ frame.length ≠ 7 + n ∨ 480 < n ∨
      crcBytes ((frame.drop 1).take (n + 4)) ≠ frame.drop (n + 5) ∨ sender = 0 ∨ 250 < sender ∨ sender = own ∨
      (byteAt frame 1 ≠ 0x11 ∧ byteAt frame 1 ≠ 0x12) ∨ (byteAt frame 1 = 0x12 ∧ n ≠ 8) ∨
      (byteAt frame 1 = 0x11 ∧ (n < 110 ∨ 3 < blocks ∨ 2 < pairs ∨ (∃ j, j < blocks ∧ 16 ≤ (mask j).toNat) ∨
        n ≠ start blocks + 9 * pairs)))

/-! ## Arithmetic of the rules -/

/-- District time advances by exactly one millisecond inside its ranges, and stays at its last value (R1); and counting reaches the
next period only at its start, one period at a time (R2). -/
def Obligations.MillisecondAdvance : Prop :=
  (∀ t : DistrictTime, t.Valid → t ≠ lastTime → t.tick.Valid ∧ t.tick.toMs = t.toMs + 1) ∧ lastTime.tick = lastTime ∧
    ∀ (plen : Nat) (t : DistrictTime), permittedLength plen → t.Valid → t.key plen < t.tick.key plen →
      t.tick.key plen = t.key plen + 1 ∧ t.tick = periodStart plen (t.key plen + 1)

/-- Remaining allotment and price (R149): litres left of the allotment, 0 when the season used is larger; the price is the
round-half-up of volume times rate over 100 000, and a rate of 0 prices any volume at 0. -/
def Obligations.AllotmentAndPrice : Prop :=
  (∀ a : Account, (a.used ≤ a.allotment * 1000 → a.remaining + a.used = a.allotment * 1000) ∧
    (a.allotment * 1000 < a.used → a.remaining = 0)) ∧
  (∀ v r : Nat, 100000 * price v r ≤ v * r + 50000 ∧ v * r + 50000 < 100000 * (price v r + 1)) ∧ ∀ v : Nat, price v 0 = 0

/-- Class allocation (R73): each class in its order gets the lesser of its demand and what the classes before it left; the four
allocations sum to the lesser of the limit and the four demands, and a class gets water only when those before it are whole. It is
applied at each offset with three limits: Cap over the raw demands, S at a head station and F in fallback over the announced demands. -/
def Obligations.ClassAllocationInOrder : Prop :=
  (∀ (x : Nat) (d : ByClass), let a := classAllocation x d
    a.c1 = min d.c1 x ∧ a.c2 = min d.c2 (x - a.c1) ∧ a.c3 = min d.c3 (x - a.c1 - a.c2) ∧
      a.c4 = min d.c4 (x - a.c1 - a.c2 - a.c3) ∧ a.total = min x d.total ∧
      (0 < a.c2 → a.c1 = d.c1) ∧ (0 < a.c3 → a.c1 = d.c1 ∧ a.c2 = d.c2) ∧
      (0 < a.c4 → a.c1 = d.c1 ∧ a.c2 = d.c2 ∧ a.c3 = d.c3)) ∧
  ∀ (s : State) (i : Nat), let p := s.planOffset i
    (s.settings.reach.cap < p.raw.total → p.announced = classAllocation s.settings.reach.cap p.raw) ∧
      (p.raw.total ≤ s.settings.reach.cap → p.announced = p.raw) ∧
      (s.settings.neighbours.upstream = 0 → p.supply = classAllocation s.planner.headSupply p.announced) ∧
      (s.settings.neighbours.upstream ≠ 0 → s.neigh.upstreamGrant = none →
        p.supply = classAllocation s.settings.reach.fallback p.announced)

/-- The pro-rata share (R78), in its three cases, and that the shares of a list of consumers never exceed the pool when it is short,
nor any share its demand. -/
def Obligations.ProRataShares : Prop :=
  (∀ g d : Nat, proRata g 0 d = 0) ∧
  (∀ g dsum d : Nat, 0 < dsum → dsum ≤ g → proRata g dsum d = d) ∧
  (∀ g dsum d : Nat, g < dsum → proRata g dsum d = d * (g * 1024 / dsum) / 1024 ∧ proRata g dsum d ≤ d ∧
    g * 1024 / dsum ≤ 1023) ∧
  ∀ (g : Nat) (ds : List Nat), sumList (ds.map (proRata g (sumList ds))) ≤ min g (sumList ds)

/-- What the Planner computes for an offset i, and the release target. Own demand is the requested rate of a PENDING or ACTIVE order whose window holds
plan key + i + travel time (R70); downstream demand is a FRESH neighbour's plan, read at plan key + i + its travel time less its sender key, clamped
to 0 to 11, and of an entry that is not FRESH its lost-neighbour flow in class 3 (R60, R61, R71); the raw demand is their sum by class, with
the loss allowance in class 1 (R72). The supply follows the source (R74, R76): from UPSTREAM the grant to this station read with shift 0 and
clamped to the announced demand. The loss served leaves the class-1 pool (R77), and each order and neighbour has its pro-rata share of its class's pool
(R78, R79). So the shares and the loss served never exceed the supply, nor the supply the announced demand, nor that the raw demand. The results are
these at twelve offsets (R67); the release target (R84) is the sum of its parts clamped to 0 and to the lesser of Cap and the supply at offset 0. -/
def Obligations.SharesAndReleaseTarget : Prop :=
  (∀ (s : State) (i : Nat), let p := s.planOffset i
    let c := s.settings
    let key := s.planner.planKey
    let n := s.book.slots.length
    let index := fun shift sender : Nat => min 11 (key + i + shift - sender)
    let own := fun k : WaterClass => sumList ((List.range n).map fun slot =>
      match s.book.at? slot with
      | some o => if o.cls = k then p.ownDemand.getD slot 0 else 0
      | none => 0)
    let demand := fun k : WaterClass => own k + sumList (p.downDemand.map fun d => d.get k)
    let upstream := s.neigh.entries.find? fun e => decide (e.role = .upstream)
    let neighbours := s.neigh.entries.filter fun e => decide (e.role ≠ .upstream)
    let granted := fun (x : Content) (g : List ByClass) => ∃ e, upstream = some e ∧ e.state = .fresh ∧ e.content = some x ∧
      e.mismatch = false ∧ x.grant = some g
    p.ownDemand.length = n ∧ p.ownShare.length = n ∧
    (∀ slot o, s.book.at? slot = some o →
      let period := key + i + tauOf c o.turnout
      p.ownDemand[slot]? = some
        (if (o.state = .pending ∨ o.state = .active) ∧ o.startKey ≤ period ∧ period ≤ o.endKey then o.rate else 0) ∧
      p.ownShare[slot]? = some (proRata (p.pool.get o.cls) (demand o.cls) (p.ownDemand.getD slot 0))) ∧
    (∀ slot, slot < n → s.book.at? slot = none → p.ownDemand[slot]? = some 0 ∧ p.ownShare[slot]? = some 0) ∧
    p.downDemand.length = neighbours.length ∧ p.downShare.length = neighbours.length ∧
    (∀ (j : Nat) (e : Entry), neighbours[j]? = some e → ∃ d share : ByClass, p.downDemand[j]? = some d ∧ p.downShare[j]? = some share ∧
      (∀ x, e.state = .fresh → e.content = some x → d = x.plan.getD (index e.tau x.senderKey) ByClass.zero) ∧
      (e.state ≠ .fresh ∨ e.content = none → d = { c1 := 0, c2 := 0, c3 := e.lostFlow, c4 := 0 }) ∧
      ∀ k : WaterClass, share.get k = proRata (p.pool.get k) (demand k) (d.get k)) ∧
    (∀ k : WaterClass, p.raw.get k = demand k + if k = .senior then c.reach.loss else 0) ∧
    (c.neighbours.upstream = 0 → s.supplySource = .head ∧ p.supply = classAllocation s.planner.headSupply p.announced) ∧
    (c.neighbours.upstream ≠ 0 →
      (∀ x g, granted x g → s.supplySource = .upstream ∧ ∀ k : WaterClass,
        p.supply.get k = min ((g.getD (index 0 x.senderKey) ByClass.zero).get k) (p.announced.get k)) ∧
      ((∀ x g, ¬granted x g) → s.supplySource = .fallback ∧ p.supply = classAllocation c.reach.fallback p.announced)) ∧
    p.lossServed = min c.reach.loss p.supply.c1 ∧ p.pool = { p.supply with c1 := p.supply.c1 - p.lossServed } ∧
    sumList p.ownShare + (sumClasses p.downShare).total + p.lossServed ≤ p.supply.total ∧
    (∀ k : WaterClass, p.supply.get k ≤ p.announced.get k ∧ p.announced.get k ≤ p.raw.get k) ∧
    p.margin + (sumList p.ownShare + (sumClasses p.downShare).total) + p.lossServed = p.supply.total) ∧
  ∀ s : State, let r := s.computePlan.release
    let p := s.planOffset 0
    let shares := sumList p.ownShare + (sumClasses p.downShare).total
    let sum : Int := (shares : Int) + p.lossServed + s.planner.correction - s.planner.guardCut
    s.computePlan = { key := s.planner.planKey, offsets := (List.range 12).map s.planOffset, release := r } ∧
    r = { target := r.target, shares := shares, loss := p.lossServed, correction := s.planner.correction
          guardCut := s.planner.guardCut, limit := min s.settings.reach.cap p.supply.total } ∧
    r.target ≤ s.settings.reach.cap ∧ r.target ≤ p.supply.total ∧ (sum ≤ 0 → r.target = 0) ∧
      (0 ≤ sum → sum ≤ s.settings.reach.cap → sum ≤ p.supply.total → (r.target : Int) = sum) ∧
      ((min s.settings.reach.cap p.supply.total : Nat) < sum → r.target = min s.settings.reach.cap p.supply.total)

/-- Released water stays where it went: no recompute changes a frozen entry of an order's schedule, a CLOSED_UNBILLED order, or any
field of an order but its schedule and its period floor grant; nor a frozen entry of a downstream schedule (R31, R32, R80, R81). What a recompute
writes: the open entry for plan key + offset + travel time takes the share of that offset, and an open downstream entry takes the class shares and
holds a value from then on; every other entry stays, and a FREE slot stays FREE. GRANT_CHANGED is raised by another entry 0 of an ACTIVE order
(R33). The release target is handed to the gate (R84, R101): it is in hand, and in AUTO a new opening target is computed, and the drive acts on
it, exactly when it differs from the one last used by the change threshold or none has been used, whatever a computation before it held (log 32:
DESIGN CHOICE); nothing else of the gate changes. Nor does
anything else of the part but the Planner's results and source, and a REACH request (R67, R49); and outside RUN it does nothing. -/
def Obligations.Recompute : Prop :=
  (∀ (s : State) (slot : Nat) (o : Order), s.book.at? slot = some o →
    ∃ o', s.recompute.book.at? slot = some o' ∧
      o' = { o with grants := o'.grants, floor := o'.floor } ∧ o'.grants.length = o.grants.length ∧ o'.floor ≤ o.floor ∧
      o'.floor = (if o'.entry0 = o.entry0 then o.floor else min o.floor o'.entry0) ∧
      (o.state = .closedUnbilled → o' = o) ∧
      ∀ (i : Nat) (e : GrantEntry), o.grants[i]? = some e →
        (e.frozen = true → o'.grants[i]? = some e) ∧
        (∀ k, s.running = true → o.state ≠ .closedUnbilled → e.frozen = false → k < 12 →
          s.planner.planKey + k + tauOf s.settings o.turnout = s.book.bookKey + i →
          o'.grants[i]? = some { e with rate := (s.planOffset k).ownShare.getD slot 0 }) ∧
        ((∀ k, k < 12 → s.planner.planKey + k + tauOf s.settings o.turnout ≠ s.book.bookKey + i) → o'.grants[i]? = some e)) ∧
  (∀ (s : State) (j i : Nat) (es : List DownEntry) (e : DownEntry),
    s.planner.schedules[j]? = some es → es[i]? = some e →
    let tau := (s.settings.neighbours.downstream.getD j default).tau
    ∃ es' e', s.recompute.planner.schedules[j]? = some es' ∧ es'.length = es.length ∧ es'[i]? = some e' ∧
      (e.frozen = true → e' = e) ∧
      (s.running = true → e.frozen = false → tau ≤ i → i < tau + 12 →
        e' = { e with value := some ((s.planOffset (i - tau)).downShare.getD j ByClass.zero) }) ∧
      (i < tau ∨ tau + 12 ≤ i → e' = e)) ∧
  (∀ s : State, s.running = false → s.recompute = s) ∧
  ∀ s : State, s.running = true → let t := s.recompute
    t.startup = s.startup ∧ t.settings = s.settings ∧ t.time = s.time ∧ t.inbox = s.inbox ∧ t.neigh = s.neigh ∧
      t.meters = s.meters ∧ t.close = s.close ∧ t.billing = s.billing ∧ t.link = s.link ∧ t.pending = s.pending ∧
      t.book.bookKey = s.book.bookKey ∧ t.book.slots.length = s.book.slots.length ∧
      (∀ slot, s.book.at? slot = none → t.book.at? slot = none) ∧
      t.planner = { s.planner with results := some s.computePlan, source := s.supplySource, schedules := t.planner.schedules } ∧
      (∀ c : Cause, c ≠ .grantChanged → hasCause t.alerts.pending c = hasCause s.alerts.pending c) ∧
      (hasCause t.alerts.pending .grantChanged = true ↔ hasCause s.alerts.pending .grantChanged = true ∨
        ∃ slot o o', s.book.at? slot = some o ∧ t.book.at? slot = some o' ∧ o.state = .active ∧ o.entry0 ≠ o'.entry0) ∧
      t.alerts = { s.alerts with pending := t.alerts.pending } ∧
      t.line = { s.line with reachReq := t.line.reachReq, tx := t.line.tx } ∧
      let r := s.computePlan.release.target
      let far := fun used : Nat => used + s.settings.line.changeThreshold ≤ r ∨ r + s.settings.line.changeThreshold ≤ used
      let held := { s.gate with inHand := some r }
      let acts := s.gate.mode = .auto ∧ ∀ used, s.gate.lastUsed = some used → far used
      (acts → t.gate = (held.computeTarget s.settings).onTarget s.settings s.time.elapsed) ∧ (¬acts → t.gate = held) ∧
      t.gate = { held with target := t.gate.target, lastUsed := t.gate.lastUsed, drive := t.gate.drive
                           restStart := t.gate.restStart, stallStart := t.gate.stallStart, lastOff := t.gate.lastOff }

/-- The flow through the gate (R95) after a computation: 0 with the gate shut or with no positive head, else the exact product rounded
half up and limited to 32 000 L/s; with the flags of the rule. The integer square root is the greatest integer whose square does not exceed
its operand (chapter 0, "Arithmetic"). -/
def Obligations.GateFlow : Prop :=
  (∀ n : Nat, isqrt n * isqrt n ≤ n ∧ n < (isqrt n + 1) * (isqrt n + 1)) ∧
  ∀ (c : Config.Settings) (hU hD : Nat) (g : Gate), let g' := g.computeFlow c hU hD
    let a := g.position c
    let head : Int := if hD ≤ a then (hU : Int) - (a / 2 : Nat) else (hU : Int) - hD
    g'.flow ≤ 32000 ∧
      (a = 0 → g'.flow = 0 ∧ g'.reverseHead = false ∧ g'.saturated = false) ∧
      (a ≠ 0 → head ≤ 0 → g'.flow = 0 ∧ g'.reverseHead = true ∧ g'.saturated = false) ∧
      (a ≠ 0 → 0 < head → ∀ v : Nat, (v : Int) * v ≤ 19620 * head → 19620 * head < ((v : Int) + 1) * (v + 1) →
        ∀ q : Nat, 1000000000 * q ≤ c.reach.cd * c.reach.width * a * v + 500000000 →
          c.reach.cd * c.reach.width * a * v + 500000000 < 1000000000 * (q + 1) →
          g'.reverseHead = false ∧ g'.flow = min q 32000 ∧ (g'.saturated = true ↔ 32000 < q))

/-! ## The station link: refusals, replies and reads -/

/-- The table of R171: a powered part answers every command of the station link, with the kind of the command; where the table refuses it, it
refuses it so before any block sees it, and nowhere else with NOT_READY; and a refused command changes nothing but the reply (R169). -/
def Obligations.StartStateRefusals : Prop :=
  ∀ (c : Instr) (s : State) (kind : Byte) (payload : List Byte),
    s.startup.powered = true → linkPayload c = some (kind, payload) →
      (∀ r, tableRefusal c s.startup.state = some r → exec c s = s.refuses c kind r) ∧
      ∃ (t : State) (r : Reply), exec c s = .next t ∧ t.link.reply = some r ∧ r.kind = kind ∧
        (tableRefusal c s.startup.state = none → r.result ≠ .notReady) ∧
        (r.result ≠ .ok → .next t = s.refuses c kind r.result)

/-- The reply that is built (R169, R170, R192): kind, result, the overrun mark of the moment, which it clears, and data on OK only; nothing
else of the part changes. Its frame is sync, kind, length, result byte, status byte, data and CRC; that bits 1 to 7 of the status byte are 0 is the model's
(log 11: DESIGN CHOICE). -/
def Obligations.ReplyBuilt : Prop :=
  ∀ (s : State) (kind : Byte) (result : ResultCode) (data : List Byte) (entry : Bool),
    let t := s.answer kind result data entry
    let r : Reply := { kind := kind, result := result, overrun := s.link.overrun,
                       data := if result = .ok then data else [], entry := entry }
    let body := kind :: (toBytes 2 (r.data.length + 2) ++ (byte result.code ++ markByte s.link.overrun ++ r.data))
    t = { s with link := { s.link with overrun := false, reply := some r } } ∧ r.frame = 0x5D :: (body ++ crcBytes body)

/-- STATUS_READ in every start state with supply (R172, R143) and PLAN_READ in WAIT_TIME and RUN (R90, R192): the start state, or the plan key and the
results byte, and then the items of the part that is named, each from its owner, in listed order; a part above the last is BAD_VALUE. Nothing
else changes. PLAN_READ gives the latest results, or zeros when there are none but for the supply source, S, the target levels and the guard cut; its
parts have the sizes of R192. States and modes are numbered in the order of their tables (R187). The sizes of STATUS_READ's items, its counts
before lists, the straps byte, the byte of HEADER, the numbers of the regimes, what it sends of a block that has not started and of an absent
turnout, that part PART sends the start state once, the alert line as 1 asserted, the age in whole seconds rounded down, the one presence byte of a
record that may be none, and the slot number of a slot without an order are the model's (log 11: DESIGN CHOICE). -/
def Obligations.StatusAndPlanReads : Prop :=
  let four := fun (n : Nat) (x : ByClass) => toBytes n x.c1 ++ toBytes n x.c2 ++ toBytes n x.c3 ++ toBytes n x.c4
  (∀ (s : State) (part : Nat), s.startup.powered = true →
    let c := Instr.statusRead part
    let gives := fun body : List Byte => exec c s = s.replies c 0x01 (byte s.startup.state.code ++ body)
    let u := s.startup
    let t := s.time.time
    let l := s.line
    let g := s.gate
    let p := s.planner
    let k := s.close
    let b := s.billing
    let lv := s.settings.levels
    let started := s.startup.state = .waitTime ∨ s.startup.state = .run
    let held := fun v : Nat => if started then some v else none
    (part = 0 → gives (optBytes 1 (u.failing.map ImageSection.identifier) ++
      byte (bitsOf [u.start.getLsbD 0, u.start.getLsbD 1, u.forceCold]) ++ byte u.source.code ++
      optBytes 1 (u.lastStart.map StartKind.code) ++ toBytes 3 s.alerts.pending.toNat ++ markByte s.alertLine)) ∧
    (part = 1 → gives (optBytes 2 (held t.day) ++ optBytes 2 (held t.minute) ++ optBytes 1 (held t.second) ++
      optBytes 2 (held t.ms) ++ optBytes 2 (held (t.minute / s.settings.periodLength)) ++ optBytes 4 (held s.curKey) ++
      optBytes 1 (held (qualityCode s.time.quality)) ++ byte s.time.source.code ++ markByte s.time.counting)) ∧
    (part = 2 → gives (byte l.tx.code ++ byte l.attempt ++ markByte l.reachReq ++ markByte l.watchReq ++
      markByte l.holdoff.isSome ++ markByte l.noticeTimer.isSome)) ∧
    (part = 3 →
      let entry := fun e : Entry =>
        let x := e.content
        let pairs := (x.map Content.pairs).getD []
        byte e.role.code ++ byte e.station ++ byte e.state.code ++ optBytes 4 (e.receipt.map fun at0 => (s.time.elapsed - at0) / 1000) ++
          optBytes 4 (x.map Content.senderKey) ++ optBytes 1 (x.map fun y => qualityCode y.quality) ++
          optBytes 1 (x.map fun y => bitsOf [y.flags.tripped, y.flags.gateFault, y.flags.levelFault, y.flags.guarding,
            y.flags.upstreamLost, y.flags.manual]) ++ optBytes 2 (x.map Content.level) ++ byte pairs.length ++
          pairs.flatMap (fun y => toBytes 4 y.key ++ toBytes 4 y.litres ++ markByte y.estimated) ++ markByte e.outOfStep ++
          markByte e.mismatch
      gives (byte s.neigh.entries.length ++ s.neigh.entries.flatMap entry ++ toBytes 4 s.neigh.watchEnd ++
        markByte (decide (started ∧ s.neigh.watchEnd ≠ 0 ∧ s.curKey ≤ s.neigh.watchEnd)))) ∧
    (part = 4 → gives (toBytes 4 p.planKey ++ byte p.source.code ++ toBytes 2 p.headSupply ++
      (match p.results with
       | some x => 1 :: (toBytes 2 x.release.target ++ toBytes 4 x.release.shares ++ toBytes 2 x.release.loss ++
          toBytesSigned 2 x.release.correction ++ toBytes 2 x.release.guardCut ++ toBytes 2 x.release.limit)
       | none => 0 :: List.replicate 14 0) ++
      toBytesSigned 2 p.correction ++ toBytes 2 p.target ++ optBytes 2 p.staged ++ toBytes 2 p.guardCut ++
      markByte (decide (0 < p.guardCut)) ++ markByte (decide (p.source = .fallback)))) ∧
    (part = 5 → gives (byte g.window.length ++ (g.window.flatMap fun w => toBytes 2 w.1 ++ toBytes 2 w.2) ++ optBytes 2 g.hU ++
      optBytes 2 g.hD ++ toBytes 2 g.lastU ++ toBytes 2 g.lastD ++ byte g.missed ++ markByte g.levelFault ++ toBytes 2 g.flow ++
      byte (bitsOf [g.reverseHead, g.saturated]) ++ toBytes 4 g.volume ++ markByte g.volumeEst ++
      (match g.closed with
       | some x => 1 :: (toBytes 4 x.key ++ toBytes 4 x.litres ++ markByte x.estimated)
       | none => 0 :: List.replicate 9 0) ++
      toBytes 2 g.counts ++ markByte g.suspect ++ byte g.mode.code ++ toBytes 2 g.manual ++ optBytes 2 g.inHand ++
      optBytes 2 g.lastUsed ++ toBytes 2 g.target ++ byte g.drive.code ++ optBytes 1 g.drive.phase ++ byte g.record.code ++
      byte (bitsOf [g.upHigh, g.upLow, g.downHigh]) ++ toBytes 2 (g.position s.settings) ++
      byte (bitsOf [g.limClosed, g.limOpen, g.tripIn, g.supplyLow]) ++
      byte (bitsOf [g.tripIn, lv.levelTrip && g.hU.any fun x => decide (lv.upHigh < x)]) ++
      optBytes 1 (g.regime.map Regime.code))) ∧
    (part = 6 →
      let numbers := s.settings.neighbours.downstream.map Config.Downstream.station
      let entry := fun e : BalanceEntry =>
        toBytes 4 e.key ++ toBytes 4 e.inflow ++ toBytes 4 e.turnoutSum ++ optRecord 4 (e.storage.map (toBytesSigned 4)) ++
          toBytes 4 e.expectedLoss ++ markByte e.estimated ++
          (e.slots.zipIdx.flatMap fun x =>
            byte (numbers.getD x.2 0) ++ optRecord 5 (x.1.map fun v => toBytes 4 v.1 ++ markByte v.2))
      gives (optBytes 4 (held k.openKey) ++ optBytes 2 k.openLevel ++ byte k.history.length ++
        (k.history.flatMap fun x => toBytes 4 x.key ++ toBytes 4 x.litres ++ markByte x.estimated) ++
        byte k.queue.length ++ k.queue.flatMap entry ++ byte k.lossCount ++ markByte k.reachLoss ++
        optRecord 10 (k.lastEval.map fun x => toBytes 4 x.key ++
          toBytesSigned 4 (max (-2147483648) (min 2147483647 x.unaccounted)) ++ byte x.result.code ++ markByte x.estimated) ++
        optBytes 4 k.lastAbandoned ++
        optRecord 12 (k.outage.map fun x => toBytes 4 x.first ++ toBytes 4 x.last ++ toBytes 4 x.count))) ∧
    (part = 7 → gives ((List.range 16).flatMap fun i =>
      let x := s.turnout i
      if started ∧ present s.settings i = true then
        byte (bitsOf [true, x.inService, x.flags.rateOver || x.flags.noisy || x.flags.unorderedDraw || x.flags.serviceChanged, x.noisy])
      else byte 0)) ∧
    (part = 8 →
      let rates := fun x : RateTable => four 2 x.tier1 ++ four 2 x.tier2 ++ four 2 x.unused ++ toBytes 2 x.unordered ++
        toBytes 4 x.callOut ++ toBytes 4 x.lateCancel
      gives ((b.accounts.flatMap fun a => byte a.state.code) ++ rates b.active ++ optRecord 34 (b.staged.map rates) ++
        toBytes 2 b.seasonId ++ toBytes 2 b.log.length ++ toBytes 4 b.readPos ++ byte b.waitList.length)) ∧
    (8 < part → exec c s = s.refuses c 0x01 .badValue)) ∧
  (∀ (s : State) (part : Nat), s.working = true →
    let c := Instr.planRead part
    let p := s.planner
    let has := p.results.isSome
    let key := (p.results.map PlanResults.key).getD p.planKey
    let offsets := (p.results.map PlanResults.offsets).getD (List.replicate 12
      { ownDemand := [], ownShare := [], downDemand := [], downShare := [], raw := ByClass.zero, announced := ByClass.zero
        supply := ByClass.zero, pool := ByClass.zero, lossServed := 0, margin := 0 })
    let gives := fun body : List Byte => exec c s = s.replies c 0x02 (toBytes 4 key ++ markByte has ++ body)
    let sized := (∀ r, p.results = some r → r.offsets.length = 12) ∧ ∀ es ∈ p.schedules, es.length = 20
    let release := match p.results with
      | some r => toBytes 2 r.release.target ++ toBytes 4 r.release.shares ++ toBytes 2 r.release.loss ++
          toBytesSigned 2 r.release.correction ++ toBytes 2 r.release.guardCut ++ toBytes 2 r.release.limit
      | none => List.replicate 10 0 ++ toBytes 2 p.guardCut ++ List.replicate 2 0
    let summary := byte p.source.code ++ toBytes 2 p.headSupply ++ release ++ toBytes 2 p.target ++ optBytes 2 p.staged
    let classes := offsets.flatMap fun x => four 4 x.raw ++ four 2 x.announced ++ four 2 x.supply ++ four 2 x.pool ++
      toBytes 2 x.lossServed ++ toBytes 2 x.margin
    let planned := fun slot : Nat => (s.book.at? slot).any (fun o => decide (o.state ≠ .closedUnbilled)) = true
    let slotRow := fun slot : Nat => byte (if has then slot else 0) ++ offsets.flatMap fun x =>
      toBytes 2 (if planned slot then x.ownDemand.getD slot 0 else 0) ++ toBytes 2 (if planned slot then x.ownShare.getD slot 0 else 0)
    let neighbour := fun j : Nat =>
      byte (if has then ((s.settings.neighbours.downstream[j]?).map Config.Downstream.station).getD 0 else 0) ++
        (offsets.flatMap fun x => four 2 (x.downDemand.getD j ByClass.zero) ++ four 2 (x.downShare.getD j ByClass.zero)) ++
        ((p.schedules[j]?).getD (List.replicate 20 { value := none, frozen := false })).flatMap fun e =>
          if has then byte (bitsOf [e.value.isSome, e.frozen]) ++ four 2 (e.value.getD ByClass.zero) else List.replicate 9 0
    (part = 0 → gives summary) ∧ (part = 1 → gives classes) ∧
    (2 ≤ part → part ≤ 4 → gives ((List.range 16).flatMap fun i => slotRow (i + 16 * (part - 2)))) ∧
    (5 ≤ part → part ≤ 7 → gives (neighbour (part - 5))) ∧
    (7 < part → exec c s = s.refuses c 0x02 .badValue) ∧ summary.length = 22 ∧
    (sized → classes.length = 12 * 44 ∧ (∀ slot, (slotRow slot).length = 49) ∧ ∀ j, (neighbour j).length = 373)) ∧
  [StartState.loading, .configFault, .waitTime, .run].map StartState.code = [0, 1, 2, 3] ∧
  [LoadSource.memory, .link].map LoadSource.code = [0, 1] ∧ [StartKind.cold, .warm].map StartKind.code = [0, 1] ∧
  [ImageSection.header, .station, .time, .line, .neighbours, .reachAndGate, .levelsAndControl, .turnouts, .accounts, .rates,
    .alertSettings].map ImageSection.identifier = List.range 11 ∧
  [Config.Quality.set, .free, .degraded].map qualityCode = [0, 1, 2] ∧ [ClockSource.main, .internal].map ClockSource.code = [0, 1] ∧
  [LineTx.quiet, .gap, .sending, .backoff].map LineTx.code = [0, 1, 2, 3] ∧ Role.upstream.code = 0 ∧
  (∀ j, (Role.downstream j).code = j) ∧ [EntryState.absent, .fresh, .lost].map EntryState.code = [0, 1, 2] ∧
  [SupplySource.head, .upstream, .fallback].map SupplySource.code = [0, 1, 2] ∧
  [ControlMode.auto, .manual].map ControlMode.code = [0, 1] ∧
  [Drive.stopped, .opening, .closing, .resting, .tripped .waiting, .tripped .done, .fault].map Drive.code = [0, 1, 2, 3, 4, 4, 5] ∧
  (∀ up, (Drive.tripped (.moving up)).code = 4 ∧ (Drive.tripped (.moving up)).phase = some 1) ∧
  [Drive.stopped, .opening, .closing, .resting, .tripped .waiting, .tripped .done, .fault].map Drive.phase =
    [none, none, none, none, some 0, some 2, none] ∧
  [FaultRecord.none, .stall, .limits].map FaultRecord.code = [0, 1, 2] ∧ [Regime.free, .submerged].map Regime.code = [0, 1] ∧
  [BalanceResult.unjudged, .out, .within].map BalanceResult.code = [0, 1, 2] ∧
  [AccountState.good, .hold, .closed].map AccountState.code = [0, 1, 2]

/-- ORDER_QUERY and BOOK_LIST in WAIT_TIME and RUN (R173): the slot and the whole record of the live order that holds the number, its entries stated for
the book key, NOT_FOUND when none does; and the book key, the count and the live slots, all of them, in ascending order, 12 bytes each. Nothing else
changes. That the list gives a count of 0 for an empty book is R192's layout; that the flags of an order have an eighth bit of 0, that each frozen
mark follows its rate, and that the book key stands last is the model's (log 11: DESIGN CHOICE); the numbers of the states are log 28 (DEDUCED). -/
def Obligations.OrderQueryAndBookList : Prop :=
  (∀ s : State, s.working = true →
    (∀ (slot : Nat) (o : Order), s.book.NumbersDistinct → s.book.at? slot = some o →
      exec (.orderQuery o.number) s = s.replies (.orderQuery o.number) 0x03
        (byte slot ++ toBytes 2 o.number ++ byte o.turnout ++ byte o.account ++ byte o.cls.number ++ toBytes 4 o.startKey ++
          toBytes 2 o.duration ++ toBytes 2 o.rate ++ toBytes 4 (o.startKey + o.duration - 1) ++ byte o.state.code ++
          (o.grants.flatMap fun e => toBytes 2 e.rate ++ markByte e.frozen) ++ toBytes 2 o.floor ++ toBytes 4 o.granted ++
          toBytes 4 o.delivered ++ byte (bitsOf [o.flags.curtailed, o.flags.shutoff, o.flags.estimated, o.flags.outage, o.flags.late,
            o.flags.service, o.flags.frost, false]) ++ optBytes 4 o.closeKey ++ optBytes 4 o.charge ++ toBytes 4 s.book.bookKey)) ∧
    (∀ n : Nat, (∀ slot o, s.book.at? slot = some o → o.number ≠ n) →
      exec (.orderQuery n) s = s.refuses (.orderQuery n) 0x03 .notFound) ∧
    exec .bookList s = s.replies .bookList 0x04
      (toBytes 4 s.book.bookKey ++ byte s.book.live.length ++ s.book.live.flatMap bookRow) ∧
    (∀ slot o, (slot, o) ∈ s.book.live ↔ s.book.at? slot = some o) ∧ s.book.live.Pairwise (fun p q => p.1 < q.1)) ∧
  (∀ (slot : Nat) (o : Order), (bookRow (slot, o)).length = 12 ∧ bookRow (slot, o) =
    byte slot ++ toBytes 2 o.number ++ byte o.state.code ++ byte o.turnout ++ byte o.cls.number ++ toBytes 2 o.rate ++
      toBytes 2 ((o.grants.map GrantEntry.rate).getD 0 0) ++ toBytes 2 o.floor) ∧
  [OrderState.pending, .active, .closing, .closedUnbilled].map OrderState.code = [1, 2, 3, 4] ∧
  [WaterClass.senior, .frost, .standard, .surplus].map WaterClass.number = [1, 2, 3, 4]

/-- ACCOUNT_QUERY (R146): every field of the entry and the remaining allotment; NOT_FOUND for an index above 63 and for account number 0;
NOT_READY in LOADING and CONFIG_FAULT. Nothing else changes. -/
def Obligations.AccountQuery : Prop :=
  ∀ (s : State) (index : Nat), s.startup.powered = true → s.billing.accounts.length = 64 →
    let a := s.billing.account index
    let c := Instr.accountQuery index
    let started := s.startup.state = .waitTime ∨ s.startup.state = .run
    (started → index ≤ 63 → a.number ≠ 0 → exec c s = s.replies c 0x05
      (toBytes 3 a.number ++ toBytes 4 a.allotment ++ toBytes 4 a.limit ++ byte a.state.code ++ toBytes 4 a.used ++
        toBytes 4 a.charges ++ toBytes 4 a.remaining)) ∧
    (started → 63 < index ∨ a.number = 0 → exec c s = s.refuses c 0x05 .notFound) ∧
    (¬started → exec c s = s.refuses c 0x05 .notReady)

/-- LOG_READ (R157): the read position, the two counts, and the oldest records, as many as the count clamped to 4, each with its sequence
number first; NOT_READY in LOADING and CONFIG_FAULT. It removes nothing and changes nothing but the reply, so a second LOG_READ at once after it
gives the same data. A record is the 48 bytes of R194: its fields at their offsets, those that are absent 0 with their presence bits clear. -/
def Obligations.LogRead : Prop :=
  (∀ (s : State) (count : Nat), s.startup.powered = true →
    let c := Instr.logRead count
    let b := s.billing
    let data := toBytes 4 b.readPos ++ toBytes 2 b.log.length ++ byte b.waitList.length ++
      (b.log.take (min count 4)).flatMap BillRecord.bytes
    let started := s.startup.state = .waitTime ∨ s.startup.state = .run
    (started → exec c s = s.replies c 0x07 data ∧ ∀ t, exec c s = .next t → exec c t = t.replies c 0x07 data) ∧
    (¬started → exec c s = s.refuses c 0x07 .notReady)) ∧
  (∀ r : BillRecord,
    let o := r.order
    let f := r.flags
    let number := fun get : OrderPart → Nat => (o.map get).getD 0
    r.bytes.length = 48 ∧ r.bytes.take 4 = toBytes 4 r.seq ∧
    r.bytes.drop 4 = byte r.kind.code ++ byte (bitsOf [o.isSome, o.isSome, o.isSome, r.granted.isSome, r.tiers.isSome]) ++
      toBytes 4 r.key ++ toBytes 2 (number OrderPart.number) ++ toBytes 3 r.account ++ byte r.turnout ++
      byte (number fun x => x.cls.number) ++ toBytes 4 (number OrderPart.startKey) ++ toBytes 4 (number OrderPart.endKey) ++
      toBytes 2 (number OrderPart.rate) ++ toBytes 4 (r.granted.getD 0) ++ toBytes 4 r.delivered ++
      toBytes 4 ((r.tiers.map (·.1)).getD 0) ++ toBytes 4 ((r.tiers.map (·.2)).getD 0) ++ toBytes 4 r.charge ++
      byte (bitsOf [f.curtailed, f.shutoff, f.estimated, f.outage, f.late, f.service, f.frost, r.timeUncertain])) ∧
  [RecordKind.delivery, .cancel, .unordered].map RecordKind.code = [0, 1, 2]

/-- TURNOUT_QUERY (R127) and ALERT_READ (R175) in WAIT_TIME and RUN: the turnout's configured and runtime parts with the two answers of the
Order Book (R34): the grant in force, entry 0 of the ACTIVE order or 0, and whether an ACTIVE or CLOSING order is on it; BAD_TURNOUT for one that is not present; and the pending, persisting and mask marks, the seventeen levels of section 10.5,
the threshold, the line and the moderation timer. Nothing else changes. The last pulse time is its age in ms, or absent. The sizes of the items
of the configured and the runtime part, the coding of the no-flow timer and of the alert line (1 asserted), and that levels and marks take one
byte each are the model's (log 11: DESIGN CHOICE). -/
def Obligations.TurnoutQueryAndAlertRead : Prop :=
  (∀ (b : OrderBook) (i : Nat),
    let active := fun (slot : Nat) (o : Order) => b.at? slot = some o ∧ o.turnout = i ∧ o.state = .active
    (b.hasLiveDraw i = true ↔
      ∃ slot o, b.at? slot = some o ∧ o.turnout = i ∧ (o.state = .active ∨ o.state = .closing)) ∧
    ((∀ slot o, ¬active slot o) → b.grantInForce i = 0) ∧
    ∀ slot o, active slot o → (∀ slot' o', active slot' o' → slot' = slot) →
      b.grantInForce i = (o.grants.map GrantEntry.rate).getD 0 0) ∧
  ∀ s : State, s.working = true →
    (∀ i : Nat, present s.settings i = true → exec (.turnoutQuery i) s = s.replies (.turnoutQuery i) 0x06
      (let k := configOf s.settings i
       let x := s.turnout i
       let f := x.flags
       markByte k.present ++ markByte x.inService ++ byte k.account ++ toBytes 2 k.capacity ++ toBytes 2 k.litres ++ byte k.tau ++
        toBytes 2 k.spacing ++ toBytes 2 k.noFlow ++
        toBytes 4 x.pulses ++ toBytes 2 x.rejects ++ optBytes 4 (x.lastPulse.map fun last => s.time.elapsed - last) ++ toBytes 2 x.rate ++
        markByte x.lastPulse.isSome ++ markByte x.noisy ++ markByte x.estimated ++ markByte x.overdraw ++
        optRecord 15 (x.closed.map fun m =>
          toBytes 4 m.key ++ toBytes 4 m.pulses ++ toBytes 4 m.litres ++ toBytes 2 m.rejects ++ markByte m.estimated) ++
        toBytes 4 x.tally ++ markByte x.due ++ byte (bitsOf [f.rateOver, f.noisy, f.unorderedDraw, f.serviceChanged]) ++
        toBytes 2 (s.book.grantInForce i) ++ markByte (s.book.hasLiveDraw i))) ∧
    (∀ i : Nat, present s.settings i = false → exec (.turnoutQuery i) s = s.refuses (.turnoutQuery i) 0x06 .badTurnout) ∧
    exec .alertRead s = s.replies .alertRead 0x08
      (toBytes 3 s.alerts.pending.toNat ++ toBytes 3 s.persisting.toNat ++ toBytes 3 s.alerts.masks.toNat ++
        [3, 3, 2, 2, 2, 2, 2, 2, 2, 2, 2, 1, 1, 1, 1, 1, 1] ++ byte s.settings.alert.threshold ++ markByte s.alertLine ++
        markByte s.alerts.moderation.isSome)

/-! ## Planner and watch commands -/

/-- SUPPLY_SET (R75): at a head station in RUN the value clamped to 32 000 becomes S, the Planner recomputes, and the reply carries S, also
when S stays the same; ROLE elsewhere, and NOT_READY in the other start states, with nothing changed. -/
def Obligations.SupplySet : Prop :=
  ∀ (s : State) (flow : Nat), s.startup.powered = true →
    let c := Instr.supplySet flow
    (s.startup.state = .run → s.settings.neighbours.upstream = 0 →
      exec c s = ({ s with planner := { s.planner with headSupply := min flow 32000 } } : State).recompute.replies c 0x12
        (toBytes 2 (min flow 32000))) ∧
    (s.startup.state = .run → s.settings.neighbours.upstream ≠ 0 → exec c s = s.refuses c 0x12 .role) ∧
    (s.startup.state ≠ .run → exec c s = s.refuses c 0x12 .notReady)

/-- WATCH_DECLARE in RUN (R63, R65): an end key below the current key is BAD_VALUE; else it is clamped, and when greater than the watch end key
becomes it, with WATCH_CHANGED and a WATCH request; the reply carries the watch end key in force. The clamp to the highest
period key is the model's (log 16: DESIGN CHOICE). -/
def Obligations.WatchDeclare : Prop :=
  ∀ (s : State) (key : Nat), s.running = true →
    let c := Instr.watchDeclare key
    let v := min key (min (s.curKey + 288) (highestKey s.settings.periodLength))
    let line := { s.line with watchReq := true }
    (key < s.curKey → exec c s = s.refuses c 0x13 .badValue) ∧
    (s.curKey ≤ key → s.neigh.watchEnd < v →
      exec c s = ({ s with
        neigh := { s.neigh with watchEnd := v }
        alerts := s.alerts.raise .watchChanged
        line := if s.line.tx = .quiet ∧ s.line.holdoff = none then { line with tx := .gap } else line } : State).replies c 0x13
          (toBytes 4 v)) ∧
    (s.curKey ≤ key → v ≤ s.neigh.watchEnd → exec c s = s.replies c 0x13 (toBytes 4 s.neigh.watchEnd))

/-- Settings by command in RUN: TARGET_STAGE (R86), RATES_STAGE (R148) and ACCOUNT_SET (R145) each change the fields they carry and nothing
else, and are refused as their rules say. That ROLE is judged before the level in TARGET_STAGE, and NOT_FOUND before BAD_VALUE in ACCOUNT_SET, is
the model's choice (log 12: DEDUCED); so is that RATES_STAGE and ACCOUNT_SET are served while a catch-up step is due (log 15: DESIGN CHOICE). -/
def Obligations.StagedSettings : Prop :=
  ∀ s : State, s.running = true →
    (∀ level : Nat, let c := Instr.targetStage level
      (isTail s.settings = true → exec c s = s.refuses c 0x1B .role) ∧
      (isTail s.settings = false → 4000 < level → exec c s = s.refuses c 0x1B .badValue) ∧
      (isTail s.settings = false → level ≤ 4000 →
        exec c s = ({ s with planner := { s.planner with staged := some level } } : State).replies c 0x1B [])) ∧
    (∀ table : RateTable, let c := Instr.ratesStage table
      (table.callOut ≤ 1000000 → table.lateCancel ≤ 1000000 →
        exec c s = ({ s with billing := { s.billing with staged := some table } } : State).replies c 0x1A []) ∧
      (1000000 < table.callOut ∨ 1000000 < table.lateCancel → exec c s = s.refuses c 0x1A .badValue)) ∧
    ∀ index allotment limit state : Nat, let c := Instr.accountSet index allotment limit state
      let a := s.billing.account index
      (∀ x : AccountState, a.number ≠ 0 → allotment ≤ 4000000 → x.code = state →
        let a' := { a with allotment := allotment, limit := limit, state := x }
        exec c s = ({ s with billing := { s.billing with accounts := s.billing.accounts.set index a' } } : State).replies c 0x17
          a'.bytes) ∧
      (a.number = 0 → exec c s = s.refuses c 0x17 .notFound) ∧
      (a.number ≠ 0 → 4000000 < allotment ∨ 2 < state → exec c s = s.refuses c 0x17 .badValue)

/-! ## Orders -/

/-- The admission checks (R24, R25, R26): an order that passes the form check is refused by none of them exactly when a slot is FREE, its number is not
live, its turnout is configured and in service, its account is configured and GOOD, its rate lies within 5 to the turnout's capacity, its start
lies within the earliest start and the horizon, a Frost order lies inside an active watch, no order of the turnout that takes part meets
its window plus tail, and in no period of its window the requested rates pass the reach turnout capacity. Otherwise the first check in the order
of R24 that fails gives its refusal code. -/
def Obligations.AdmissionChecks : Prop :=
  ∀ (s : State) (r : OrderRequest), formGood s.settings.periodLength r = true →
    let c := s.settings
    let a := s.billing.account r.account
    let endKey := r.startKey + r.duration - 1
    let earliest := if r.cls = 2 then s.curKey + 1 else s.curKey + max c.station.minNotice 1
    let failures : List (Prop × ResultCode) :=
      [ (∀ slot : Nat, s.book.slots[slot]? ≠ some none, .full)
      , (∃ slot o, s.book.at? slot = some o ∧ o.number = r.number, .duplicate)
      , (present c r.turnout = false, .badTurnout)
      , ((s.turnout r.turnout).inService = false, .outOfService)
      , (a.number = 0 ∨ a.state = .closed, .account)
      , (a.state = .hold, .hold)
      , (r.rate < 5 ∨ (configOf c r.turnout).capacity < r.rate, .rate)
      , (r.startKey < earliest, .tooSoon)
      , (s.curKey + c.station.horizon < r.startKey, .tooFar)
      , (r.cls = 2 ∧ ¬(s.neigh.watchEnd ≠ 0 ∧ s.curKey ≤ s.neigh.watchEnd ∧ endKey ≤ s.neigh.watchEnd), .noWatch)
      , (∃ slot o, s.book.at? slot = some o ∧ o.turnout = r.turnout ∧ o.state ≠ .closedUnbilled ∧ r.startKey ≤ o.endKey + 1 ∧
          o.startKey ≤ endKey + 1, .overlap)
      , (∃ p, r.startKey ≤ p ∧ p ≤ endKey ∧ c.reach.reachCapacity < s.book.rateSum p + r.rate, .capacity) ]
    (s.admission r = none ↔
      (∃ slot : Nat, s.book.slots[slot]? = some none) ∧ (∀ slot o, s.book.at? slot = some o → o.number ≠ r.number) ∧
      present c r.turnout = true ∧ (s.turnout r.turnout).inService = true ∧ a.number ≠ 0 ∧ a.state = .good ∧
      5 ≤ r.rate ∧ r.rate ≤ (configOf c r.turnout).capacity ∧ earliest ≤ r.startKey ∧
      r.startKey ≤ s.curKey + c.station.horizon ∧
      (r.cls = 2 → s.neigh.watchEnd ≠ 0 ∧ s.curKey ≤ s.neigh.watchEnd ∧ endKey ≤ s.neigh.watchEnd) ∧
      (∀ slot o, s.book.at? slot = some o → o.turnout = r.turnout → o.state ≠ .closedUnbilled →
        o.endKey + 1 < r.startKey ∨ endKey + 1 < o.startKey) ∧
      ∀ p, r.startKey ≤ p → p ≤ endKey → s.book.rateSum p + r.rate ≤ c.reach.reachCapacity) ∧
    ∀ (n : Nat) (fails : Prop) (code : ResultCode), failures[n]? = some (fails, code) → fails →
      (∀ m q, m < n → failures[m]? = some q → ¬q.1) → s.admission r = some code

/-- ORDER_PLACE in RUN (R16, R23, R24, R25, R27): an order in form that no check refuses takes the lowest-numbered FREE slot in state PENDING, with twenty grants
of 0 of which those below the travel time are frozen, volumes 0, FROST for class 2 only; the Planner recomputes, and the reply carries
the slot. Out of form it is BAD_VALUE; refused by a check it changes nothing. That it is served at once while a catch-up step is due is the
model's (log 15: DESIGN CHOICE). -/
def Obligations.OrderPlaceAdmits : Prop :=
  ∀ (s : State) (r : OrderRequest), s.running = true →
    let c := Instr.orderPlace r
    let tau := tauOf s.settings r.turnout
    (formGood s.settings.periodLength r = true ↔
      r.number ≠ 0 ∧ 1 ≤ r.cls ∧ r.cls ≤ 4 ∧ 1 ≤ r.duration ∧ r.duration ≤ 288 ∧
        r.startKey + r.duration ≤ highestKey s.settings.periodLength) ∧
    (∀ (cls : WaterClass) (slot : Nat), formGood s.settings.periodLength r = true → s.admission r = none → cls.number = r.cls →
      s.book.slots[slot]? = some none → (∀ i, i < slot → s.book.slots[i]? ≠ some none) →
      exec c s = ((s.withBook { s.book with slots := s.book.slots.set slot (some
        { number := r.number, turnout := r.turnout, account := r.account, cls := cls, startKey := r.startKey,
          duration := r.duration, rate := r.rate, state := .pending,
          grants := (List.range 20).map fun i => { rate := 0, frozen := decide (i < tau) },
          floor := 0, granted := 0, delivered := 0,
          flags := { curtailed := false, shutoff := false, estimated := false, outage := false, late := false,
                     service := false, frost := decide (r.cls = 2) },
          closeKey := none, charge := none, record := none }) }).recompute).replies c 0x14 (byte slot)) ∧
    (formGood s.settings.periodLength r = false → exec c s = s.refuses c 0x14 .badValue) ∧
    ∀ code, formGood s.settings.periodLength r = true → s.admission r = some code → exec c s = s.refuses c 0x14 code

/-- ORDER_CANCEL and ORDER_SHUTOFF in RUN (R28, R29): a PENDING order closes as a CANCEL at the current key, late within the lock time; an ACTIVE
one is shut off, its end key brought down to the current key; the Planner recomputes. The other states are STATE, an order that is not live
NOT_FOUND. That no cancellation is late with a lock time of 0 is R28's own sentence (DEDUCED, log 19, for a start key already passed); that both
are served at once while a catch-up step is due is the model's (log 15: DESIGN CHOICE). -/
def Obligations.OrderCancelAndShutoff : Prop :=
  (∀ (s : State) (slot : Nat) (o : Order), s.running = true → s.book.NumbersDistinct → s.book.at? slot = some o →
    let cancel := Instr.orderCancel o.number
    let shutoff := Instr.orderShutoff o.number
    let lock := s.settings.station.lockTime
    let late := decide (0 < lock) && decide (o.startKey < s.curKey + lock)
    let cancelled := (s.closeOrder .cancel slot s.curKey { o with flags := { o.flags with late := o.flags.late || late } }).recompute
    let cut := { o with
      duration := if o.endKey ≤ s.curKey then o.duration else s.curKey - o.startKey + 1
      flags := { o.flags with shutoff := true } }
    (o.state = .pending → exec cancel s = cancelled.replies cancel 0x15 [] ∧ exec shutoff s = cancelled.replies shutoff 0x16 []) ∧
    (o.state ≠ .pending → exec cancel s = s.refuses cancel 0x15 .state) ∧
    (o.state = .active →
      exec shutoff s = (s.withBook (s.book.put slot (some cut))).recompute.replies shutoff 0x16 [] ∧
      (1 ≤ o.duration → o.startKey ≤ s.curKey → cut.endKey = min o.endKey s.curKey)) ∧
    (o.state = .closing ∨ o.state = .closedUnbilled → exec shutoff s = s.refuses shutoff 0x16 .state)) ∧
  ∀ (s : State) (n : Nat), s.running = true → (∀ slot o, s.book.at? slot = some o → o.number ≠ n) →
    exec (.orderCancel n) s = s.refuses (.orderCancel n) 0x15 .notFound ∧
    exec (.orderShutoff n) s = s.refuses (.orderShutoff n) 0x16 .notFound

/-- Closing an order (R21, R150, R151, R153 to R156, R159, R160): the charge by kind; the account charged, and put on HOLD by a charge above 0 that
takes it past its limit; the record made; with room it enters the log and the slot is freed, else the order keeps its slot as CLOSED_UNBILLED
with its record and joins the wait list. Nothing else changes but alerts. The record's TIME_UNCERTAIN is the quality at that instant (R155), in a
catch-up after a TIME_SET too (log 15: DESIGN CHOICE). That an entry of number 0 is not charged is the model's (log 20: DESIGN CHOICE). -/
def Obligations.ClosingAnOrder : Prop :=
  ∀ (s : State) (kind : RecordKind) (slot key : Nat) (o : Order), kind = .delivery ∨ kind = .cancel →
    let a := s.billing.account o.account
    let rates := s.billing.active
    let tier1 := min o.delivered a.remaining
    let tier2 := o.delivered - tier1
    let unused := if o.delivered < o.granted / 2 then price (o.granted / 2 - o.delivered) (rates.unused.get o.cls) else 0
    let callOut := if o.cls = .frost then rates.callOut else 0
    let charge := if kind = .delivery
      then min (price tier1 (rates.tier1.get o.cls) + price tier2 (rates.tier2.get o.cls) + unused + callOut) 4294967295
      else if o.flags.late then rates.lateCancel else 0
    let volume := if kind = .delivery then o.delivered else 0
    let used := min (a.used + volume) 4294967295
    let charges := min (a.charges + charge) 4294967295
    let a' : Account := if a.number = 0 then a
      else { a with used := used, charges := charges,
                    state := if 0 < charge ∧ a.limit < charges ∧ a.state = .good then .hold else a.state }
    let record : BillRecord :=
      { seq := 0, kind := kind, key := key, account := a.number, turnout := o.turnout
        order := some { number := o.number, cls := o.cls, startKey := o.startKey, endKey := o.endKey, rate := o.rate }
        granted := if kind = .delivery then some o.granted else none
        delivered := o.delivered
        tiers := if kind = .delivery then some (tier1, tier2) else none
        charge := charge, flags := o.flags, timeUncertain := decide (s.time.quality ≠ .set) }
    let t := s.closeOrder kind slot key o
    t = { s with book := t.book, billing := t.billing, alerts := { s.alerts with pending := t.alerts.pending } } ∧
    (a.state = .good → a'.state = .hold → hasCause t.alerts.pending .accountHold = true) ∧
    (s.billing.log.length < 256 → s.billing.waitList = [] →
      t.book = s.book.put slot none ∧
      t.billing = { s.billing with
        accounts := s.billing.accounts.set o.account a'
        log := s.billing.log ++ [{ record with seq := s.billing.nextSeq }]
        nextSeq := (s.billing.nextSeq + 1) % 4294967296 } ∧
      (s.billing.log.length + 1 = s.settings.alert.logThreshold → hasCause t.alerts.pending .logLevel = true)) ∧
    (256 ≤ s.billing.log.length ∨ s.billing.waitList ≠ [] →
      t.book = s.book.put slot (some
        { o with state := .closedUnbilled, closeKey := some key, charge := some charge, record := some record }) ∧
      t.billing = { s.billing with
        accounts := s.billing.accounts.set o.account a', waitList := s.billing.waitList ++ [.order slot] } ∧
      (s.billing.waitList = [] → hasCause t.alerts.pending .logFull = true))

/-- The period change of an order that is PENDING, ACTIVE or CLOSING, from book key B to N (R18, R19, R20): an ACTIVE order accrues its floor and may become
CURTAILED; the schedule shifts, entries below the travel time freeze, the floor becomes entry 0; and the order closes, becomes CLOSING,
ACTIVE or stays PENDING by its keys, with OUTAGE where the outage span meets it. Its other fields stay. Of a CLOSED_UNBILLED order (R22) the
schedule shifts alike; it accrues nothing, keeps its state and does not close. -/
def Obligations.OrderPeriodChange : Prop :=
  (∀ (c : Config.Settings) (b n : Nat) (o : Order), b < n → o.state = .closedUnbilled → o.grants.length = 20 →
    let o' := o.periodChange c b n
    o' = { o with grants := o'.grants, floor := o'.entry0 } ∧ o'.grants.length = 20 ∧
    (∀ i, i < 20 → o'.grants[i]? = some
      { rate := ((o.grants[i + (n - b)]?).map GrantEntry.rate).getD 0
        frozen := ((o.grants[i + (n - b)]?).map GrantEntry.frozen).getD false || decide (i < tauOf c o.turnout) }) ∧
    o'.closesAt n = false) ∧
  ∀ (c : Config.Settings) (b n : Nat) (o : Order), b < n → o.state ≠ .closedUnbilled → o.grants.length = 20 → 1 ≤ o.duration →
    let o' := o.periodChange c b n
    let meets := fun top : Nat => b + 1 ≤ n - 1 ∧ o.startKey ≤ n - 1 ∧ b + 1 ≤ top
    o' = { o with state := o'.state, granted := o'.granted, grants := o'.grants, floor := o'.floor,
                  flags := { o.flags with curtailed := o'.flags.curtailed, outage := o'.flags.outage } } ∧
    o'.granted = (if o.state = .active then min (o.granted + o.floor * (c.periodLength * 60)) 4294967295 else o.granted) ∧
    (o'.flags.curtailed = true ↔ o.flags.curtailed = true ∨ (o.state = .active ∧ o.floor < o.rate)) ∧
    o'.grants.length = 20 ∧
    (∀ i, i < 20 → o'.grants[i]? = some
      { rate := ((o.grants[i + (n - b)]?).map GrantEntry.rate).getD 0
        frozen := ((o.grants[i + (n - b)]?).map GrantEntry.frozen).getD false || decide (i < tauOf c o.turnout) }) ∧
    o'.floor = o'.entry0 ∧
    (o.endKey + 2 ≤ n → o'.closesAt n = true ∧ (o'.flags.outage = true ↔ o.flags.outage = true ∨ meets (o.endKey + 1))) ∧
    (n ≤ o.endKey + 1 → o'.closesAt n = false) ∧
    (o.endKey + 1 = n → o'.state = .closing ∧ (o'.flags.outage = true ↔ o.flags.outage = true ∨ meets o.endKey)) ∧
    (o.startKey ≤ n → n ≤ o.endKey → o'.state = .active ∧ (o'.flags.outage = true ↔ o.flags.outage = true ∨ meets o.endKey)) ∧
    (n < o.startKey → o'.state = .pending ∧ o'.flags.outage = o.flags.outage)

/-! ## Turnout commands -/

/-- TURNOUT_SERVICE in RUN (R30): out cancels the PENDING orders of the turnout, in slot order, clears the in-service flag and sets SERVICE_CHANGED, with a
recompute when an order was cancelled; in sets the flag with SERVICE_CHANGED; a turnout already so is left; STATE while an order draws; and no
order of the turnout stays PENDING. A cancelled order has SERVICE set and LATE as it was, clear, and closes as a CANCEL at the current key with a
charge of 0 (R30, R151). That TURNOUT_SERVICE is served at once while a catch-up step is due is the model's (log 15: DESIGN CHOICE). TURNOUT_ACK (R126) clears the marked change flags and carries the four flags. A direction or a mark that is not
defined is BAD_VALUE (R187), a turnout that is not present BAD_TURNOUT, judged first (log 12: DEDUCED). -/
def Obligations.TurnoutServiceAndAck : Prop :=
  (∀ u : State, u.cancelSlots [] = u ∧ ∀ (slot : Nat) (rest : List Nat),
    (u.book.at? slot = none → u.cancelSlots (slot :: rest) = u.cancelSlots rest) ∧
    ∀ o, u.book.at? slot = some o →
      let served := { o with flags := { o.flags with service := true } }
      let v := u.closeOrder .cancel slot u.curKey served
      u.cancelSlots (slot :: rest) = v.cancelSlots rest ∧
      (o.flags.late = false → u.billing.log.length < 256 → u.billing.waitList = [] →
        v.book = u.book.put slot none ∧ ∃ r, v.billing.log = u.billing.log ++ [r] ∧ r.kind = .cancel ∧ r.key = u.curKey ∧
          r.charge = 0 ∧ r.flags = served.flags ∧ r.tiers = none ∧ r.granted = none ∧
          r.order = some { number := o.number, cls := o.cls, startKey := o.startKey, endKey := o.endKey, rate := o.rate }) ∧
      (o.flags.late = false → 256 ≤ u.billing.log.length ∨ u.billing.waitList ≠ [] →
        v.billing.waitList = u.billing.waitList ++ [.order slot] ∧
        ∃ r, r.charge = 0 ∧ r.kind = .cancel ∧ r.key = u.curKey ∧ r.flags = served.flags ∧ v.book = u.book.put slot
          (some { served with state := .closedUnbilled, closeKey := some u.curKey, charge := some 0, record := some r }))) ∧
  ∀ (s : State) (i : Nat), s.running = true →
    let t := s.turnout i
    let served := fun on : Bool => ({ s with meters := { s.meters with
      turnouts := s.meters.turnouts.set i { t with inService := on, flags := { t.flags with serviceChanged := true } } } } : State)
    let out := Instr.turnoutService i 0
    let slots := s.book.pendingOn i
    (present s.settings i = true →
      (s.book.hasLiveDraw i = true → exec out s = s.refuses out 0x18 .state) ∧
      (s.book.hasLiveDraw i = false → t.inService = false → exec out s = s.replies out 0x18 []) ∧
      (s.book.hasLiveDraw i = false → t.inService = true →
        let u := (served false).cancelSlots slots
        let v := if slots = [] then u else u.recompute
        exec out s = v.replies out 0x18 [] ∧
        slots.Pairwise (· < ·) ∧
        (∀ slot, slot ∈ slots ↔ ∃ o, s.book.at? slot = some o ∧ o.turnout = i ∧ o.state = .pending) ∧
        ∀ slot o, v.book.at? slot = some o → o.turnout = i → o.state ≠ .pending) ∧
      (t.inService = true → exec (.turnoutService i 1) s = s.replies (.turnoutService i 1) 0x18 []) ∧
      (t.inService = false → exec (.turnoutService i 1) s = (served true).replies (.turnoutService i 1) 0x18 []) ∧
      (∀ d, 2 ≤ d → exec (.turnoutService i d) s = s.refuses (.turnoutService i d) 0x18 .badValue) ∧
      ∀ m : Byte,
        let f : ChangeFlags :=
          { rateOver := t.flags.rateOver && !m.getLsbD 0, noisy := t.flags.noisy && !m.getLsbD 1
            unorderedDraw := t.flags.unorderedDraw && !m.getLsbD 2, serviceChanged := t.flags.serviceChanged && !m.getLsbD 3 }
        (m.toNat ≤ 15 → exec (.turnoutAck i m) s =
          ({ s with meters := { s.meters with turnouts := s.meters.turnouts.set i { t with flags := f } } } : State).replies
            (.turnoutAck i m) 0x19 (byte f.code)) ∧
        (15 < m.toNat → exec (.turnoutAck i m) s = s.refuses (.turnoutAck i m) 0x19 .badValue)) ∧
    (present s.settings i = false →
      (∀ d, exec (.turnoutService i d) s = s.refuses (.turnoutService i d) 0x18 .badTurnout) ∧
      ∀ m, exec (.turnoutAck i m) s = s.refuses (.turnoutAck i m) 0x19 .badTurnout)

/-! ## Billing log and season -/

/-- LOG_RELEASE in RUN (R158, R161): the count clamped to the records held, the oldest removed, the read position raised; then the oldest items of the
wait list enter, as many as the log takes, each as R161 gives. An order's record enters as it was made, with the next sequence number, its slot
is freed, and no account is charged. A tally's UNORDERED record is made and charged at that instant to the default account at the active
unordered rate (R152), and the tally is set to 0 and its due mark cleared. LOG_LEVEL is raised when the moves bring the log to its threshold (R159);
every other slot and turnout stays. StepKeepsOrderNumbersDistinct has it that the wait list keeps what the premises say of it (section 9.6). That the
command is served at once while a catch-up step is due is the model's (log 15: DESIGN CHOICE). -/
def Obligations.LogReleaseAndMoves : Prop :=
  ∀ (s : State) (count : Nat), s.running = true →
    s.billing.waitList.Nodup → s.billing.nextSeq < 4294967296 →
    (∀ slot, WaitItem.order slot ∈ s.billing.waitList → ∃ o r, s.book.at? slot = some o ∧ o.record = some r) →
    (∀ i, WaitItem.tally i ∈ s.billing.waitList → i < s.meters.turnouts.length) →
    let c := Instr.logRelease count
    let b := s.billing
    let n := min count b.log.length
    let u := s.releaseLog n
    let left := b.log.length - n
    let k := min b.waitList.length (256 - left)
    let index := fun i : Nat => (configOf s.settings i).account
    let charge := fun i : Nat => roundDiv ((s.turnout i).tally * b.active.unordered) 100000
    exec c s = u.replies c 0x1E
      (toBytes 2 n ++ toBytes 4 u.billing.readPos ++ toBytes 2 u.billing.log.length ++ byte u.billing.waitList.length) ∧
    u.billing.readPos = (b.readPos + n) % 4294967296 ∧ u.billing.log.length = left + k ∧ u.billing.log.take left = b.log.drop n ∧
    u.billing.nextSeq = (b.nextSeq + k) % 4294967296 ∧ u.billing.waitList = b.waitList.drop k ∧
    (∀ j, j < k → ∃ r, u.billing.log[left + j]? = some r ∧ r.seq = (b.nextSeq + j) % 4294967296) ∧
    (∀ j slot o r, j < k → b.waitList[j]? = some (.order slot) → s.book.at? slot = some o → o.record = some r →
      u.billing.log[left + j]? = some { r with seq := (b.nextSeq + j) % 4294967296 } ∧ u.book.at? slot = none) ∧
    (∀ j i, j < k → b.waitList[j]? = some (.tally i) →
      u.turnout i = { s.turnout i with tally := 0, due := false } ∧ u.billing.log[left + j]? = some
        { seq := (b.nextSeq + j) % 4294967296, kind := .unordered, key := s.curKey, account := (b.account (index i)).number
          turnout := i, order := none, granted := none, delivered := (s.turnout i).tally, tiers := none, charge := charge i
          flags := OrderFlags.clear, timeUncertain := decide (s.time.quality ≠ .set) }) ∧
    u.billing.accounts = (b.waitList.take k).foldl (fun xs item => match item with
      | .tally i => xs.set (index i) ((xs.getD (index i) resetAccount).charged (s.turnout i).tally (charge i))
      | .order _ => xs) b.accounts ∧
    (∀ slot, (∀ j : Nat, j < k → b.waitList[j]? ≠ some (.order slot)) → u.book.at? slot = s.book.at? slot) ∧
    (∀ i, (∀ j : Nat, j < k → b.waitList[j]? ≠ some (.tally i)) → u.turnout i = s.turnout i) ∧
    (left < s.settings.alert.logThreshold → s.settings.alert.logThreshold ≤ left + k →
      hasCause u.alerts.pending .logLevel = true) ∧
    u.billing.active = b.active ∧ u.billing.staged = b.staged ∧ u.billing.seasonId = b.seasonId ∧ u.settings = s.settings ∧
    u.planner = s.planner ∧ u.gate = s.gate ∧ u.neigh = s.neigh ∧ u.line = s.line ∧ u.close = s.close ∧ u.time = s.time ∧
    u.startup = s.startup

/-- SEASON_CLOSE in RUN (R165, R152): STATE while an order is live or an item waits, FULL when the log has too few free places for the tallies
above 0; else every such tally, in ascending turnout order, gives its UNORDERED record, charged to the turnout's default account at the active
unordered rate, and is set to 0; then the season totals of every account become 0, its number, allotment and limit kept and its state but for a HOLD
that a charge has set (R154); and the season id rises by one, rolling, and is written into the marker; the reply carries it. That it is served
while a catch-up step is due is the model's (log 15: DESIGN CHOICE). -/
def Obligations.SeasonClose : Prop :=
  ∀ s : State, s.running = true →
    let c := Instr.seasonClose
    let b := s.billing
    let owed := (List.range 16).filter fun i => present s.settings i && decide (0 < (s.turnout i).tally)
    let index := fun i : Nat => (configOf s.settings i).account
    let charge := fun i : Nat => roundDiv ((s.turnout i).tally * b.active.unordered) 100000
    let id := (b.seasonId + 1) % 65536
    ((∃ slot o, s.book.at? slot = some o) ∨ b.waitList ≠ [] → exec c s = s.refuses c 0x21 .state) ∧
    ((∀ slot, s.book.at? slot = none) → b.waitList = [] → 256 < b.log.length + owed.length →
      exec c s = s.refuses c 0x21 .full) ∧
    ((∀ slot, s.book.at? slot = none) → b.waitList = [] → b.log.length + owed.length ≤ 256 → b.nextSeq < 4294967296 →
      ∃ t : State, exec c s = t.replies c 0x21 (toBytes 2 id) ∧
      t = { s with
        billing := t.billing, meters := { s.meters with turnouts := t.meters.turnouts }
        startup := { s.startup with marker := { s.startup.marker with seasonId := id } }
        alerts := { s.alerts with pending := t.alerts.pending } } ∧
      t.billing = { b with
        seasonId := id, nextSeq := (b.nextSeq + owed.length) % 4294967296, log := t.billing.log
        accounts := (owed.foldl (fun xs i => xs.set (index i)
          ((xs.getD (index i) resetAccount).charged (s.turnout i).tally (charge i))) b.accounts).map
            fun a => { a with used := 0, charges := 0 } } ∧
      (∀ (n : Nat) (a : Account), b.accounts[n]? = some a → ∃ a', t.billing.accounts[n]? = some a' ∧
        a' = { a with used := 0, charges := 0, state := a'.state } ∧
        (a'.state = a.state ∨ (a.state = .good ∧ a'.state = .hold ∧ hasCause t.alerts.pending .accountHold = true))) ∧
      t.billing.log.length = b.log.length + owed.length ∧ t.billing.log.take b.log.length = b.log ∧
      (∀ j i : Nat, owed[j]? = some i → t.turnout i = { s.turnout i with tally := 0, due := false } ∧
        t.billing.log[b.log.length + j]? = some
          { seq := (b.nextSeq + j) % 4294967296, kind := .unordered, key := s.curKey, account := (b.account (index i)).number
            turnout := i, order := none, granted := none, delivered := (s.turnout i).tally, tiers := none, charge := charge i
            flags := OrderFlags.clear, timeUncertain := decide (s.time.quality ≠ .set) }) ∧
      ∀ i, i ∉ owed → t.turnout i = s.turnout i)

/-! ## Alerts -/

/-- The pending set and the line (R174, R176): a raise adds its own cause only; a cause persists on the condition of its row of the table of section
10.5, the other causes never; and in WAIT_TIME and RUN the line is asserted exactly while a pending cause of level 3 is in the set, or an
unmasked one at or above the threshold without moderation; in LOADING it is deasserted, in CONFIG_FAULT asserted. -/
def Obligations.AlertSetAndLine : Prop :=
  (∀ (s : State) (c d : Cause), hasCause (s.raise c).alerts.pending d = (hasCause s.alerts.pending d || decide (d = c))) ∧
  (∀ (s : State) (c : Cause), hasCause s.persisting c = s.persists c ∧
    (s.persists c = true ↔
      (c = .gateTrip ∧ ∃ phase, s.gate.drive = .tripped phase) ∨ (c = .gateFault ∧ s.gate.record ≠ .none) ∨
      (c = .timeDegraded ∧ s.time.quality = .degraded) ∨ (c = .neighbourLost ∧ ∃ e ∈ s.neigh.entries, e.state = .lost) ∨
      (c = .levelFault ∧ s.gate.levelFault = true) ∨
      (c = .levelWindow ∧ (s.gate.upHigh = true ∨ s.gate.upLow = true ∨ s.gate.downHigh = true)) ∨
      (c = .reachLoss ∧ s.close.reachLoss = true) ∨ (c = .logFull ∧ s.billing.waitList ≠ []) ∨
      (c = .logLevel ∧ s.settings.alert.logThreshold ≤ s.billing.log.length))) ∧
  ∀ s : State,
    (s.startup.state = .waitTime ∨ s.startup.state = .run →
      (s.alertLine = true ↔ ∃ c : Cause, hasCause s.alerts.pending c = true ∧
        (c.level = 3 ∨ (hasCause s.alerts.masks c = false ∧ s.settings.alert.threshold ≤ c.level ∧
          s.alerts.moderation = none)))) ∧
    (s.startup.state = .loading → s.alertLine = false) ∧ (s.startup.state = .configFault → s.alertLine = true)

/-- ALERT_ACK and ALERT_MASK in RUN (R175, R177, R178) and MODERATION_EXPIRY (R177): marked causes that do not persist become not pending; an acknowledgement
that leaves the line deasserted starts the moderation timer, unless its interval is 0; the mask marks take the values carried but for the two
of level 3; a mark that names no cause is BAD_VALUE; the timer stops at its interval. -/
def Obligations.AlertCommandEffects : Prop :=
  (∀ (s : State) (marks : BitVec 24), s.running = true →
    let ack := Instr.alertAck marks
    let mask := Instr.alertMask marks
    let m := marks.setWidth 17
    let u := s.acknowledge m
    let moderation := if u.alertLine = true ∨ s.settings.alert.moderation = 0 then s.alerts.moderation else some s.time.elapsed
    let t : State := { s with alerts := { u.alerts with moderation := moderation } }
    let m' := clearLevel3 m
    (marks.toNat < 2 ^ 17 →
      exec ack s = t.replies ack 0x1F (toBytes 3 u.alerts.pending.toNat) ∧ u.alerts.masks = s.alerts.masks ∧
      (∀ c : Cause, hasCause u.alerts.pending c =
        (hasCause s.alerts.pending c && (!marks.getLsbD c.place || s.persists c))) ∧
      exec mask s = ({ s with alerts := { s.alerts with masks := m' } } : State).replies mask 0x20 (toBytes 3 m'.toNat) ∧
      ∀ c : Cause, hasCause m' c = (marks.getLsbD c.place && c != .gateTrip && c != .gateFault)) ∧
    (2 ^ 17 ≤ marks.toNat → exec ack s = s.refuses ack 0x1F .badValue ∧ exec mask s = s.refuses mask 0x20 .badValue)) ∧
  ∀ (s : State) (x : Nat), s.working = true → s.alerts.moderation = some x →
    x + s.settings.alert.moderation * 1000 ≤ s.time.elapsed →
    exec .moderationExpiry s = .next { s with alerts := { s.alerts with moderation := none } }

/-! ## Time Base -/

/-- TIME_SET (R9, R10, R11): out of range it is BAD_VALUE; in WAIT_TIME it sets time, quality, the retained key, the backup clock, the time-set mark and the first
current key of every block, and enters RUN; in RUN it is refused before the start of the current period and, in SET quality, for a move of more
than 30 000 ms; else it sets time and quality and issues the events of the periods crossed, and the current key does not fall. The premise
that no catch-up is due is the model's order (log 15: DESIGN CHOICE). The entry to RUN (R11, R51, R88) starts the notice timer from 0, makes a REACH
request, which wakes a transmitter that is quiet with no holdoff, and recomputes (their order: log 15, DESIGN CHOICE). That a first TIME_SET leaves
the gate, and so the sample watch, as it was at the entry to RUN, is the model's (log 24: DEDUCED). -/
def Obligations.TimeSet : Prop :=
  (∀ u : State, u.running = true →
    let asked := { u.line with noticeTimer := some u.time.elapsed, reachReq := true }
    let line := if u.line.tx = .quiet ∧ u.line.holdoff = none then { asked with tx := .gap } else asked
    let t := u.enterRun
    t = ({ u with line := line } : State).recompute ∧ t.planner.results = some u.computePlan ∧
      t.line.noticeTimer = some u.time.elapsed ∧ t.line.reachReq = true) ∧
  ∀ (s : State) (day minute second ms : Nat), s.working = true → permittedLength s.settings.periodLength →
    s.time.time.Valid → day ≤ 65535 →
    let c := Instr.timeSet day minute second ms
    let nt : DistrictTime := { day := day, minute := minute, second := second, ms := ms }
    let key := nt.key s.settings.periodLength
    let quality : Config.Quality := if s.time.source = .main then .set else .degraded
    let inRange := minute ≤ 1439 ∧ second ≤ 59 ∧ ms ≤ 999
    let start := (periodStart s.settings.periodLength s.curKey).toMs
    (¬inRange → exec c s = s.refuses c 0x10 .badValue) ∧
    (inRange → s.startup.state = .waitTime →
      exec c s = ({ s with
        startup := { s.startup with state := .run, marker := { s.startup.marker with timeSet := true } }
        time := { s.time with time := nt, quality := quality, counting := true, retainedKey := key, backup := nt.toBackup }
        book := { s.book with bookKey := key }
        planner := { s.planner with planKey := key }
        close := { s.close with openKey := key, openLevel := s.gate.hD } } : State).enterRun.replies c 0x10 []) ∧
    (inRange → s.startup.state = .run →
      nt.toMs < start ∨ (s.time.quality = .set ∧ (s.time.time.toMs + 30000 < nt.toMs ∨ nt.toMs + 30000 < s.time.time.toMs)) →
      exec c s = s.refuses c 0x10 .badValue) ∧
    (inRange → s.startup.state = .run → s.startup.catchUpDue = false → start ≤ nt.toMs →
      (s.time.quality = .set → nt.toMs ≤ s.time.time.toMs + 30000 ∧ s.time.time.toMs ≤ nt.toMs + 30000) →
      exec c s = ({ s with
        time := { s.time with time := nt, quality := quality, retainedKey := key, backup := nt.toBackup }
        inbox := if s.curKey < key then s.inbox.issue s.settings.periodLength s.curKey key else s.inbox } : State).replies c 0x10 [] ∧
      s.curKey ≤ key)

/-- TIME_TRIM in RUN (R12): always OK; the value clamped to 2 s either way moves district time by whole seconds, not before the start of the current
period; 0 changes nothing; otherwise the backup clock and the retained key are written and a boundary is issued when the key rises; quality and
source stay. At the last value of R1 time stays there. The premise that no catch-up is due is the model's order (log 15: DESIGN CHOICE). -/
def Obligations.TimeTrim : Prop :=
  ∀ (s : State) (x : Int), s.running = true → s.startup.catchUpDue = false → permittedLength s.settings.periodLength →
    s.time.time.Valid →
    let c := Instr.timeTrim x
    let nt := s.trimmedTime x
    let start := (periodStart s.settings.periodLength s.curKey).toMs
    let moved : Int := s.time.time.toMs + max (-2) (min 2 x) * 1000
    let key := nt.key s.settings.periodLength
    (x = 0 → exec c s = s.replies c 0x11 []) ∧
    (x ≠ 0 →
      exec c s = ({ s with
        time := { s.time with time := nt, retainedKey := key, backup := nt.toBackup }
        inbox := if s.curKey < key then s.inbox.issue s.settings.periodLength s.curKey key else s.inbox } : State).replies c 0x11 []) ∧
    nt.Valid ∧ (nt.toMs : Int) = min (lastTime.toMs : Int) (max (start : Int) moved) ∧ s.curKey ≤ key ∧ key ≤ s.curKey + 1

/-- The other clock events: CATCH_UP (R14), PERIOD_BOUNDARY (R2, R3, R8), CRYSTAL_STOP and CRYSTAL_RUNNING (R6, R7, R15). A period event goes to every
block that keeps per-period state, and a day close goes with it exactly when a day start is crossed. That the two crystal rows are the ends of
their watches is the model's (log 26: DESIGN CHOICE). -/
def Obligations.ClockEvents : Prop :=
  (∀ s : State, s.running = true → s.startup.catchUpDue = true →
    exec .catchUp s = .next { s with
      startup := { s.startup with catchUpDue := false }
      time := { s.time with retainedKey := s.curKey, backup := s.time.time.toBackup }
      inbox := if s.time.retainedKey < s.curKey
        then s.inbox.issue s.settings.periodLength s.time.retainedKey s.curKey else s.inbox }) ∧
  (∀ s : State, s.running = true → s.time.counting = true → s.startup.catchUpDue = false →
    let nt := s.time.time.tick
    let key := nt.key s.settings.periodLength
    s.curKey < key →
    exec .periodBoundary s = .next { s with
      time := { s.time with time := nt, retainedKey := key, backup := nt.toBackup, elapsed := s.time.elapsed + 1 }
      line := s.line.tick s.settings.line.rate
      inbox := s.inbox.issue s.settings.periodLength s.curKey key }) ∧
  (∀ (b : Inbox) (plen old new : Nat),
    let e : PeriodEvent := { oldKey := old, newKey := new }
    let n := 1440 / plen
    b.issue plen old new = { planner := b.planner ++ [e], gate := b.gate ++ [e], meter := b.meter ++ [e], close := b.close ++ [e]
                             billing := if old / n = new / n then b.billing
                               else b.billing ++ [{ closedDay := old / n, newDay := new / n, newKey := new }] }) ∧
  ∀ s : State, s.startup.powered = true →
    (s.working = true → exec .crystalStop s = .next (({ s with
      time := { s.time with crystal := false, source := .internal, quality := .degraded } } : State).raise .timeDegraded)) ∧
    (s.working = false → exec .crystalStop s = .next { s with time := { s.time with crystal := false, source := .internal } }) ∧
    exec .crystalRunning s = .next { s with time := { s.time with crystal := true, source := .main } }

/-! ## Start-up -/

/-- RESTART and NOTICE_NOW in RUN (R186, R50), and REPLY_SENT (R169, R170): RESTART is answered OK and changes nothing yet; NOTICE_NOW makes a REACH request,
which wakes a quiet transmitter outside the holdoff; the last character of a reply frees the entry of its command, and after the OK of a
RESTART the part enters LOADING. That REPLY_SENT frees the entry by the mark of its reply, and takes no further command itself, is the model's
(log 10: DESIGN CHOICE). -/
def Obligations.RestartNoticeAndReplySent : Prop :=
  (∀ s : State, s.running = true →
    let line := { s.line with reachReq := true }
    exec .restart s = s.replies .restart 0x22 [] ∧
    exec .noticeNow s = ({ s with
      line := if s.line.tx = .quiet ∧ s.line.holdoff = none then { line with tx := .gap } else line } : State).replies
        .noticeNow 0x23 []) ∧
  ∀ (s : State) (r : Reply), s.link.reply = some r →
    let t : State := { s with link := { s.link with
      reply := none, buffer := if r.entry = true then s.link.buffer.drop 1 else s.link.buffer } }
    (¬(r.kind = 0x22 ∧ r.result = .ok) → exec .replySent s = .next t) ∧
    (r.kind = 0x22 ∧ r.result = .ok → exec .replySent s = .next t.enterLoading)

/-- The link load (R180, R181): CONFIG_DATA in a link load or in CONFIG_FAULT places its bytes from the offset on; from CONFIG_FAULT the part enters
LOADING with source LINK, and that entry empties the input buffer and clears the overrun mark (R170). An offset above the count, bytes past
8 192 or a size outside 1 to 512 are BAD_VALUE. A command that empties the buffer frees its own entry and is still answered (log 10: DESIGN
CHOICE). CONFIG_END checks the bytes and carries the failing section or the kind of start; both are STATE in
LOADING from MEMORY. The refusal of a size is the model's, and so is that CONFIG_END in CONFIG_FAULT before any CONFIG_DATA checks no bytes (log 18:
DEDUCED), and so is the layout of the four bytes that CONFIG_END's reply
carries, two optional values, HEADER sent as 0 (log 11: DESIGN CHOICE). -/
def Obligations.LinkLoad : Prop :=
  ∀ s : State, s.startup.powered = true → s.startup.state = .loading ∨ s.startup.state = .configFault →
    let u := s.startup
    let link := if u.state = .loading then s.link
      else { s.link with arrived := [], buffer := [], overrun := false, reply := none }
    (∀ (offset : Nat) (bytes : List Byte), let c := Instr.configData offset bytes
      (u.state = .loading ∧ u.source = .memory → exec c s = s.refuses c 0x30 .state) ∧
      (¬(u.state = .loading ∧ u.source = .memory) →
        (offset ≤ u.image.length → offset + bytes.length ≤ 8192 → 1 ≤ bytes.length → bytes.length ≤ 512 →
          exec c s = ({ s with link := link, startup := { u with
            state := .loading, source := .link, failing := none, image := u.image.take offset ++ bytes } } : State).replies
              c 0x30 []) ∧
        (u.image.length < offset ∨ 8192 < offset + bytes.length ∨ bytes.length = 0 ∨ 512 < bytes.length →
          exec c s = s.refuses c 0x30 .badValue))) ∧
    (u.state = .loading ∧ u.source = .memory → exec .configEnd s = s.refuses .configEnd 0x31 .state) ∧
    (¬(u.state = .loading ∧ u.source = .memory) →
      (∀ x, imageFailure u.image = some x → exec .configEnd s =
        ({ s with startup := { u with state := .configFault, failing := some x, image := [] } } : State).replies .configEnd 0x31
          [1, BitVec.ofNat 8 x.identifier, 0, 0]) ∧
      (imageFailure u.image = none → exec .configEnd s =
        (s.startWith (readImage u.image)).replies .configEnd 0x31
          [0, 0, 1, if s.startKind (readImage u.image) = .cold then 0 else 1]))

/-- RESET_RELEASE and SUPPLY_LOSS (R179, R180, R182, section 11.3): the straps are latched and choose the source; the part is in LOADING with a load at offset 0, the
drive outputs off, the line silent, counting stopped, the alert set, the buffer and the reply gone; and every retained item stays. A backup cell
that failed leaves the marker INVALID (R183). That a loss of supply is an event with a mark of its own, that the kind of the last start stays, and that a part frame
of the station link is dropped is the model's (log 6: DESIGN CHOICE, log 7: DESIGN CHOICE, log 27: DESIGN CHOICE). -/
def Obligations.ResetAndSupplyLoss : Prop :=
  ∀ (s : State) (start : BitVec 2) (forceCold held : Bool),
    let kept := fun t : State =>
      t.book = s.book ∧ t.billing = s.billing ∧ t.settings = s.settings ∧ t.pending = s.pending ∧
      t.neigh.watchEnd = s.neigh.watchEnd ∧ t.time.retainedKey = s.time.retainedKey ∧ t.time.backup = s.time.backup ∧
      t.gate.counts = s.gate.counts ∧ t.gate.suspect = s.gate.suspect ∧
      (∀ (i : Nat) (x : Turnout), s.meters.turnouts[i]? = some x → ∃ y : Turnout, t.meters.turnouts[i]? = some y ∧
        y.inService = x.inService ∧ y.tally = x.tally ∧ y.due = x.due) ∧
      t.startup.state = .loading ∧ t.startup.failing = none ∧ t.startup.image = [] ∧ t.startup.lastStart = s.startup.lastStart ∧
      t.time.counting = false ∧ t.line.tx = .quiet ∧ t.line.rx = .off ∧ t.gate.drive.on = false ∧ t.alerts.pending = 0 ∧
      t.link.buffer = [] ∧ t.link.reply = none ∧ t.link.overrun = false ∧ t.link.rx = .hunt ∧ t.inbox = resetInbox
    (∃ t, exec (.resetRelease start forceCold held) s = .next t ∧ kept t ∧ t.startup.powered = true ∧ t.startup.start = start ∧
      t.startup.forceCold = forceCold ∧ t.startup.source = (if start = 0 ∨ start = 2 then .memory else .link) ∧
      t.startup.marker = { s.startup.marker with valid := s.startup.marker.valid && held }) ∧
    ∃ t, exec .supplyLoss s = .next t ∧ kept t ∧ t.startup.powered = false ∧ t.startup.marker = s.startup.marker

/-- IMAGE_READ_COMPLETE in LOADING from MEMORY (R180, R181): the bytes of the header's length are checked; a good image starts the part, a bad one waits for a
link load with START 10 and else leaves CONFIG_FAULT with its section, the retained state untouched. The check takes the header first, by its
length, check and format version, then the ten sections in their order, and the first failure names its section. The layout and the ranges of the
ten sections, and the setting that each field gives, are stated byte by byte (R193, R52, R116, R144). The start is cold exactly on the grounds of R183. That an image longer than its
sections passes (log 29: DESIGN CHOICE), that in the rates section the four classes of one rate stand together, tier 1 at 1070, tier 2 at 1078 and
unused at 1086 (log 11: DESIGN CHOICE), and that a byte coded 0 or 1 and the mask marks fail their section above their values while the mask marks
of GATE_TRIP and GATE_FAULT are read as clear (log 17: PRESUMED), is the model's. -/
def Obligations.ImageOutcome : Prop :=
  (∀ (s : State) (image : List Byte), s.startup.powered = true → s.startup.state = .loading → s.startup.source = .memory →
    let b := image.take (headerLength image)
    (imageFailure b = none → exec (.imageReadComplete image) s = .next (s.startWith (readImage b))) ∧
    (∀ x, imageFailure b = some x → s.startup.start = 2 →
      exec (.imageReadComplete image) s = .next { s with startup := { s.startup with source := .link, image := [] } }) ∧
    (∀ x, imageFailure b = some x → s.startup.start ≠ 2 → exec (.imageReadComplete image) s =
      .next { s with startup := { s.startup with state := .configFault, failing := some x, image := [] } })) ∧
  (∀ b : List Byte,
    let header := 8 ≤ b.length ∧ b.length ≤ 8192 ∧ fieldAt b 6 2 = b.length ∧ crcBytes (b.drop 2) = b.take 2 ∧ fieldAt b 2 1 = 1
    let inOrder : List ImageSection :=
      [.station, .time, .line, .neighbours, .reachAndGate, .levelsAndControl, .turnouts, .accounts, .rates, .alertSettings]
    let passes := fun x : ImageSection => x.fits b = true ∧ x.good b = true
    (¬header → imageFailure b = some .header) ∧
    (header → (∀ x ∈ inOrder, passes x) → imageFailure b = none) ∧
    ∀ (n : Nat) (x : ImageSection), header → inOrder[n]? = some x → ¬passes x →
      (∀ (m : Nat) (y : ImageSection), m < n → inOrder[m]? = some y → passes y) → imageFailure b = some x) ∧
  (∀ b : List Byte,
    let v := fieldAt b
    let lies := fun lo x hi : Nat => lo ≤ x ∧ x ≤ hi
    let layout : List (ImageSection × Nat × Nat × Nat) :=
      [(.station, 8, 1, 5), (.time, 16, 2, 1), (.line, 20, 3, 5), (.neighbours, 28, 4, 16), (.reachAndGate, 47, 5, 24),
       (.levelsAndControl, 74, 6, 24), (.turnouts, 101, 7, 192), (.accounts, 296, 8, 768), (.rates, 1067, 9, 34),
       (.alertSettings, 1104, 10, 7)]
    (∀ x start id size, (x, start, id, size) ∈ layout →
      (x.fits b = true ↔ v start 1 = id ∧ v (start + 1) 2 = size ∧ start + 3 + size ≤ b.length)) ∧
    (ImageSection.station.good b = true ↔
      lies 1 (v 11 1) 250 ∧ v 11 1 = v 5 1 ∧ v 12 1 ≤ 144 ∧ lies 1 (v 13 2) 4032 ∧ v 15 1 ≤ 144) ∧
    (ImageSection.time.good b = true ↔ permittedLength (v 19 1)) ∧
    (ImageSection.line.good b = true ↔ v 23 1 ≤ 2 ∧ lies 5 (v 24 1) 60 ∧ lies 20 (v 25 1) 120 ∧ lies 5 (v 26 2) 500) ∧
    (ImageSection.neighbours.good b = true ↔
      let number := fun j : Nat => v (33 + 4 * j) 1
      v 31 1 ≤ 250 ∧ v 32 1 ≤ 3 ∧ lies 60 (v 45 2) 600 ∧ (v 31 1 = 0 ∨ v 31 1 ≠ v 11 1) ∧
      ∀ j, j < v 32 1 → lies 1 (number j) 250 ∧ v (34 + 4 * j) 1 ≤ 8 ∧ v (35 + 4 * j) 2 ≤ 32000 ∧ number j ≠ v 11 1 ∧
        number j ≠ v 31 1 ∧ ∀ i, i < j → number i ≠ number j) ∧
    (ImageSection.reachAndGate.good b = true ↔
      v 50 2 ≤ 32000 ∧ v 52 2 ≤ 2000 ∧ v 54 2 ≤ 32000 ∧ v 56 2 ≤ 32000 ∧ lies 100 (v 58 4) 500000 ∧ v 62 4 ≤ 10000000 ∧
      lies 500 (v 66 2) 750 ∧ lies 300 (v 68 2) 6000 ∧ lies 100 (v 70 2) 2000 ∧ lies 50 (v 72 2) 5000) ∧
    (ImageSection.levelsAndControl.good b = true ↔
      v 77 2 ≤ 4000 ∧ v 79 1 ≤ 50 ∧ v 80 1 ≤ 100 ∧ v 81 2 ≤ 2000 ∧ v 83 2 ≤ 4000 ∧ lies 10 (v 85 1) 200 ∧ lies 5 (v 86 2) 500 ∧
      lies 5 (v 88 1) 100 ∧ lies 1 (v 89 1) 30 ∧ lies 2 (v 90 1) 60 ∧ lies 1 (v 91 1) 10 ∧ v 92 2 ≤ 4000 ∧ v 94 2 ≤ 4000 ∧
      v 96 1 ≤ 1 ∧ v 97 1 ≤ 2 ∧ v 98 2 ≤ 2000 ∧ v 100 1 ≤ 1) ∧
    (ImageSection.turnouts.good b = true ↔ ∀ i, i < 16 →
      let o := 104 + 12 * i
      v o 1 ≤ 1 ∧ (v o 1 = 1 → v (o + 1) 1 ≤ 1 ∧ v (o + 2) 1 ≤ 63 ∧ v (299 + 12 * v (o + 2) 1) 3 ≠ 0 ∧ v (o + 3) 2 ≤ 32000 ∧
        lies 1 (v (o + 5) 2) 1000 ∧ v (o + 7) 1 ≤ 8 ∧ lies 10 (v (o + 8) 2) 5000 ∧ lies 5 (v (o + 10) 2) 600)) ∧
    (ImageSection.accounts.good b = true ↔ ∀ i, i < 64 →
      let o := 299 + 12 * i
      v (o + 3) 4 ≤ 4000000 ∧ v (o + 11) 1 ≤ 2 ∧ ∀ j, j < i → v o 3 ≠ 0 → v (299 + 12 * j) 3 ≠ v o 3) ∧
    (ImageSection.rates.good b = true ↔ v 1096 4 ≤ 1000000 ∧ v 1100 4 ≤ 1000000) ∧
    (ImageSection.alertSettings.good b = true ↔
      v 1107 1 ≤ 3 ∧ v 1108 3 < 131072 ∧ v 1111 1 ≤ 60 ∧ lies 1 (v 1112 2) 256)) ∧
  (∀ b : List Byte,
    let v := fieldAt b
    let four := fun o : Nat => ({ c1 := v o 2, c2 := v (o + 2) 2, c3 := v (o + 4) 2, c4 := v (o + 6) 2 } : ByClass)
    let m := readImage b
    let c := m.settings
    m.seasonId = v 3 2 ∧ c.station = { number := v 11 1, minNotice := v 12 1, horizon := v 13 2, lockTime := v 15 1 } ∧
    c.periodLength = v 19 1 ∧
    c.line = { rate := if v 23 1 = 0 then 4800 else if v 23 1 = 1 then 9600 else 19200
               holdoff := v 24 1, noticeInterval := v 25 1, changeThreshold := v 26 2 } ∧
    c.neighbours = { upstream := v 31 1, holdTime := v 45 2, downstream := (List.range (min (v 32 1) 3)).map fun j =>
      { station := v (33 + 4 * j) 1, tau := v (34 + 4 * j) 1, lostFlow := v (35 + 4 * j) 2 } } ∧
    c.reach = { cap := v 50 2, loss := v 52 2, fallback := v 54 2, reachCapacity := v 56 2, poolArea := v 58 4, lossTolerance := v 62 4
                cd := v 66 2, width := v 68 2, aMax := v 70 2, encoder := v 72 2 } ∧
    c.levels = { target := v 77 2, deadZone := v 79 1, gain := v 80 1, correctionLimit := v 81 2, minimum := v 83 2
                 hysteresis := v 85 1, guardStep := v 86 2, deadband := v 88 1, restTime := v 89 1, stallTime := v 90 1
                 sampleInterval := v 91 1, upHigh := v 92 2, downHigh := v 94 2, levelTrip := decide (v 96 1 = 1)
                 tripAction := if v 97 1 = 0 then .hold else if v 97 1 = 1 then .close else .openTo
                 tripOpening := v 98 2, autoResume := decide (v 100 1 = 1) } ∧
    c.turnouts.length = 16 ∧ (∀ i, i < 16 → let o := 104 + 12 * i
      c.turnouts[i]? = some { present := decide (v o 1 = 1), inService := decide (v (o + 1) 1 = 1), account := v (o + 2) 1
                              capacity := v (o + 3) 2, litres := v (o + 5) 2, tau := v (o + 7) 1, spacing := v (o + 8) 2
                              noFlow := v (o + 10) 2 }) ∧
    m.accounts.length = 64 ∧ (∀ i, i < 64 → let o := 299 + 12 * i
      m.accounts[i]? = some { number := v o 3, allotment := v (o + 3) 4, limit := v (o + 7) 4, used := 0, charges := 0
                              state := if v (o + 11) 1 = 1 then .hold else if v (o + 11) 1 = 2 then .closed else .good }) ∧
    m.rates = { tier1 := four 1070, tier2 := four 1078, unused := four 1086, unordered := v 1094 2, callOut := v 1096 4
                lateCancel := v 1100 4 } ∧
    c.alert = { threshold := v 1107 1, masks := clearLevel3 (BitVec.ofNat 17 (v 1108 3)), moderation := v 1111 1
                logThreshold := v 1112 2 }) ∧
  ∀ (s : State) (m : Image), let k := s.startup.marker
    (s.startKind m = .cold ↔
      s.startup.forceCold = true ∨ k.valid = false ∨ k.seasonId ≠ m.seasonId ∨ k.station ≠ m.settings.station.number ∨
      k.periodLength ≠ m.settings.periodLength ∨ k.timeSet = false ∨
      (∃ slot o, s.book.at? slot = some o ∧ present m.settings o.turnout = false) ∨
      (∃ i, i < 16 ∧ present m.settings i = false ∧ (0 < (s.turnout i).tally ∨ WaitItem.tally i ∈ s.billing.waitList))) ∧
    s.startWith m = if s.startKind m = .cold then s.coldStart m else s.warmStart m

/-- What the two kinds of start leave (R184, R185, R13, R14, R36, R37, R51, R66, R88, R89, R114, R128, R141, R144, R174): a cold start clears the retained collections,
loads the image's values and waits for time; a warm start keeps them, every order with its record but for the open grants that the first recompute
writes, takes time from the backup clock and runs, with the catch-up step to come. Both load the settings and leave the drive outputs off, and the
alert set then holds the start cause and what the blocks raise at the start: TIME_DEGRADED, GATE_FAULT for both limits, GATE_TRIP for an active
TRIP input, and at a warm start GRANT_CHANGED by the first recompute. The drive is RESTING with its rest timer from 0; or FAULT with record LIMITS
where both limit inputs are active; or, whatever the limits, TRIPPED in WAITING where the TRIP input is. The encoder counts are 0 at a cold start and kept at
a warm one, POSITION_SUSPECT set. That an active limit input then acts on counts and POSITION_SUSPECT as if it had just become active, and that the
opening target is the position after it, is log 24 (DEDUCED); the order of two together is log 30 (DESIGN CHOICE). That source and quality follow the last of the crystal rows is log 26 (DESIGN
CHOICE), and that an absent turnout's in-service byte is retained is log 31 (DESIGN CHOICE). -/
def Obligations.ColdAndWarmStart : Prop :=
  ∀ (s : State) (m : Image), s.startup.powered = true →
    let c := m.settings
    let source : ClockSource := if s.time.crystal = true then .main else .internal
    let quality : Config.Quality := if s.time.crystal = true then .free else .degraded
    let limits := s.gate.limClosed = true ∧ s.gate.limOpen = true
    let rests := fun g : Gate =>
      (s.gate.tripIn = true → g.drive = .tripped .waiting ∧ g.restStart = some 0) ∧
      (s.gate.tripIn = false → limits → g.drive = .fault ∧ g.restStart = none) ∧
      (s.gate.tripIn = false → ¬limits → g.drive = .resting ∧ g.restStart = some 0) ∧
      g.record = (if limits then .limits else .none) ∧ g.stallStart = none ∧ g.sampleWatch = some 0 ∧
      g.suspect = (!s.gate.limClosed) ∧ g.limClosed = s.gate.limClosed ∧ g.limOpen = s.gate.limOpen ∧ g.tripIn = s.gate.tripIn ∧
      g.supplyLow = s.gate.supplyLow ∧ g.window = [] ∧ g.lastU = 0 ∧ g.lastD = 0 ∧ g.missed = 0 ∧ g.levelFault = false ∧
      g.flow = 0 ∧ g.regime = none ∧ g.reverseHead = false ∧ g.saturated = false ∧ g.upHigh = false ∧ g.upLow = false ∧
      g.downHigh = false ∧ g.volume = 0 ∧ g.closed = none ∧ g.mode = .auto ∧ g.manual = 0
    let counted := fun kept : Nat => if s.gate.limOpen = true then (c.reach.aMax * 1000 + c.reach.encoder - 1) / c.reach.encoder
      else if s.gate.limClosed = true then 0 else kept
    let both := fun t : State =>
      t.settings = c ∧ t.pending = s.pending ∧ t.inbox = resetInbox ∧ t.time.elapsed = 0 ∧ t.time.source = source ∧
      t.time.quality = quality ∧ t.startup.failing = none ∧ t.startup.image = [] ∧ t.alerts.masks = c.alert.masks ∧
      t.alerts.moderation = none ∧ t.gate.drive.on = false ∧ rests t.gate ∧
      t.planner.staged = none ∧ t.planner.correction = 0 ∧
      t.planner.guardCut = 0 ∧ t.planner.target = c.levels.target ∧ t.planner.headSupply = c.reach.fallback ∧
      t.close.history = [] ∧ t.close.queue = [] ∧ t.close.openLevel = none ∧ t.line.rx = .hunt ∧ t.line.lastSent = none ∧
      t.link.buffer = [] ∧ t.link.reply = none ∧ t.neigh.entries = formEntries c.neighbours
    let raised := fun x : Cause =>
      (x = .timeDegraded ∧ s.time.crystal = false) ∨ (x = .gateFault ∧ s.gate.limClosed = true ∧ s.gate.limOpen = true) ∨
        (x = .gateTrip ∧ s.gate.tripIn = true)
    let cold := s.coldStart m
    let warm := s.warmStart m
    (both cold ∧ cold.startup.state = .waitTime ∧ cold.startup.lastStart = some .cold ∧ cold.startup.catchUpDue = false ∧
      cold.startup.marker = { valid := true, seasonId := m.seasonId, station := c.station.number,
                              periodLength := c.periodLength, timeSet := false } ∧
      cold.time.counting = false ∧ cold.time.retainedKey = 0 ∧ cold.time.time = { day := 0, minute := 0, second := 0, ms := 0 } ∧
      cold.book = { slots := List.replicate 48 none, bookKey := 0 } ∧ cold.neigh.watchEnd = 0 ∧ cold.planner.results = none ∧
      cold.planner.planKey = 0 ∧ cold.close.openKey = 0 ∧ cold.line.tx = .quiet ∧
      cold.meters.turnouts = c.turnouts.map (fun x => { resetTurnout with inService := x.inService }) ∧
      cold.billing = { accounts := m.accounts, active := m.rates, staged := none, log := [], nextSeq := 0, readPos := 0,
                       waitList := [], seasonId := m.seasonId } ∧
      cold.gate.counts = counted 0 ∧ cold.gate.volumeEst = false ∧ cold.gate.inHand = none ∧ cold.gate.lastUsed = none ∧
      cold.gate.target = cold.gate.position c ∧
      ∀ x : Cause, hasCause cold.alerts.pending x = true ↔ x = .coldStart ∨ raised x) ∧
    both warm ∧ warm.startup.state = .run ∧ warm.startup.lastStart = some .warm ∧ warm.startup.catchUpDue = true ∧
      warm.startup.marker = s.startup.marker ∧ warm.time.counting = true ∧ warm.time.retainedKey = s.time.retainedKey ∧
      warm.time.time = (if s.time.backup.toTime.key c.periodLength < s.time.retainedKey
        then periodStart c.periodLength s.time.retainedKey else s.time.backup.toTime) ∧
      warm.book.bookKey = s.book.bookKey ∧ warm.book.slots.length = s.book.slots.length ∧
      (∀ slot, s.book.at? slot = none → warm.book.at? slot = none) ∧
      (∀ slot o, s.book.at? slot = some o → ∃ o', warm.book.at? slot = some o' ∧
        o' = { o with grants := o'.grants, floor := o'.floor } ∧ o'.grants.length = o.grants.length ∧
        o'.floor = (if o'.entry0 = o.entry0 then o.floor else min o.floor o'.entry0) ∧ (o.state = .closedUnbilled → o' = o) ∧
        ∀ (i : Nat) (e : GrantEntry), o.grants[i]? = some e → e.frozen = true → o'.grants[i]? = some e) ∧
      warm.neigh.watchEnd = s.neigh.watchEnd ∧ warm.planner.results.isSome = true ∧
      warm.planner.planKey = s.time.retainedKey ∧ warm.close.openKey = s.time.retainedKey ∧ warm.line.tx = .gap ∧
      warm.line.reachReq = true ∧ warm.line.noticeTimer = some 0 ∧ warm.billing = s.billing ∧
      (∀ (i : Nat) (x : Turnout), s.meters.turnouts[i]? = some x → warm.meters.turnouts[i]? = some
        { resetTurnout with inService := x.inService, tally := x.tally, due := x.due, estimated := present c i }) ∧
      warm.gate.counts = counted s.gate.counts ∧ warm.gate.volumeEst = true ∧
      warm.gate.inHand = some ((warm.planner.results.map fun r => r.release.target).getD 0) ∧
      ∀ x : Cause, hasCause warm.alerts.pending x = true ↔ x = .warmStart ∨ raised x ∨
        (x = .grantChanged ∧ ∃ slot o o', s.book.at? slot = some o ∧ warm.book.at? slot = some o' ∧ o.state = .active ∧
          o.entry0 ≠ o'.entry0)

/-! ## Period events -/

/-- PLAN_PERIOD_CHANGE (R68, R82, R85, R86, R87): the Planner takes the oldest event; a staged target takes effect, the correction and the guard cut are
computed afresh, the plan key becomes the new key, the downstream schedules shift and freeze, and it recomputes; an event whose key is not
above the plan key is discarded. -/
def Obligations.PlanPeriodChange : Prop :=
  ∀ (s : State) (e : PeriodEvent) (rest : List PeriodEvent), s.running = true → s.inbox.planner = e :: rest →
    let u : State := { s with inbox := { s.inbox with planner := rest } }
    let p := s.planner
    let lv := s.settings.levels
    let target := p.staged.getD p.target
    let err := fun level : Nat => (target : Int) - level
    (e.newKey ≤ p.planKey → exec .planPeriodChange s = .next u) ∧
    (p.planKey < e.newKey → ∃ t v : State, exec .planPeriodChange s = .next t ∧ t = v.recompute ∧
      v = { u with planner := v.planner } ∧
      v.planner = { p with planKey := e.newKey, target := target, staged := none, correction := v.planner.correction,
                           guardCut := v.planner.guardCut, schedules := v.planner.schedules } ∧
      t.planner.results = some v.computePlan ∧
      (isTail s.settings = true ∨ s.neigh.controlledLevel = none → v.planner.correction = 0) ∧
      (∀ level, isTail s.settings = false → s.neigh.controlledLevel = some level →
        ((err level).natAbs ≤ lv.deadZone → v.planner.correction = 0) ∧
        (lv.deadZone < (err level).natAbs → v.planner.correction =
          max (-(lv.correctionLimit : Int)) (min lv.correctionLimit ((lv.gain * err level).tdiv 10)))) ∧
      (s.gate.hU = none → v.planner.guardCut = p.guardCut) ∧
      (∀ h, s.gate.hU = some h →
        (h < lv.minimum → v.planner.guardCut = min (p.guardCut + lv.guardStep) 32000) ∧
        (lv.minimum ≤ h → h ≤ lv.minimum + lv.hysteresis → v.planner.guardCut = p.guardCut) ∧
        (lv.minimum + lv.hysteresis < h → v.planner.guardCut = p.guardCut - lv.guardStep)) ∧
      ∀ (j i : Nat) (es : List DownEntry), p.schedules[j]? = some es → es.length = 20 → i < 20 →
        ∃ es', v.planner.schedules[j]? = some es' ∧ es'[i]? = some
          { value := (es[i + (e.newKey - p.planKey)]?).bind DownEntry.value
            frozen := ((es[i + (e.newKey - p.planKey)]?).map DownEntry.frozen).getD false ||
              decide (i < (s.settings.neighbours.downstream.getD j default).tau) })

/-- GATE_PERIOD_BOUNDARY and METER_PERIOD_CLOSE (R97, R101, R112, R123, R124): the accumulator and every present turnout's meter period are closed
under the ended key, each key once; in AUTO an opening target is computed (R102) and the drive acts on it (R105, R106); auto-resume ends a trip
whose causes are gone; and a turnout that has overdrawn through the whole period gets RATE_OVER, with OVERDRAW (R122). That they wait for
earlier records to be taken is the model's (log 14: DESIGN CHOICE). -/
def Obligations.GateAndMeterPeriods : Prop :=
  (∀ (s : State) (e : PeriodEvent) (rest : List PeriodEvent), s.running = true → s.inbox.gate = e :: rest →
    e.oldKey ≤ s.close.openKey →
    let g := s.gate
    let c := s.settings
    let now := s.time.elapsed
    let again := ∃ p, g.closed = some p ∧ e.oldKey ≤ p.key
    let resumes := c.levels.autoResume = true ∧ g.drive.isTripped = true ∧ g.tripIn = false ∧
      (c.levels.levelTrip = true → ∃ u, g.hU = some u ∧ u < c.levels.upHigh)
    ∃ a b t : Gate, exec .gatePeriodBoundary s = .next { s with inbox := { s.inbox with gate := rest }, gate := t } ∧
      (again → a = g) ∧
      (¬again → a = { g with
        closed := some { key := e.oldKey, litres := g.volume, estimated := g.volumeEst }, volume := 0, volumeEst := false }) ∧
      (g.mode = .manual → b = a) ∧ (g.mode = .auto → b = (a.computeTarget c).onTarget c now) ∧
      (resumes → t = b.enter now (if g.record = .none then .resting else .fault)) ∧ (¬resumes → t = b)) ∧
  (∀ (c : Config.Settings) (now : Nat) (g : Gate),
    let p := g.position c
    let u := g.computeTarget c
    let t := g.onTarget c now
    (g.mode = .manual ∨ g.levelFault = true ∨ g.inHand = none → u = g) ∧
    (∀ r, g.mode = .auto → g.levelFault = false → g.inHand = some r →
      (r = 0 → u = { g with target := 0, lastUsed := some 0 }) ∧ (r ≠ 0 → g.window = [] → u = g) ∧
      ∀ x y v : Nat, r ≠ 0 → g.hU = some x → g.hD = some y →
        let head : Int := if y ≤ p then (x : Int) - (p / 2 : Nat) else (x : Int) - y
        (head ≤ 0 → u = g) ∧
        (0 < head → (v : Int) * v ≤ 19620 * head → 19620 * head < ((v : Int) + 1) * (v + 1) → u = { g with
          target := min (roundDiv (r * 1000000000) (c.reach.cd * c.reach.width * v)) c.reach.aMax, lastUsed := some r })) ∧
    t = { g with drive := t.drive, restStart := t.restStart, stallStart := t.stallStart, lastOff := t.lastOff } ∧
    (g.drive = .stopped → t.drive =
      if g.supplyLow = true ∨ (g.mode = .auto ∧ g.levelFault = true) then .stopped
      else if p + c.levels.deadband < g.target ∧ g.limOpen = false then .opening
      else if g.target + c.levels.deadband < p ∧ g.limClosed = false then .closing else .stopped) ∧
    (g.drive = .opening → t.drive = if g.target ≤ p + c.levels.deadband / 2 then .resting else .opening) ∧
    (g.drive = .closing → t.drive = if p ≤ g.target + c.levels.deadband / 2 then .resting else .closing) ∧
    (g.drive = .resting ∨ g.drive = .fault ∨ g.drive.isTripped = true → t = g)) ∧
  ∀ (s : State) (e : PeriodEvent) (rest : List PeriodEvent), s.running = true → s.inbox.meter = e :: rest →
    e.oldKey ≤ s.close.openKey →
    let u : State := { s with inbox := { s.inbox with meter := rest } }
    let drawn := fun (i : Nat) (x : Turnout) => x.overdraw = true ∧
      (∃ slot o, s.book.at? slot = some o ∧ o.turnout = i ∧ o.state = .active) ∧ 5 * s.book.grantInForce i < 4 * x.rate
    let some_ := ∃ i x, s.meters.turnouts[i]? = some x ∧ present s.settings i = true ∧ drawn i x
    (∀ k, s.meters.closedKey = some k → e.oldKey ≤ k → exec .meterPeriodClose s = .next u) ∧
    ((∀ k, s.meters.closedKey = some k → k < e.oldKey) → ∃ t, exec .meterPeriodClose s = .next t ∧
      t = { u with meters := t.meters, alerts := t.alerts } ∧
      (some_ → t.alerts = s.alerts.raise .overdraw) ∧ (¬some_ → t.alerts = s.alerts) ∧
      t.meters.closedKey = some e.oldKey ∧ t.meters.turnouts.length = s.meters.turnouts.length ∧
      ∀ (i : Nat) (x : Turnout), s.meters.turnouts[i]? = some x →
        (present s.settings i = false → t.meters.turnouts[i]? = some x) ∧
        (present s.settings i = true → ∃ y, t.meters.turnouts[i]? = some y ∧
          y = { x with
            closed := some { key := e.oldKey, pulses := x.pulses
                             litres := min (x.pulses * (configOf s.settings i).litres) 4294967295
                             rejects := x.rejects, estimated := x.estimated }
            pulses := 0, rejects := 0, noisy := x.noisy && decide (x.rejects ≠ 0)
            estimated := x.noisy && decide (x.rejects ≠ 0), overdraw := decide (0 < x.rate)
            flags := { x.flags with rateOver := y.flags.rateOver } } ∧
          (y.flags.rateOver = true ↔ x.flags.rateOver = true ∨ drawn i x)))

/-- PERIOD_CLOSE (R129 to R136, R17 to R20, R33, R67): the period of the open key k is closed once, in this order. Meters and accumulator close under
k; the volume of every present turnout goes to one order's delivered volume or to the tally (R35, R130); the close report makes the period
change of every order and closes orders in ascending slot order (R131, R162); the closing pair joins the history with a REACH request (R132), the
level and the outage span are recorded (R133), the balance entry joins the queue (R134 to R136), which is evaluated (R138); and the Planner
recomputes when an order became ACTIVE. An event whose key is not above the open key is discarded. -/
def Obligations.PeriodClose : Prop :=
  (∀ (s : State) (e : PeriodEvent) (rest : List PeriodEvent), s.running = true → s.inbox.close = e :: rest →
    let c := s.settings
    let u : State := { s with inbox := { s.inbox with close := rest } }
    let k := s.close.openKey
    let n := e.newKey
    (n ≤ k → exec .periodClose s = .next u) ∧
    (k < n →
      let a := (u.closeMetersOnce k).withGate (s.gate.closeOnce k)
      let volumes := ((List.range 16).filter (present c)).map fun i => (a.turnout i).handed
      let b := a.attributeAll k (List.range 16)
      let r := b.closeReport n
      ∃ (pair : ClosingPair) (v : CloseUnit) (t : State), a.gate.closed = some pair ∧ exec .periodClose s = .next t ∧
      (let base : CloseUnit := { s.close with
        openKey := n, openLevel := s.gate.hD, history := (pair :: s.close.history).take 2
        outage := if k + 2 ≤ n then some { first := k + 1, last := n - 1, count := n - k - 1 } else s.close.outage }
       let entry : BalanceEntry :=
        { key := k, inflow := pair.litres, turnoutSum := min (sumList (volumes.map (·.1))) 4294967295
          storage := s.close.openLevel.bind fun x => s.gate.hD.map fun y => ((y : Int) - x) * c.reach.poolArea
          expectedLoss := c.reach.loss * (c.periodLength * 60)
          slots := c.neighbours.downstream.map fun _ => none
          estimated := pair.estimated || volumes.any (·.2) }
       (s.close.queue.length < 3 ∨ (∀ x ∈ s.close.queue, x.complete = true) → v = { base with queue := s.close.queue ++ [entry] }) ∧
       ∀ pre x post, 3 ≤ s.close.queue.length → s.close.queue = pre ++ x :: post → (∀ y ∈ pre, y.complete = true) →
         x.complete = false → v = { base with queue := pre ++ post ++ [entry], lastAbandoned := some x.key }) ∧
      (let w := (r.withClose v).requestReach.drainQueue
       let active := ∃ slot o o', b.book.at? slot = some o ∧ r.book.at? slot = some o' ∧ o.state ≠ .active ∧ o'.state = .active
       (active → t = w.recompute) ∧ (¬active → t = w)) ∧
      t.close.openKey = n ∧ t.book.bookKey = max s.book.bookKey n ∧ t.close.openLevel = s.gate.hD ∧ t.line.reachReq = true ∧
      t.gate.closed = some pair ∧ t.close.history = (pair :: s.close.history).take 2 ∧
      ((∀ p, s.gate.closed = some p → p.key < k) →
        pair = { key := k, litres := s.gate.volume, estimated := s.gate.volumeEst } ∧ t.gate.volume = 0) ∧
      (n = k + 1 → t.close.outage = s.close.outage) ∧
      (k + 2 ≤ n → t.close.outage = some { first := k + 1, last := n - 1, count := n - k - 1 }) ∧
      t.startup = s.startup ∧ t.settings = s.settings ∧ t.time = s.time ∧ t.inbox = u.inbox ∧ t.neigh = s.neigh ∧
      t.link = s.link ∧ t.pending = s.pending)) ∧
  (∀ (s : State) (k : Nat), s.meters.turnouts.length = 16 →
    let b := s.attributeAll k (List.range 16)
    let taker := fun i : Nat => (s.book.takerOf i k).map (·.1)
    b = { s with book := { s.book with slots := b.book.slots }, meters := { s.meters with turnouts := b.meters.turnouts } } ∧
    (∀ (i : Nat) (x : Turnout), s.meters.turnouts[i]? = some x → b.meters.turnouts[i]? = some { x with
      tally := if present s.settings i = true ∧ taker i = none then min (x.tally + x.handed.1) 4294967295 else x.tally }) ∧
    (∀ slot, s.book.at? slot = none → b.book.at? slot = none) ∧
    ∀ slot o, s.book.at? slot = some o → b.book.at? slot = some
      (if present s.settings o.turnout = true ∧ o.turnout < 16 ∧ taker o.turnout = some slot then
        { o with
          delivered := min (o.delivered + (s.turnout o.turnout).handed.1) 4294967295
          flags := { o.flags with estimated := o.flags.estimated || (s.turnout o.turnout).handed.2 } }
       else o)) ∧
  (∀ (b : OrderBook) (k i : Nat),
    (∀ slot o, b.takerOf i k = some (slot, o) → b.at? slot = some o ∧ o.turnout = i ∧ o.state ≠ .closedUnbilled ∧ o.startKey ≤ k ∧
      k ≤ o.endKey + 1) ∧
    (b.takerOf i k = none ↔ ∀ slot o, b.at? slot = some o → o.turnout = i → o.state ≠ .closedUnbilled →
      ¬(o.startKey ≤ k ∧ k ≤ o.endKey + 1))) ∧
  ∀ (s : State) (n : Nat),
    let changed := Order.periodChange s.settings s.book.bookKey n
    let m : State := { s with book := { slots := s.book.slots.map (Option.map changed), bookKey := n } }
    (n ≤ s.book.bookKey → s.closeReport n = s) ∧
    (s.book.bookKey < n →
      let said := ∃ slot o, s.book.at? slot = some o ∧ (changed o).state = .active ∧ (changed o).closesAt n = false ∧
        (if o.state = .active then o.entry0 ≠ (changed o).entry0 else (changed o).entry0 ≠ (changed o).rate)
      (said → s.closeReport n = (m.raise .grantChanged).closeSlots n (List.range 48)) ∧
      (¬said → s.closeReport n = m.closeSlots n (List.range 48)) ∧
      ∀ slot o, s.book.at? slot = some o →
        ((changed o).closesAt n = false → (s.closeReport n).book.at? slot = some (changed o)) ∧
        ((changed o).closesAt n = true → slot < 48 → ∀ o', (s.closeReport n).book.at? slot = some o' →
          o'.state = .closedUnbilled ∧ o'.closeKey = some n)) ∧
    s.closeSlots n [] = s ∧
    ∀ slot rest, s.closeSlots n (slot :: rest) =
      (match s.book.at? slot with
       | some o => if o.closesAt n = true then s.closeOrder .delivery slot n o else s
       | none => s).closeSlots n rest

/-- BILLING_DAY_CLOSE once the period of its event is closed (R164, R152, R160): first the tallies above 0 and not due, in ascending turnout
order, each billed at the rate table still active when the log takes the record, and due otherwise; then the staged table becomes active. A tally
is billed exactly while the log has room and nothing waits; it is charged to the turnout's default account at the active unordered rate. The
record's TIME_UNCERTAIN is the quality at that instant (R155), in a catch-up after a TIME_SET too (log 15: DESIGN CHOICE). -/
def Obligations.BillingDayClose : Prop :=
  (∀ (s : State) (e : DayClose) (rest : List DayClose), s.running = true → s.inbox.billing = e :: rest →
    e.newKey ≤ s.close.openKey → s.meters.turnouts.length = 16 → s.billing.nextSeq < 4294967296 →
    let b := s.billing
    let u : State := { s with inbox := { s.inbox with billing := rest } }
    let owed := (List.range 16).filter fun i =>
      present s.settings i && decide (0 < (s.turnout i).tally) && !(s.turnout i).due
    let k := if b.waitList = [] then min owed.length (256 - b.log.length) else 0
    let index := fun i : Nat => (configOf s.settings i).account
    let charge := fun i : Nat => roundDiv ((s.turnout i).tally * b.active.unordered) 100000
    ∃ t, exec .billingDayClose s = .next t ∧
      t = (u.offerTallies (List.range 16)).withBilling (u.offerTallies (List.range 16)).billing.switchRates ∧
      t = { u with billing := t.billing, meters := { s.meters with turnouts := t.meters.turnouts }
                   alerts := { s.alerts with pending := t.alerts.pending } } ∧
      t.billing.active = b.staged.getD b.active ∧ t.billing.staged = none ∧ t.billing.seasonId = b.seasonId ∧
      t.billing.readPos = b.readPos ∧ t.billing.log.take b.log.length = b.log ∧ t.billing.log.length = b.log.length + k ∧
      t.billing.nextSeq = (b.nextSeq + k) % 4294967296 ∧ t.billing.waitList = b.waitList ++ (owed.drop k).map .tally ∧
      t.billing.accounts = (owed.take k).foldl (fun xs i => xs.set (index i)
        ((xs.getD (index i) resetAccount).charged (s.turnout i).tally (charge i))) b.accounts ∧
      (∀ j i : Nat, j < k → owed[j]? = some i → t.turnout i = { s.turnout i with tally := 0 } ∧
        t.billing.log[b.log.length + j]? = some
          { seq := (b.nextSeq + j) % 4294967296, kind := .unordered, key := s.curKey, account := (b.account (index i)).number
            turnout := i, order := none, granted := none, delivered := (s.turnout i).tally, tiers := none, charge := charge i
            flags := OrderFlags.clear, timeUncertain := decide (s.time.quality ≠ .set) }) ∧
      (∀ j i : Nat, k ≤ j → owed[j]? = some i → t.turnout i = { s.turnout i with due := true }) ∧
      (∀ i, i ∉ owed → t.turnout i = s.turnout i) ∧
      (b.waitList = [] → k < owed.length → hasCause t.alerts.pending .logFull = true)) ∧
  ∀ (s : State) (i : Nat), i < s.meters.turnouts.length →
    let x := s.turnout i
    let charge := roundDiv (x.tally * s.billing.active.unordered) 100000
    let index := (configOf s.settings i).account
    let t := s.billTally i
    t.meters.turnouts = s.meters.turnouts.set i { x with tally := 0, due := false } ∧
    t.billing = { s.billing with
      accounts := s.billing.accounts.set index ((s.billing.account index).charged x.tally charge)
      log := s.billing.log ++ [
        { seq := s.billing.nextSeq, kind := .unordered, key := s.curKey, account := (s.billing.account index).number, turnout := i
          order := none, granted := none, delivered := x.tally, tiers := none, charge := charge, flags := OrderFlags.clear
          timeUncertain := decide (s.time.quality ≠ .set) }]
      nextSeq := (s.billing.nextSeq + 1) % 4294967296 }

/-! ## Canal line and neighbours -/

/-- LINE_FRAME_RECEIVED (R40, R54 to R58, R64, R65), HOLD_EXPIRY (R59), and the reach balance that a notice's closing pairs complete (R137 to R140). In RUN
while this station listens, an in-step REACH notice of a neighbour replaces its entry's content and makes it FRESH, hands a downstream
entry's pairs on, and recomputes exactly on a change of state or content; one out of step only marks the entry; in step, and in WAIT_TIME
whatever its key, a notice merges the watch, whose rise is WATCH_CHANGED with a WATCH request. A frame that fails a check (which those are:
CanalNoticeRoundTrip) is discarded. At the
hold time a FRESH entry becomes LOST. What an undefined quality byte means is a free value (log 13). -/
def Obligations.NoticesReceived : Prop :=
  (∀ (s : State) (frame : List Byte), s.startup.powered = true →
    let c := Instr.lineFrameReceived frame
    let u : State := { s with line := { s.line with arrived := dropHead s.line.arrived frame } }
    let own := s.settings.station.number
    let near := fun key : Nat => key ≤ s.curKey + 1 ∧ s.curKey ≤ key + 1
    (s.startup.state = .loading ∨ s.startup.state = .configFault ∨ s.line.tx = .sending ∨ decodeFrame own frame = none →
      exec c s = .next u) ∧
    (s.startup.state = .waitTime → s.line.tx ≠ .sending →
      (∀ sender key w, decodeFrame own frame = some (.watch sender key w) → exec c s = .next (u.mergeWatch w)) ∧
      ∀ sender (f : ReachFields), decodeFrame own frame = some (.reach sender f) → exec c s = .next (u.mergeWatch f.watchEnd)) ∧
    (s.startup.state = .run → s.line.tx ≠ .sending →
      (∀ sender key w, decodeFrame own frame = some (.watch sender key w) →
        (near key → exec c s = .next (u.mergeWatch w)) ∧ (¬near key → exec c s = .next u)) ∧
      ∀ sender (f : ReachFields), decodeFrame own frame = some (.reach sender f) →
        ((∀ e ∈ s.neigh.entries, e.station ≠ sender) →
          (near f.key → exec c s = .next (u.mergeWatch f.watchEnd)) ∧ (¬near f.key → exec c s = .next u)) ∧
        ∀ (i : Nat) (e : Entry), s.neigh.entries[i]? = some e → e.station = sender →
          (∀ j d, j < i → s.neigh.entries[j]? = some d → d.station ≠ sender) →
          let block := (f.blocks.find? fun b => b.station == own).map GrantBlock.grants
          let e' := { e with
            state := .fresh
            content := some { senderKey := f.key, quality := f.quality, flags := f.flags, level := f.level, plan := f.plan
                              grant := if e.role = .upstream then block else none, pairs := f.pairs }
            receipt := some s.time.elapsed, outOfStep := false
            mismatch := decide (e.role = .upstream ∧ block = none) }
          let put := fun x : Entry => ({ u with neigh := { s.neigh with entries := s.neigh.entries.set i x } } : State)
          (¬near f.key → exec c s = .next (put { e with outOfStep := true })) ∧
          (near f.key → ∃ v w z : State, exec c s = .next (z.mergeWatch f.watchEnd) ∧
            v = (if e.state = .fresh then put e' else (put e').raise .neighbourBack) ∧
            (e.role = .upstream → w = v) ∧ (∀ j, e.role = .downstream j → w = v.offerPairs (j - 1) f.pairs) ∧
            z = if e.state ≠ e'.state ∨ e.content ≠ e'.content ∨ e.mismatch ≠ e'.mismatch then w.recompute else w))) ∧
  (∀ (s : State) (key : Nat),
    let w := min key (highestKey s.settings.periodLength)
    let v : State := { s with neigh := { s.neigh with watchEnd := w }, alerts := s.alerts.raise .watchChanged }
    let asked := { s.line with watchReq := true }
    (w ≤ s.neigh.watchEnd → s.mergeWatch key = s) ∧
    (s.neigh.watchEnd < w → s.running = true → s.mergeWatch key = { v with
      line := if s.line.tx = .quiet ∧ s.line.holdoff = none then { asked with tx := .gap } else asked }) ∧
    (s.neigh.watchEnd < w → s.working = true → s.running = false → s.mergeWatch key = { v with line := asked })) ∧
  (∀ (s : State) (i : Nat) (e : Entry) (x : Nat), s.running = true → s.neigh.entries[i]? = some e → e.state = .fresh →
    e.receipt = some x → x + s.settings.neighbours.holdTime * 1000 ≤ s.time.elapsed →
    exec (.holdExpiry i) s = .next (({ s with
      neigh := { s.neigh with entries := s.neigh.entries.set i { e with state := .lost } } } : State).raise .neighbourLost).recompute) ∧
  (∀ (s : State) (k : Nat) (pairs : List ClosingPair),
    let filled := fun e : BalanceEntry => pairs.foldl (fun e p => BalanceEntry.offer k p e) e
    s.offerPairs k pairs = (s.withClose { s.close with queue := s.close.queue.map filled }).drainQueue ∧
    ∀ (p : ClosingPair) (e : BalanceEntry),
      (e.key = p.key → e.slots[k]? = some none → BalanceEntry.offer k p e =
        { e with slots := e.slots.set k (some (p.litres, p.estimated)), estimated := e.estimated || p.estimated }) ∧
      (e.key ≠ p.key ∨ e.slots[k]? ≠ some none → BalanceEntry.offer k p e = e)) ∧
  (∀ s : State,
    let tolerance := s.settings.reach.lossTolerance
    ((∀ e, s.close.queue.head? = some e → ∃ x ∈ e.slots, x = none) → s.drainQueue = s) ∧
      ∀ (e : BalanceEntry) (rest : List BalanceEntry), (∀ x ∈ e.slots, x ≠ none) →
        let full := s.withClose { s.close with queue := e :: rest }
        let v := CloseUnit.evaluate tolerance { s.close with queue := rest } e
        full.drainQueue =
          (if v.reachLoss = true ∧ s.close.reachLoss = false then (s.withClose v).raise .reachLoss else s.withClose v).drainQueue) ∧
  ∀ (tolerance : Nat) (u : CloseUnit) (e : BalanceEntry),
    let lost : Int := (e.inflow : Int) - sumList (e.slots.map fun x => (x.map (·.1)).getD 0) - e.turnoutSum - e.storage.getD 0 -
      e.expectedLoss
    let after := fun (r : BalanceResult) (count : Nat) (status : Bool) => ({ u with
      lastEval := some { key := e.key, unaccounted := lost, result := r, estimated := e.estimated }
      lossCount := count, reachLoss := status } : CloseUnit)
    let v := CloseUnit.evaluate tolerance u e
    (e.storage = none → v = after .unjudged u.lossCount u.reachLoss) ∧
    (∀ d, e.storage = some d → tolerance < lost.natAbs →
      v = after .out (min (u.lossCount + 1) 255) (u.reachLoss || decide (u.lossCount + 1 = 3))) ∧
    ∀ d, e.storage = some d → lost.natAbs ≤ tolerance → v = after .within 0 false

/-- LINE_CHARACTER_RECEIVED and LINE_FRAME_GAP (R38, R39, R42): a character sets the idle count to 0; in HUNT it is compared with the sync byte; in FRAME it
joins the frame unless a gap of more than 3 byte times came before it, and a framing error, a length above 480 or its completion ends the
frame; while this station sends it is read back. The gap alone discards a part frame. The time of a character's stop bit is the model's
(log 9: DESIGN CHOICE). -/
def Obligations.LineCharacters : Prop :=
  (∀ (s : State) (b : Byte) (bad : Bool), s.startup.powered = true →
    let l := { s.line with idle := 0, idlePhase := 0, charLeft := 10000 }
    let hunted : LineRx := if b = 0xA7 ∧ bad = false then .frame [b] else .hunt
    let leads := fun l' : LineInterface => exec (.lineCharacterReceived b bad) s = .next { s with line := l' }
    (s.line.tx = .sending →
      (bad = true ∨ ((s.line.frame.map TxFrame.chars).getD [])[s.line.readCount]? ≠ some b → leads { l with readBad := true }) ∧
      (bad = false → ((s.line.frame.map TxFrame.chars).getD [])[s.line.readCount]? = some b →
        leads { l with readCount := s.line.readCount + 1 })) ∧
    (s.line.tx ≠ .sending →
      (s.line.rx = .off → leads l) ∧ (s.line.rx = .hunt → leads { l with rx := hunted }) ∧
      ∀ chars, s.line.rx = .frame chars →
        let more := chars ++ [b]
        let tooLong := more.length = 5 ∧ 480 < fieldAt more 3 2
        let complete := 5 ≤ more.length ∧ more.length = 7 + fieldAt more 3 2
        (3 < s.line.idle → leads { l with rx := hunted }) ∧
        (s.line.idle ≤ 3 → bad = true ∨ tooLong → leads { l with rx := .hunt }) ∧
        (s.line.idle ≤ 3 → bad = false → ¬tooLong → complete → leads { l with rx := .hunt, arrived := s.line.arrived ++ [more] }) ∧
        (s.line.idle ≤ 3 → bad = false → ¬tooLong → ¬complete → leads { l with rx := .frame more }))) ∧
  ∀ (s : State) (chars : List Byte), s.startup.powered = true → s.line.rx = .frame chars → 3 < s.line.idle →
    exec .lineFrameGap s = .next { s with line := { s.line with rx := .hunt } }

/-- The transmitter (R41 to R49, R83): at the access gap, or at the backoff count, an attempt takes the pending requests into a frame and turns the
receiver off; a REACH notice states key, quality, status flags, level, watch end key, announced plan, one grant block for each downstream
neighbour, and the closing pairs, from their owners at that instant; a collision returns the requests and backs off, or at the sixth gives the
notice up with LINE_CONGESTION and a holdoff; a completed notice starts the holdoff, and a REACH notice the notice timer with a new last-sent copy;
the holdoff's end wakes the transmitter; the notice timer makes a REACH request and starts again. After a recompute the plan and the blocks are
compared, period by period, with the last-sent copy, and a REACH request is made exactly when some value is apart by the change threshold. That
COLLISION and NOTICE_COMPLETE, taken while this station sends, act at the instants that the model's read-back makes them due is the model's (log 9: DESIGN CHOICE). -/
def Obligations.TransmitterEvents : Prop :=
  (∀ (s : State) (r : PlanResults), s.running = true → s.planner.results = some r →
    s.line.reachReq = true ∨ s.line.watchReq = true →
    let own := s.settings.station.number
    let sending := ({ s with line := { s.line with
      tx := .sending, rx := .off, frame := some (s.buildFrame r), readCount := 0, readBad := false
      carriedReach := s.line.reachReq, carriedWatch := s.line.watchReq, reachReq := false, watchReq := false
      idle := 0, idlePhase := 0, charLeft := 0 } } : State)
    (s.line.tx = .gap → 6 + own % 8 ≤ s.line.idle → exec .accessGapReached s = .next sending) ∧
    (s.line.tx = .backoff → 8 + (own * 5 + s.line.attempt * 3) % 24 ≤ s.line.idle → exec .backoffExpiry s = .next sending) ∧
    (s.line.reachReq = true → ∃ f : ReachFields,
      s.buildFrame r = { chars := lineFrame 0x11 own f.bytes, copy := some { key := f.key, plan := f.plan, blocks := f.blocks } } ∧
      f.key = s.planner.planKey ∧ f.quality = s.time.quality ∧
      f.flags = { tripped := s.gate.drive.isTripped, gateFault := decide (s.gate.drive = .fault), levelFault := s.gate.levelFault
                  guarding := decide (0 < s.planner.guardCut), upstreamLost := decide (s.planner.source = .fallback)
                  manual := decide (s.gate.mode = .manual) } ∧
      f.level = s.gate.lastU ∧ f.watchEnd = s.neigh.watchEnd ∧ f.plan = r.offsets.map OffsetPlan.announced ∧
      f.pairs = s.close.history ∧ f.blocks = s.grantBlocks r) ∧
    (s.line.reachReq = false → s.buildFrame r =
      { chars := lineFrame 0x12 own (toBytes 4 s.curKey ++ toBytes 4 s.neigh.watchEnd), copy := none })) ∧
  (∀ (s : State) (r : PlanResults),
    let blocks := s.grantBlocks r
    blocks.length = s.settings.neighbours.downstream.length ∧
    ∀ j d, s.settings.neighbours.downstream[j]? = some d →
      let share := ((r.offsets[0]?.map OffsetPlan.downShare).getD []).getD j ByClass.zero
      blocks[j]? = some { station := d.station, grants := ((s.planner.schedules.getD j []).take 12).map fun e => e.value.getD share }) ∧
  (∀ (s : State) (r : PlanResults),
    let key := s.planner.planKey
    let sent : SentCopy := s.line.lastSent.getD { key := key, plan := [], blocks := [] }
    let before := fun (xs : List ByClass) (i : Nat) => if sent.key ≤ key + i then xs.getD (key + i - sent.key) ByClass.zero else ByClass.zero
    let apart := fun (x y : Nat) => x + s.settings.line.changeThreshold ≤ y ∨ y + s.settings.line.changeThreshold ≤ x
    let differs := fun (now sent : List ByClass) => ∃ (i : Nat) (x : ByClass) (c : WaterClass), now[i]? = some x ∧
      apart (x.get c) ((before sent i).get c)
    (s.planChanged r = true ↔ differs (r.offsets.map OffsetPlan.announced) sent.plan ∨
      ∃ b ∈ s.grantBlocks r, differs b.grants (((sent.blocks.find? fun x => x.station == b.station).map GrantBlock.grants).getD []))) ∧
  (∀ s : State, s.running = true →
    let t := s.recompute
    let asked := { s.line with reachReq := true }
    ((s.withPlanner t.planner).planChanged s.computePlan = true →
      t.line = if s.line.tx = .quiet ∧ s.line.holdoff = none then { asked with tx := .gap } else asked) ∧
    ((s.withPlanner t.planner).planChanged s.computePlan = false → t.line = s.line)) ∧
  (∀ s : State, s.running = true → s.line.tx = .sending →
    let ended := { s.line with rx := .hunt, frame := none, readCount := 0, readBad := false, carriedReach := false, carriedWatch := false }
    let back := { ended with reachReq := s.line.reachReq || s.line.carriedReach, watchReq := s.line.watchReq || s.line.carriedWatch }
    (s.line.attempt + 1 < 6 → exec .collision s = .next { s with
      line := { back with attempt := s.line.attempt + 1, tx := .backoff } }) ∧
    (6 ≤ s.line.attempt + 1 → exec .collision s = .next { s with
      line := { back with attempt := 0, tx := .quiet, holdoff := some s.time.elapsed }
      alerts := s.alerts.raise .lineCongestion }) ∧
    (∀ f x, s.line.frame = some f → f.copy = some x → exec .noticeComplete s = .next { s with
      line := { ended with attempt := 0, tx := .quiet, holdoff := some s.time.elapsed, noticeTimer := some s.time.elapsed
                           lastSent := some x } }) ∧
    (∀ f, s.line.frame = some f → f.copy = none → exec .noticeComplete s = .next { s with
      line := { ended with attempt := 0, tx := .quiet, holdoff := some s.time.elapsed } })) ∧
  ∀ (s : State) (x : Nat), s.running = true →
    (s.line.holdoff = some x → x + s.settings.line.holdoff * 1000 ≤ s.time.elapsed → exec .holdoffExpiry s = .next { s with
      line := { s.line with
        holdoff := none
        tx := if s.line.tx = .quiet ∧ (s.line.reachReq = true ∨ s.line.watchReq = true) then .gap else s.line.tx } }) ∧
    (s.line.noticeTimer = some x → x + s.settings.line.noticeInterval * 1000 ≤ s.time.elapsed →
      exec .noticeTimerExpiry s = .next { s with
        line := { s.line with
          noticeTimer := some s.time.elapsed, reachReq := true
          tx := if s.line.tx = .quiet ∧ s.line.holdoff = none then .gap else s.line.tx } })

/-! ## Gate -/

/-- LEVEL_SAMPLE and SAMPLE_WATCH_EXPIRY in WAIT_TIME and RUN (R91 to R94, R96 to R98, R191): a record in order with levels up to 4 000 is a good sample, which joins the
window of at most 8, forms the averages, gives the flow of R95, clears the missed count and LEVEL_FAULT and in RUN adds its volume; any other record, and the watch's
expiry, is a missed one, which holds the flow and at the third sets LEVEL_FAULT and empties the window. Either restarts the watch. A good sample that
clears LEVEL_FAULT computes the opening target (R94, R101), one that sets a level-window condition raises LEVEL_WINDOW (R98), and one that finds a
trip cause with no trip in force begins a trip in WAITING, with GATE_TRIP (R110). What comes while a period event waits for the gate adds to the new period: the accumulator is closed first (how, is log 14: DESIGN CHOICE). That bytes which are not 8
or lack the sync byte are a sample at all is the model's (log 27: DESIGN CHOICE). -/
def Obligations.LevelSamples : Prop :=
  (∀ (record : List Byte) (u d : Nat),
    let five := toBytes 2 u ++ toBytes 2 d ++ [0]
    readSample record = some (u, d) ↔ u ≤ 4000 ∧ d ≤ 4000 ∧ record = 0xE2 :: (five ++ crcBytes five)) ∧
  (∀ s : State,
    (s.running = false ∨ s.inbox.gate = [] → s.settleGate = s) ∧
    (∀ e, s.running = true → s.inbox.gate = [e] → e.oldKey ≤ s.close.openKey →
      ((∃ p, s.gate.closed = some p ∧ e.oldKey ≤ p.key) → s.settleGate = s) ∧
      ((∀ p, s.gate.closed = some p → p.key < e.oldKey) → s.settleGate = { s with gate := { s.gate with
        closed := some { key := e.oldKey, litres := s.gate.volume, estimated := s.gate.volumeEst }, volume := 0, volumeEst := false } })) ∧
    (s.running = true → s.settleGate =
      s.inbox.gate.foldl (fun t e => (t.closePeriod e.oldKey).withGate ((t.closePeriod e.oldKey).gate.closeOnce e.oldKey)) s)) ∧
  (∀ (s₀ : State) (record : List Byte) (u d : Nat), s₀.working = true → readSample record = some (u, d) →
    let s := s₀.settleGate
    let g := s.gate
    let c := s.settings
    let now := s.time.elapsed
    let w := (g.window ++ [(u, d)]).drop (g.window.length + 1 - 8)
    let seen : Gate := { g with
      window := w, lastU := sumList (w.map (·.1)) / w.length, lastD := sumList (w.map (·.2)) / w.length
      missed := 0, levelFault := false, sampleWatch := some now }
    let aimed := if g.levelFault = true then (seen.computeTarget c).onTarget c now else seen
    let onset := g.drive.isTripped = false ∧
      (g.tripIn = true ∨ (c.levels.levelTrip = true ∧ c.levels.upHigh < seen.lastU))
    ∃ t, exec (.levelSample record) s₀ = .next t ∧
      t = { s with gate := t.gate, alerts := { s.alerts with pending := t.alerts.pending } } ∧
      t.gate = { aimed with
        flow := t.gate.flow, regime := t.gate.regime, reverseHead := t.gate.reverseHead, saturated := t.gate.saturated
        volume := t.gate.volume, volumeEst := t.gate.volumeEst, upHigh := t.gate.upHigh, upLow := t.gate.upLow
        downHigh := t.gate.downHigh, drive := t.gate.drive, restStart := t.gate.restStart, stallStart := t.gate.stallStart
        lastOff := t.gate.lastOff } ∧
      (let q := g.computeFlow c seen.lastU seen.lastD
       t.gate.flow = q.flow ∧ t.gate.regime = q.regime ∧ t.gate.reverseHead = q.reverseHead ∧ t.gate.saturated = q.saturated) ∧
      (s.startup.state = .run →
        t.gate.volume = min (g.volume + t.gate.flow * c.levels.sampleInterval) 4294967295 ∧
        t.gate.volumeEst = (g.volumeEst || g.suspect)) ∧
      (s.startup.state = .waitTime → t.gate.volume = g.volume ∧ t.gate.volumeEst = g.volumeEst) ∧
      t.gate.upHigh = decide (c.levels.upHigh < seen.lastU) ∧ t.gate.upLow = decide (seen.lastU < c.levels.minimum) ∧
      t.gate.downHigh = decide (c.levels.downHigh < seen.lastD) ∧
      (onset → t.gate.drive = .tripped .waiting ∧ t.gate.restStart = some now ∧ t.gate.stallStart = none ∧
        t.gate.lastOff = if aimed.drive.on = true then some now else aimed.lastOff) ∧
      (¬onset → t.gate.drive = aimed.drive ∧ t.gate.restStart = aimed.restStart ∧ t.gate.stallStart = aimed.stallStart ∧
        t.gate.lastOff = aimed.lastOff) ∧
      ∀ x : Cause, hasCause t.alerts.pending x = true ↔ hasCause s.alerts.pending x = true ∨ (x = .gateTrip ∧ onset) ∨
        (x = .levelWindow ∧ ((t.gate.upHigh = true ∧ g.upHigh = false) ∨ (t.gate.upLow = true ∧ g.upLow = false) ∨
          (t.gate.downHigh = true ∧ g.downHigh = false)))) ∧
  ∀ (s₀ : State) (c : Instr), s₀.working = true →
    (∃ record, c = .levelSample record ∧ readSample record = none) ∨
      (c = .sampleWatchExpiry ∧ ∃ x, s₀.gate.sampleWatch = some x ∧
        x + s₀.settings.levels.sampleInterval * 1000 ≤ s₀.time.elapsed) →
    let s := s₀.settleGate
    let third := 3 ≤ s.gate.missed + 1 ∧ s.gate.levelFault = false
    ∃ t, exec c s₀ = .next t ∧ t = { s with gate := t.gate, alerts := { s.alerts with pending := t.alerts.pending } } ∧
      t.gate.missed = min (s.gate.missed + 1) 3 ∧ t.gate.flow = s.gate.flow ∧ t.gate.sampleWatch = some s.time.elapsed ∧
      t.gate.lastU = s.gate.lastU ∧ t.gate.lastD = s.gate.lastD ∧ t.gate.reverseHead = s.gate.reverseHead ∧
      t.gate.saturated = s.gate.saturated ∧ t.gate.target = s.gate.target ∧ t.gate.counts = s.gate.counts ∧
      (s.startup.state = .run →
        t.gate.volume = min (s.gate.volume + s.gate.flow * s.settings.levels.sampleInterval) 4294967295 ∧
        t.gate.volumeEst = true) ∧
      (third → t.gate.levelFault = true ∧ t.gate.window = [] ∧ t.alerts = s.alerts.raise .levelFault ∧ t.gate.drive =
        if s.gate.drive ≠ .stopped ∨ s.gate.supplyLow = true ∨ s.gate.mode = .auto then s.gate.drive
        else if s.gate.position s.settings + s.settings.levels.deadband < s.gate.target ∧ s.gate.limOpen = false then .opening
        else if s.gate.target + s.settings.levels.deadband < s.gate.position s.settings ∧ s.gate.limClosed = false then .closing
        else .stopped) ∧
      (¬third → t.gate.levelFault = s.gate.levelFault ∧ t.gate.window = s.gate.window ∧ t.alerts = s.alerts ∧
        t.gate.drive = s.gate.drive)

/-- ENCODER_STEP and LIMIT_INPUT_CHANGE in WAIT_TIME and RUN (R99, R100, R106, R109): one count up or down, held at the ends with POSITION_SUSPECT; a step restarts the stall
watch of a move, which ends when it arrives, a trip move at the trip target (R111); a limit switch that becomes active sets the counts and ends a move
in its sense; a move or a trip move in the other sense is not stopped by the switch: it ends only if it arrives at the new position, and else goes on
with its stall watch undisturbed. RESTING, FAULT and the phases WAITING and DONE stay. Both active are a sensor fault: record LIMITS and GATE_FAULT,
the drive in FAULT, or, TRIPPED, a trip move in DONE (of a trip that does not move the phase stays: log 23, DEDUCED). Nothing else of the part
changes. In STOPPED the start rule is applied at every change of the position or of a limit input (R105). -/
def Obligations.EncoderAndLimits : Prop :=
  ∀ s : State, s.working = true →
    let g := s.gate
    let c := s.settings
    let drives := fun x : Gate => x = { g with
      counts := x.counts, suspect := x.suspect, drive := x.drive, record := x.record, restStart := x.restStart
      stallStart := x.stallStart, lastOff := x.lastOff, limClosed := x.limClosed, limOpen := x.limOpen }
    let same := fun t : State => t = { s with gate := t.gate } ∧ drives t.gate
    let fault := fun t : State => t = { s with gate := t.gate, alerts := s.alerts.raise .gateFault } ∧ drives t.gate ∧
      t.gate.record = .limits ∧ t.gate.limClosed = true ∧ t.gate.limOpen = true ∧
      t.gate.drive = (if g.drive.isTripped = false then .fault else if g.drive.on = true then .tripped .done else g.drive)
    let rule := fun x : Gate =>
      if x.supplyLow = true ∨ (x.mode = .auto ∧ x.levelFault = true) then Drive.stopped
      else if x.position c + c.levels.deadband < x.target ∧ x.limOpen = false then .opening
      else if x.target + c.levels.deadband < x.position c ∧ x.limClosed = false then .closing else .stopped
    let half := c.levels.deadband / 2
    let there := fun (up : Bool) (x : Gate) (aim : Nat) => if up = true then aim ≤ x.position c + half else x.position c ≤ aim + half
    let judged := fun (up : Bool) (x : Gate) =>
      (g.drive = (if up = true then .opening else .closing) →
        (there up x g.target → x.drive = .resting) ∧ (¬there up x g.target → x.drive = g.drive)) ∧
      (g.drive = .tripped (.moving up) →
        (c.levels.tripAction = .hold → x.drive = g.drive) ∧
        ∀ aim, (c.levels.tripAction = .close ∧ aim = 0) ∨
            (c.levels.tripAction = .openTo ∧ aim = min c.levels.tripOpening c.reach.aMax) →
          (there up x aim → x.drive = .tripped .done) ∧ (¬there up x aim → x.drive = g.drive))
    let off := fun x : Gate =>
      (g.drive = .stopped → x.drive = rule x) ∧
      (g.drive = .resting ∨ g.drive = .fault ∨ g.drive = .tripped .waiting ∨ g.drive = .tripped .done → x.drive = g.drive)
    let atSwitch := fun (openLimit : Bool) (x : Gate) =>
      (g.drive = (if openLimit = true then .opening else .closing) → x.drive = .resting) ∧
      (g.drive = .tripped (.moving openLimit) → x.drive = .tripped .done) ∧
      judged (!openLimit) x ∧ off x ∧ (g.drive.on = true → x.drive = g.drive → x.stallStart = g.stallStart)
    (∀ opening : Bool, ∃ t, exec (.encoderStep opening) s = .next t ∧ same t ∧ t.gate.record = g.record ∧
      t.gate.limClosed = g.limClosed ∧ t.gate.limOpen = g.limOpen ∧
      (opening = true → t.gate.counts = min (g.counts + 1) (max g.counts 65535) ∧
        t.gate.suspect = (g.suspect || decide (65535 ≤ g.counts))) ∧
      (opening = false → t.gate.counts = g.counts - 1 ∧ t.gate.suspect = (g.suspect || decide (g.counts = 0))) ∧
      (g.drive.on = true → t.gate.drive = g.drive → t.gate.stallStart = some s.time.elapsed) ∧
      judged true t.gate ∧ judged false t.gate ∧ off t.gate) ∧
    (g.limOpen = false → ∃ t, exec (.limitInputChange true true) s = .next t ∧ t.gate.limOpen = true ∧
      t.gate.counts = (c.reach.aMax * 1000 + c.reach.encoder - 1) / c.reach.encoder ∧ t.gate.suspect = g.suspect ∧
      (g.limClosed = false → same t ∧ t.gate.limClosed = false ∧ t.gate.record = g.record ∧ atSwitch true t.gate) ∧
      (g.limClosed = true → fault t)) ∧
    (g.limClosed = false → ∃ t, exec (.limitInputChange false true) s = .next t ∧ t.gate.limClosed = true ∧
      t.gate.counts = 0 ∧ t.gate.suspect = false ∧
      (g.limOpen = false → same t ∧ t.gate.limOpen = false ∧ t.gate.record = g.record ∧ atSwitch false t.gate) ∧
      (g.limOpen = true → fault t)) ∧
    ∀ openLimit : Bool, g.limit openLimit = true → ∃ t, exec (.limitInputChange openLimit false) s = .next t ∧ same t ∧
      t.gate.limit openLimit = false ∧ t.gate.limit (!openLimit) = g.limit (!openLimit) ∧ t.gate.counts = g.counts ∧
      t.gate.suspect = g.suspect ∧ t.gate.record = g.record ∧ (g.drive ≠ .stopped → t.gate.drive = g.drive) ∧
      (g.drive = .stopped → t.gate.drive = rule t.gate)

/-- The drive's timers and inputs (R104, R105, R107 to R111): the rest time ends in STOPPED and the start rule; the stall time in FAULT, or in DONE for a trip move,
with record STALL; SUPPLY_LOW stops a move, and at its end the start rule holds in STOPPED, which starts none with LEVEL_FAULT set in AUTO; TRIP becoming active is a trip onset unless one holds; and the trip's rest time ends in its
action. Nothing else of the part changes but the gate and its alerts. -/
def Obligations.DriveEvents : Prop :=
  ∀ s : State, s.working = true →
    let g := s.gate
    let c := s.settings
    let now := s.time.elapsed
    let up := g.position c + c.levels.deadband < g.target ∧ g.limOpen = false
    let down := g.target + c.levels.deadband < g.position c ∧ g.limClosed = false
    let held := g.supplyLow = true ∨ (g.mode = .auto ∧ g.levelFault = true)
    let changed := fun t : State => t = { s with gate := t.gate, alerts := { s.alerts with pending := t.alerts.pending } } ∧
      t.gate.target = g.target ∧ t.gate.counts = g.counts ∧ t.gate.window = g.window ∧ t.gate.volume = g.volume ∧
      t.gate.mode = g.mode
    (∀ x, g.drive = .resting → g.restStart = some x → x + c.levels.restTime * 1000 ≤ now →
      ∃ t, exec .restExpiry s = .next t ∧ changed t ∧ t.alerts = s.alerts ∧ t.gate.record = g.record ∧
        (held → t.gate.drive = .stopped) ∧
        (¬held → t.gate.drive = if up then .opening else if down then .closing else .stopped)) ∧
    (∀ x, g.drive.on = true → g.stallStart = some x → x + c.levels.stallTime * 1000 ≤ now →
      ∃ t, exec .stallExpiry s = .next t ∧ changed t ∧ t.gate.record = .stall ∧ hasCause t.alerts.pending .gateFault = true ∧
        t.gate.drive = if g.drive.isTripped = true then .tripped .done else .fault) ∧
    (∀ x, g.drive = .tripped .waiting → g.restStart = some x → x + c.levels.restTime * 1000 ≤ now →
      ∃ t, exec .tripWaitExpiry s = .next t ∧ changed t ∧ t.alerts = s.alerts ∧ t.gate.record = g.record ∧
        (c.levels.tripAction = .hold → t.gate.drive = .tripped .done) ∧
        ∀ aim, (c.levels.tripAction = .close ∧ aim = 0) ∨
            (c.levels.tripAction = .openTo ∧ aim = min c.levels.tripOpening c.reach.aMax) →
          t.gate.drive =
            if g.position c + c.levels.deadband / 2 < aim ∧ g.limOpen = false then .tripped (.moving true)
            else if aim + c.levels.deadband / 2 < g.position c ∧ g.limClosed = false then .tripped (.moving false)
            else .tripped .done) ∧
    (g.supplyLow = false → ∃ t, exec (.supplyLowChange true) s = .next t ∧ changed t ∧ t.gate.supplyLow = true ∧
      t.alerts = s.alerts ∧ t.gate.drive = if g.drive = .opening ∨ g.drive = .closing then .resting else g.drive) ∧
    (g.supplyLow = true → ∃ t, exec (.supplyLowChange false) s = .next t ∧ changed t ∧ t.gate.supplyLow = false ∧
      t.alerts = s.alerts ∧ (g.drive ≠ .stopped → t.gate.drive = g.drive) ∧
      (g.drive = .stopped → g.mode = .auto ∧ g.levelFault = true → t.gate.drive = .stopped) ∧
      (g.drive = .stopped → ¬(g.mode = .auto ∧ g.levelFault = true) →
        t.gate.drive = if up then .opening else if down then .closing else .stopped)) ∧
    (g.tripIn = false → ∃ t, exec (.tripInputChange true) s = .next t ∧ changed t ∧ t.gate.tripIn = true ∧
      t.gate.record = g.record ∧
      (g.drive.isTripped = true → t.gate.drive = g.drive ∧ t.alerts = s.alerts) ∧
      (g.drive.isTripped = false → t.gate.drive = .tripped .waiting ∧ t.gate.restStart = some now ∧
        hasCause t.alerts.pending .gateTrip = true)) ∧
    (g.tripIn = true → exec (.tripInputChange false) s = .next { s with gate := { g with tripIn := false } })

/-- GATE_MODE and TRIP_CLEAR in RUN (R103, R101, R102, R105, R106, R113): MANUAL makes the clamped opening the opening target at once; AUTO computes one, and
records the release target that it used, held with no release target in hand, in LEVEL_FAULT, without levels or without a positive head; the drive
acts on the new target, in STOPPED by the start rule, in OPENING and CLOSING by arrival; the reply carries mode and target; an undefined mode is
BAD_VALUE (R187). TRIP_CLEAR takes TRIPPED or FAULT to RESTING with the record cleared, and is STATE otherwise and while a cause or both limits hold. -/
def Obligations.GateModeAndTripClear : Prop :=
  ∀ s : State, s.running = true →
    let g := s.gate
    let c := s.settings
    let acts := fun t : Gate =>
      let p := g.position c
      (g.drive = .stopped → t.drive =
        if g.supplyLow = true ∨ (t.mode = .auto ∧ g.levelFault = true) then .stopped
        else if p + c.levels.deadband < t.target ∧ g.limOpen = false then .opening
        else if t.target + c.levels.deadband < p ∧ g.limClosed = false then .closing else .stopped) ∧
      (g.drive = .opening → t.drive = if t.target ≤ p + c.levels.deadband / 2 then .resting else .opening) ∧
      (g.drive = .closing → t.drive = if p ≤ t.target + c.levels.deadband / 2 then .resting else .closing) ∧
      (g.drive.isTripped = true ∨ g.drive = .fault ∨ g.drive = .resting → t.drive = g.drive)
    (∀ opening : Nat, let i := Instr.gateMode 1 opening
      let goal := min opening c.reach.aMax
      ∃ t : State, exec i s = t.replies i 0x1C (1 :: toBytes 2 goal) ∧ t = { s with gate := t.gate } ∧ acts t.gate ∧
        t.gate.mode = .manual ∧ t.gate.manual = goal ∧ t.gate.target = goal ∧ t.gate.counts = g.counts ∧
        t.gate.window = g.window ∧ t.gate.record = g.record ∧ t.gate.inHand = g.inHand ∧ t.gate.lastUsed = g.lastUsed) ∧
    (∀ opening : Nat, let i := Instr.gateMode 0 opening
      ∃ t : State, exec i s = t.replies i 0x1C (0 :: toBytes 2 t.gate.target) ∧ t = { s with gate := t.gate } ∧ acts t.gate ∧
        t.gate.mode = .auto ∧ t.gate.manual = g.manual ∧ t.gate.counts = g.counts ∧ t.gate.window = g.window ∧
        t.gate.record = g.record ∧ t.gate.inHand = g.inHand ∧
        (g.levelFault = true ∨ g.inHand = none ∨ (g.window = [] ∧ g.inHand ≠ some 0) →
          t.gate.target = g.target ∧ t.gate.lastUsed = g.lastUsed) ∧
        (g.levelFault = false → g.inHand = some 0 → t.gate.target = 0 ∧ t.gate.lastUsed = some 0) ∧
        ∀ (r u d v : Nat), g.levelFault = false → g.inHand = some r → r ≠ 0 → g.hU = some u → g.hD = some d →
          let a := g.position c
          let head : Int := if d ≤ a then (u : Int) - (a / 2 : Nat) else (u : Int) - d
          (head ≤ 0 → t.gate.target = g.target ∧ t.gate.lastUsed = g.lastUsed) ∧
          (0 < head → (v : Int) * v ≤ 19620 * head → 19620 * head < ((v : Int) + 1) * (v + 1) →
            t.gate.target = min (roundDiv (r * 1000000000) (c.reach.cd * c.reach.width * v)) c.reach.aMax ∧
            t.gate.lastUsed = some r)) ∧
    (∀ mode opening : Nat, 2 ≤ mode → exec (.gateMode mode opening) s = s.refuses (.gateMode mode opening) 0x1C .badValue) ∧
    let ended := g.drive.isTripped = true ∨ g.drive = .fault
    let cause := g.tripIn = true ∨ (c.levels.levelTrip = true ∧ ∃ u, g.hU = some u ∧ c.levels.upHigh < u)
    (ended → ¬cause → ¬(g.limClosed = true ∧ g.limOpen = true) →
      exec .tripClear s = ({ s with gate := { g with
        drive := .resting, record := .none, restStart := some s.time.elapsed, stallStart := none
        lastOff := if g.drive.on = true then some s.time.elapsed else g.lastOff } } : State).replies .tripClear 0x1D []) ∧
    (¬ended ∨ cause ∨ (g.limClosed = true ∧ g.limOpen = true) → exec .tripClear s = s.refuses .tripClear 0x1D .state)

/-! ## Meters -/

/-- METER_PULSE and NO_FLOW_EXPIRY on a present turnout in WAIT_TIME and RUN (R117 to R123): a pulse within the minimum spacing is rejected, and in RUN counted as a reject;
an accepted one gives the rate estimate over its interval, marks an unordered draw and in RUN is counted; the no-flow time sets the rate to 0.
Only the turnout's entry changes; a pulse at an absent turnout changes nothing. What comes while a period event waits for the meters belongs to the
new meter period: the meter periods are closed first, each key once (how, is log 14: DESIGN CHOICE). -/
def Obligations.MeterPulses : Prop :=
  (∀ s : State,
    (s.running = false ∨ s.inbox.meter = [] → s.settleMeters = s) ∧
    (∀ e, s.running = true → s.inbox.meter = [e] → e.oldKey ≤ s.close.openKey →
      ((∃ k, s.meters.closedKey = some k ∧ e.oldKey ≤ k) → s.settleMeters = s) ∧
      ((∀ k, s.meters.closedKey = some k → k < e.oldKey) →
        exec .meterPeriodClose s = .next (s.settleMeters.withInbox { s.inbox with meter := [] }))) ∧
    (s.running = true → s.settleMeters =
      s.inbox.meter.foldl (fun t e => (t.closePeriod e.oldKey).closeMetersOnce e.oldKey) s)) ∧
  ∀ (s₀ : State) (i : Nat), s₀.working = true →
    let s := s₀.settleMeters
    let x := s.turnout i
    let k := configOf s.settings i
    let now := s.time.elapsed
    let close := ∃ p, x.lastPulse = some p ∧ now < p + k.spacing
    let put := fun y : Turnout => ({ s with meters := { s.meters with turnouts := s.meters.turnouts.set i y } } : State)
    (present s₀.settings i = false → exec (.meterPulse i) s₀ = .next s₀) ∧
    (present s₀.settings i = true →
      (close → s.startup.state = .waitTime → exec (.meterPulse i) s₀ = .next (put x)) ∧
      (close → s.startup.state = .run → exec (.meterPulse i) s₀ = .next (put
        { x with
          rejects := min (x.rejects + 1) 65535
          noisy := x.noisy || decide (8 < min (x.rejects + 1) 65535)
          estimated := x.estimated || (!x.noisy && decide (8 < min (x.rejects + 1) 65535))
          flags := { x.flags with noisy := x.flags.noisy || (!x.noisy && decide (8 < min (x.rejects + 1) 65535)) } })) ∧
      (¬close → ∃ y, exec (.meterPulse i) s₀ = .next (put y) ∧
        y = { x with
          pulses := if s.startup.state = .run then min (x.pulses + 1) 4294967295 else x.pulses
          rate := y.rate, lastPulse := some now, overdraw := y.overdraw
          flags := { x.flags with unorderedDraw := x.flags.unorderedDraw || !s.book.hasLiveDraw i } } ∧
        (x.lastPulse = none → y.rate = x.rate) ∧
        (∀ p, x.lastPulse = some p → y.rate = min (k.litres * 1000 / (now - p)) 32000) ∧
        (s.startup.state = .waitTime → y.overdraw = x.overdraw) ∧
        (s.startup.state = .run → y.overdraw = (x.overdraw && decide (y.rate ≠ 0) &&
          !((s.book.activeOn i).isSome && decide (4 * y.rate ≤ 5 * s.book.grantInForce i))))) ∧
      ∀ p, (s₀.turnout i).lastPulse = some p → p + k.noFlow * 1000 ≤ now →
        exec (.noFlowExpiry i) s₀ = .next (put { x with rate := 0, lastPulse := none, overdraw := false }))

/-! ## The receiver of the station link -/

/-- LINK_CHARACTER_RECEIVED, LINK_FRAME_GAP, LINK_FRAME_RECEIVED, CHECK and UNKNOWN_COMMAND (R168, R170): characters after the sync byte form a frame unless a gap of more than 20 ms
comes between; a length above 1 024 ends it as failed; a complete frame joins the two-entry buffer or sets the overrun mark; a failed frame is
answered CHECK and one that names no command BAD_VALUE, with its kind byte. A frame stands for CHECK exactly when a character had a framing
error, its bytes are not as many as its length says, that passes 1 024, or its check differs; else for the command whose kind and payload it carries; and
for UNKNOWN_COMMAND when the kind names none or calls for another length. Between which edges the gap runs is the model's (log 27: DESIGN CHOICE), and so
is the 2-byte millisecond in the length of TIME_SET (log 11: DESIGN CHOICE). -/
def Obligations.LinkReceiver : Prop :=
  (∀ f : LinkFrame,
    let n := fieldAt f.chars 1 2
    let kind := byteAt f.chars 0
    let payload := (f.chars.drop 3).take n
    let passes := f.bad = false ∧ f.chars.length = 5 + n ∧ n ≤ 1024 ∧ crcBytes (f.chars.take (n + 3)) = f.chars.drop (n + 3)
    let lengths : List (Byte × Nat) :=
      [(0x01, 1), (0x02, 1), (0x03, 2), (0x04, 0), (0x05, 1), (0x06, 1), (0x07, 1), (0x08, 0), (0x10, 7), (0x11, 1), (0x12, 2),
       (0x13, 4), (0x14, 13), (0x15, 2), (0x16, 2), (0x17, 10), (0x18, 2), (0x19, 2), (0x1A, 34), (0x1B, 2), (0x1C, 3), (0x1D, 0),
       (0x1E, 2), (0x1F, 3), (0x20, 3), (0x21, 0), (0x22, 0), (0x23, 0), (0x31, 0)]
    let called := (kind, n) ∈ lengths ∨ (kind = 0x30 ∧ 3 ≤ n ∧ n ≤ 514)
    (¬passes → decodeLink f = .check kind) ∧ (passes → ¬called → decodeLink f = .unknownCommand kind) ∧
    (passes → called → linkPayload (decodeLink f) = some (kind, payload))) ∧
  ∀ s : State, s.startup.powered = true →
    let l := s.link
    let now := s.time.elapsed
    (∀ (b : Byte) (bad : Bool),
      let leads := fun l' : StationLink => exec (.linkCharacterReceived b bad) s = .next { s with link := { l' with lastChar := now } }
      let hunted : LinkRx := if b = 0x5D ∧ bad = false then .frame [] false else .hunt
      (l.rx = .hunt → leads { l with rx := hunted }) ∧
      ∀ chars soFar, l.rx = .frame chars soFar →
        let more := chars ++ [b]
        let n := fieldAt more 1 2
        (l.lastChar + 20 < now → leads { l with rx := hunted }) ∧
        (now ≤ l.lastChar + 20 → more.length = 3 → 1024 < n →
          leads { l with rx := .hunt, arrived := l.arrived ++ [{ chars := more, bad := true }] }) ∧
        (now ≤ l.lastChar + 20 → more.length < 3 ∨ (more.length = 3 ∧ n ≤ 1024) ∨ (3 < more.length ∧ more.length ≠ 5 + n) →
          leads { l with rx := .frame more (soFar || bad) }) ∧
        (now ≤ l.lastChar + 20 → 3 < more.length → more.length = 5 + n →
          leads { l with rx := .hunt, arrived := l.arrived ++ [{ chars := more, bad := soFar || bad }] })) ∧
    (∀ chars soFar, l.rx = .frame chars soFar → l.lastChar + 20 < now →
      exec .linkFrameGap s = .next { s with link := { l with rx := .hunt } }) ∧
    (∀ (frame : List Byte) (bad : Bool),
      let f : LinkFrame := { chars := frame, bad := bad }
      (l.buffer.length < 2 → exec (.linkFrameReceived frame bad) s = .next { s with link := { l with
        arrived := dropHead l.arrived f, buffer := l.buffer ++ [f] } }) ∧
      (2 ≤ l.buffer.length → exec (.linkFrameReceived frame bad) s = .next { s with link := { l with
        arrived := dropHead l.arrived f, overrun := true } })) ∧
    ∀ kind : Byte, exec (.check kind) s = s.refuses (.check kind) kind .check ∧
      exec (.unknownCommand kind) s = s.refuses (.unknownCommand kind) kind .badValue

end
end

