-- ==== Sys2Proof/Laws/State.lean ====
section
/-! SUPPORT. One lemma per field per update of State: what replacing a block leaves in each block. -/

namespace Sys2Proof.Machine

/-! ## withPending -/

@[simp] theorem State.withPending_pending (s : State) (x : List Instr) : (s.withPending x).pending = x := rfl
@[simp] theorem State.withPending_startup (s : State) (x : List Instr) : (s.withPending x).startup = s.startup := rfl
@[simp] theorem State.withPending_settings (s : State) (x : List Instr) : (s.withPending x).settings = s.settings := rfl
@[simp] theorem State.withPending_time (s : State) (x : List Instr) : (s.withPending x).time = s.time := rfl
@[simp] theorem State.withPending_inbox (s : State) (x : List Instr) : (s.withPending x).inbox = s.inbox := rfl
@[simp] theorem State.withPending_book (s : State) (x : List Instr) : (s.withPending x).book = s.book := rfl
@[simp] theorem State.withPending_line (s : State) (x : List Instr) : (s.withPending x).line = s.line := rfl
@[simp] theorem State.withPending_neigh (s : State) (x : List Instr) : (s.withPending x).neigh = s.neigh := rfl
@[simp] theorem State.withPending_planner (s : State) (x : List Instr) : (s.withPending x).planner = s.planner := rfl
@[simp] theorem State.withPending_gate (s : State) (x : List Instr) : (s.withPending x).gate = s.gate := rfl
@[simp] theorem State.withPending_meters (s : State) (x : List Instr) : (s.withPending x).meters = s.meters := rfl
@[simp] theorem State.withPending_close (s : State) (x : List Instr) : (s.withPending x).close = s.close := rfl
@[simp] theorem State.withPending_billing (s : State) (x : List Instr) : (s.withPending x).billing = s.billing := rfl
@[simp] theorem State.withPending_link (s : State) (x : List Instr) : (s.withPending x).link = s.link := rfl
@[simp] theorem State.withPending_alerts (s : State) (x : List Instr) : (s.withPending x).alerts = s.alerts := rfl

/-! ## withStartup -/

@[simp] theorem State.withStartup_pending (s : State) (x : StartUp) : (s.withStartup x).pending = s.pending := rfl
@[simp] theorem State.withStartup_startup (s : State) (x : StartUp) : (s.withStartup x).startup = x := rfl
@[simp] theorem State.withStartup_settings (s : State) (x : StartUp) : (s.withStartup x).settings = s.settings := rfl
@[simp] theorem State.withStartup_time (s : State) (x : StartUp) : (s.withStartup x).time = s.time := rfl
@[simp] theorem State.withStartup_inbox (s : State) (x : StartUp) : (s.withStartup x).inbox = s.inbox := rfl
@[simp] theorem State.withStartup_book (s : State) (x : StartUp) : (s.withStartup x).book = s.book := rfl
@[simp] theorem State.withStartup_line (s : State) (x : StartUp) : (s.withStartup x).line = s.line := rfl
@[simp] theorem State.withStartup_neigh (s : State) (x : StartUp) : (s.withStartup x).neigh = s.neigh := rfl
@[simp] theorem State.withStartup_planner (s : State) (x : StartUp) : (s.withStartup x).planner = s.planner := rfl
@[simp] theorem State.withStartup_gate (s : State) (x : StartUp) : (s.withStartup x).gate = s.gate := rfl
@[simp] theorem State.withStartup_meters (s : State) (x : StartUp) : (s.withStartup x).meters = s.meters := rfl
@[simp] theorem State.withStartup_close (s : State) (x : StartUp) : (s.withStartup x).close = s.close := rfl
@[simp] theorem State.withStartup_billing (s : State) (x : StartUp) : (s.withStartup x).billing = s.billing := rfl
@[simp] theorem State.withStartup_link (s : State) (x : StartUp) : (s.withStartup x).link = s.link := rfl
@[simp] theorem State.withStartup_alerts (s : State) (x : StartUp) : (s.withStartup x).alerts = s.alerts := rfl

/-! ## withSettings -/

@[simp] theorem State.withSettings_pending (s : State) (x : Config.Settings) : (s.withSettings x).pending = s.pending := rfl
@[simp] theorem State.withSettings_startup (s : State) (x : Config.Settings) : (s.withSettings x).startup = s.startup := rfl
@[simp] theorem State.withSettings_settings (s : State) (x : Config.Settings) : (s.withSettings x).settings = x := rfl
@[simp] theorem State.withSettings_time (s : State) (x : Config.Settings) : (s.withSettings x).time = s.time := rfl
@[simp] theorem State.withSettings_inbox (s : State) (x : Config.Settings) : (s.withSettings x).inbox = s.inbox := rfl
@[simp] theorem State.withSettings_book (s : State) (x : Config.Settings) : (s.withSettings x).book = s.book := rfl
@[simp] theorem State.withSettings_line (s : State) (x : Config.Settings) : (s.withSettings x).line = s.line := rfl
@[simp] theorem State.withSettings_neigh (s : State) (x : Config.Settings) : (s.withSettings x).neigh = s.neigh := rfl
@[simp] theorem State.withSettings_planner (s : State) (x : Config.Settings) : (s.withSettings x).planner = s.planner := rfl
@[simp] theorem State.withSettings_gate (s : State) (x : Config.Settings) : (s.withSettings x).gate = s.gate := rfl
@[simp] theorem State.withSettings_meters (s : State) (x : Config.Settings) : (s.withSettings x).meters = s.meters := rfl
@[simp] theorem State.withSettings_close (s : State) (x : Config.Settings) : (s.withSettings x).close = s.close := rfl
@[simp] theorem State.withSettings_billing (s : State) (x : Config.Settings) : (s.withSettings x).billing = s.billing := rfl
@[simp] theorem State.withSettings_link (s : State) (x : Config.Settings) : (s.withSettings x).link = s.link := rfl
@[simp] theorem State.withSettings_alerts (s : State) (x : Config.Settings) : (s.withSettings x).alerts = s.alerts := rfl

/-! ## withTime -/

@[simp] theorem State.withTime_pending (s : State) (x : TimeBase) : (s.withTime x).pending = s.pending := rfl
@[simp] theorem State.withTime_startup (s : State) (x : TimeBase) : (s.withTime x).startup = s.startup := rfl
@[simp] theorem State.withTime_settings (s : State) (x : TimeBase) : (s.withTime x).settings = s.settings := rfl
@[simp] theorem State.withTime_time (s : State) (x : TimeBase) : (s.withTime x).time = x := rfl
@[simp] theorem State.withTime_inbox (s : State) (x : TimeBase) : (s.withTime x).inbox = s.inbox := rfl
@[simp] theorem State.withTime_book (s : State) (x : TimeBase) : (s.withTime x).book = s.book := rfl
@[simp] theorem State.withTime_line (s : State) (x : TimeBase) : (s.withTime x).line = s.line := rfl
@[simp] theorem State.withTime_neigh (s : State) (x : TimeBase) : (s.withTime x).neigh = s.neigh := rfl
@[simp] theorem State.withTime_planner (s : State) (x : TimeBase) : (s.withTime x).planner = s.planner := rfl
@[simp] theorem State.withTime_gate (s : State) (x : TimeBase) : (s.withTime x).gate = s.gate := rfl
@[simp] theorem State.withTime_meters (s : State) (x : TimeBase) : (s.withTime x).meters = s.meters := rfl
@[simp] theorem State.withTime_close (s : State) (x : TimeBase) : (s.withTime x).close = s.close := rfl
@[simp] theorem State.withTime_billing (s : State) (x : TimeBase) : (s.withTime x).billing = s.billing := rfl
@[simp] theorem State.withTime_link (s : State) (x : TimeBase) : (s.withTime x).link = s.link := rfl
@[simp] theorem State.withTime_alerts (s : State) (x : TimeBase) : (s.withTime x).alerts = s.alerts := rfl

/-! ## withInbox -/

@[simp] theorem State.withInbox_pending (s : State) (x : Inbox) : (s.withInbox x).pending = s.pending := rfl
@[simp] theorem State.withInbox_startup (s : State) (x : Inbox) : (s.withInbox x).startup = s.startup := rfl
@[simp] theorem State.withInbox_settings (s : State) (x : Inbox) : (s.withInbox x).settings = s.settings := rfl
@[simp] theorem State.withInbox_time (s : State) (x : Inbox) : (s.withInbox x).time = s.time := rfl
@[simp] theorem State.withInbox_inbox (s : State) (x : Inbox) : (s.withInbox x).inbox = x := rfl
@[simp] theorem State.withInbox_book (s : State) (x : Inbox) : (s.withInbox x).book = s.book := rfl
@[simp] theorem State.withInbox_line (s : State) (x : Inbox) : (s.withInbox x).line = s.line := rfl
@[simp] theorem State.withInbox_neigh (s : State) (x : Inbox) : (s.withInbox x).neigh = s.neigh := rfl
@[simp] theorem State.withInbox_planner (s : State) (x : Inbox) : (s.withInbox x).planner = s.planner := rfl
@[simp] theorem State.withInbox_gate (s : State) (x : Inbox) : (s.withInbox x).gate = s.gate := rfl
@[simp] theorem State.withInbox_meters (s : State) (x : Inbox) : (s.withInbox x).meters = s.meters := rfl
@[simp] theorem State.withInbox_close (s : State) (x : Inbox) : (s.withInbox x).close = s.close := rfl
@[simp] theorem State.withInbox_billing (s : State) (x : Inbox) : (s.withInbox x).billing = s.billing := rfl
@[simp] theorem State.withInbox_link (s : State) (x : Inbox) : (s.withInbox x).link = s.link := rfl
@[simp] theorem State.withInbox_alerts (s : State) (x : Inbox) : (s.withInbox x).alerts = s.alerts := rfl

/-! ## withBook -/

@[simp] theorem State.withBook_pending (s : State) (x : OrderBook) : (s.withBook x).pending = s.pending := rfl
@[simp] theorem State.withBook_startup (s : State) (x : OrderBook) : (s.withBook x).startup = s.startup := rfl
@[simp] theorem State.withBook_settings (s : State) (x : OrderBook) : (s.withBook x).settings = s.settings := rfl
@[simp] theorem State.withBook_time (s : State) (x : OrderBook) : (s.withBook x).time = s.time := rfl
@[simp] theorem State.withBook_inbox (s : State) (x : OrderBook) : (s.withBook x).inbox = s.inbox := rfl
@[simp] theorem State.withBook_book (s : State) (x : OrderBook) : (s.withBook x).book = x := rfl
@[simp] theorem State.withBook_line (s : State) (x : OrderBook) : (s.withBook x).line = s.line := rfl
@[simp] theorem State.withBook_neigh (s : State) (x : OrderBook) : (s.withBook x).neigh = s.neigh := rfl
@[simp] theorem State.withBook_planner (s : State) (x : OrderBook) : (s.withBook x).planner = s.planner := rfl
@[simp] theorem State.withBook_gate (s : State) (x : OrderBook) : (s.withBook x).gate = s.gate := rfl
@[simp] theorem State.withBook_meters (s : State) (x : OrderBook) : (s.withBook x).meters = s.meters := rfl
@[simp] theorem State.withBook_close (s : State) (x : OrderBook) : (s.withBook x).close = s.close := rfl
@[simp] theorem State.withBook_billing (s : State) (x : OrderBook) : (s.withBook x).billing = s.billing := rfl
@[simp] theorem State.withBook_link (s : State) (x : OrderBook) : (s.withBook x).link = s.link := rfl
@[simp] theorem State.withBook_alerts (s : State) (x : OrderBook) : (s.withBook x).alerts = s.alerts := rfl

/-! ## withLine -/

@[simp] theorem State.withLine_pending (s : State) (x : LineInterface) : (s.withLine x).pending = s.pending := rfl
@[simp] theorem State.withLine_startup (s : State) (x : LineInterface) : (s.withLine x).startup = s.startup := rfl
@[simp] theorem State.withLine_settings (s : State) (x : LineInterface) : (s.withLine x).settings = s.settings := rfl
@[simp] theorem State.withLine_time (s : State) (x : LineInterface) : (s.withLine x).time = s.time := rfl
@[simp] theorem State.withLine_inbox (s : State) (x : LineInterface) : (s.withLine x).inbox = s.inbox := rfl
@[simp] theorem State.withLine_book (s : State) (x : LineInterface) : (s.withLine x).book = s.book := rfl
@[simp] theorem State.withLine_line (s : State) (x : LineInterface) : (s.withLine x).line = x := rfl
@[simp] theorem State.withLine_neigh (s : State) (x : LineInterface) : (s.withLine x).neigh = s.neigh := rfl
@[simp] theorem State.withLine_planner (s : State) (x : LineInterface) : (s.withLine x).planner = s.planner := rfl
@[simp] theorem State.withLine_gate (s : State) (x : LineInterface) : (s.withLine x).gate = s.gate := rfl
@[simp] theorem State.withLine_meters (s : State) (x : LineInterface) : (s.withLine x).meters = s.meters := rfl
@[simp] theorem State.withLine_close (s : State) (x : LineInterface) : (s.withLine x).close = s.close := rfl
@[simp] theorem State.withLine_billing (s : State) (x : LineInterface) : (s.withLine x).billing = s.billing := rfl
@[simp] theorem State.withLine_link (s : State) (x : LineInterface) : (s.withLine x).link = s.link := rfl
@[simp] theorem State.withLine_alerts (s : State) (x : LineInterface) : (s.withLine x).alerts = s.alerts := rfl

/-! ## withNeigh -/

@[simp] theorem State.withNeigh_pending (s : State) (x : NeighbourTable) : (s.withNeigh x).pending = s.pending := rfl
@[simp] theorem State.withNeigh_startup (s : State) (x : NeighbourTable) : (s.withNeigh x).startup = s.startup := rfl
@[simp] theorem State.withNeigh_settings (s : State) (x : NeighbourTable) : (s.withNeigh x).settings = s.settings := rfl
@[simp] theorem State.withNeigh_time (s : State) (x : NeighbourTable) : (s.withNeigh x).time = s.time := rfl
@[simp] theorem State.withNeigh_inbox (s : State) (x : NeighbourTable) : (s.withNeigh x).inbox = s.inbox := rfl
@[simp] theorem State.withNeigh_book (s : State) (x : NeighbourTable) : (s.withNeigh x).book = s.book := rfl
@[simp] theorem State.withNeigh_line (s : State) (x : NeighbourTable) : (s.withNeigh x).line = s.line := rfl
@[simp] theorem State.withNeigh_neigh (s : State) (x : NeighbourTable) : (s.withNeigh x).neigh = x := rfl
@[simp] theorem State.withNeigh_planner (s : State) (x : NeighbourTable) : (s.withNeigh x).planner = s.planner := rfl
@[simp] theorem State.withNeigh_gate (s : State) (x : NeighbourTable) : (s.withNeigh x).gate = s.gate := rfl
@[simp] theorem State.withNeigh_meters (s : State) (x : NeighbourTable) : (s.withNeigh x).meters = s.meters := rfl
@[simp] theorem State.withNeigh_close (s : State) (x : NeighbourTable) : (s.withNeigh x).close = s.close := rfl
@[simp] theorem State.withNeigh_billing (s : State) (x : NeighbourTable) : (s.withNeigh x).billing = s.billing := rfl
@[simp] theorem State.withNeigh_link (s : State) (x : NeighbourTable) : (s.withNeigh x).link = s.link := rfl
@[simp] theorem State.withNeigh_alerts (s : State) (x : NeighbourTable) : (s.withNeigh x).alerts = s.alerts := rfl

/-! ## withPlanner -/

@[simp] theorem State.withPlanner_pending (s : State) (x : Planner) : (s.withPlanner x).pending = s.pending := rfl
@[simp] theorem State.withPlanner_startup (s : State) (x : Planner) : (s.withPlanner x).startup = s.startup := rfl
@[simp] theorem State.withPlanner_settings (s : State) (x : Planner) : (s.withPlanner x).settings = s.settings := rfl
@[simp] theorem State.withPlanner_time (s : State) (x : Planner) : (s.withPlanner x).time = s.time := rfl
@[simp] theorem State.withPlanner_inbox (s : State) (x : Planner) : (s.withPlanner x).inbox = s.inbox := rfl
@[simp] theorem State.withPlanner_book (s : State) (x : Planner) : (s.withPlanner x).book = s.book := rfl
@[simp] theorem State.withPlanner_line (s : State) (x : Planner) : (s.withPlanner x).line = s.line := rfl
@[simp] theorem State.withPlanner_neigh (s : State) (x : Planner) : (s.withPlanner x).neigh = s.neigh := rfl
@[simp] theorem State.withPlanner_planner (s : State) (x : Planner) : (s.withPlanner x).planner = x := rfl
@[simp] theorem State.withPlanner_gate (s : State) (x : Planner) : (s.withPlanner x).gate = s.gate := rfl
@[simp] theorem State.withPlanner_meters (s : State) (x : Planner) : (s.withPlanner x).meters = s.meters := rfl
@[simp] theorem State.withPlanner_close (s : State) (x : Planner) : (s.withPlanner x).close = s.close := rfl
@[simp] theorem State.withPlanner_billing (s : State) (x : Planner) : (s.withPlanner x).billing = s.billing := rfl
@[simp] theorem State.withPlanner_link (s : State) (x : Planner) : (s.withPlanner x).link = s.link := rfl
@[simp] theorem State.withPlanner_alerts (s : State) (x : Planner) : (s.withPlanner x).alerts = s.alerts := rfl

/-! ## withGate -/

@[simp] theorem State.withGate_pending (s : State) (x : Gate) : (s.withGate x).pending = s.pending := rfl
@[simp] theorem State.withGate_startup (s : State) (x : Gate) : (s.withGate x).startup = s.startup := rfl
@[simp] theorem State.withGate_settings (s : State) (x : Gate) : (s.withGate x).settings = s.settings := rfl
@[simp] theorem State.withGate_time (s : State) (x : Gate) : (s.withGate x).time = s.time := rfl
@[simp] theorem State.withGate_inbox (s : State) (x : Gate) : (s.withGate x).inbox = s.inbox := rfl
@[simp] theorem State.withGate_book (s : State) (x : Gate) : (s.withGate x).book = s.book := rfl
@[simp] theorem State.withGate_line (s : State) (x : Gate) : (s.withGate x).line = s.line := rfl
@[simp] theorem State.withGate_neigh (s : State) (x : Gate) : (s.withGate x).neigh = s.neigh := rfl
@[simp] theorem State.withGate_planner (s : State) (x : Gate) : (s.withGate x).planner = s.planner := rfl
@[simp] theorem State.withGate_gate (s : State) (x : Gate) : (s.withGate x).gate = x := rfl
@[simp] theorem State.withGate_meters (s : State) (x : Gate) : (s.withGate x).meters = s.meters := rfl
@[simp] theorem State.withGate_close (s : State) (x : Gate) : (s.withGate x).close = s.close := rfl
@[simp] theorem State.withGate_billing (s : State) (x : Gate) : (s.withGate x).billing = s.billing := rfl
@[simp] theorem State.withGate_link (s : State) (x : Gate) : (s.withGate x).link = s.link := rfl
@[simp] theorem State.withGate_alerts (s : State) (x : Gate) : (s.withGate x).alerts = s.alerts := rfl

/-! ## withMeters -/

@[simp] theorem State.withMeters_pending (s : State) (x : MeterUnit) : (s.withMeters x).pending = s.pending := rfl
@[simp] theorem State.withMeters_startup (s : State) (x : MeterUnit) : (s.withMeters x).startup = s.startup := rfl
@[simp] theorem State.withMeters_settings (s : State) (x : MeterUnit) : (s.withMeters x).settings = s.settings := rfl
@[simp] theorem State.withMeters_time (s : State) (x : MeterUnit) : (s.withMeters x).time = s.time := rfl
@[simp] theorem State.withMeters_inbox (s : State) (x : MeterUnit) : (s.withMeters x).inbox = s.inbox := rfl
@[simp] theorem State.withMeters_book (s : State) (x : MeterUnit) : (s.withMeters x).book = s.book := rfl
@[simp] theorem State.withMeters_line (s : State) (x : MeterUnit) : (s.withMeters x).line = s.line := rfl
@[simp] theorem State.withMeters_neigh (s : State) (x : MeterUnit) : (s.withMeters x).neigh = s.neigh := rfl
@[simp] theorem State.withMeters_planner (s : State) (x : MeterUnit) : (s.withMeters x).planner = s.planner := rfl
@[simp] theorem State.withMeters_gate (s : State) (x : MeterUnit) : (s.withMeters x).gate = s.gate := rfl
@[simp] theorem State.withMeters_meters (s : State) (x : MeterUnit) : (s.withMeters x).meters = x := rfl
@[simp] theorem State.withMeters_close (s : State) (x : MeterUnit) : (s.withMeters x).close = s.close := rfl
@[simp] theorem State.withMeters_billing (s : State) (x : MeterUnit) : (s.withMeters x).billing = s.billing := rfl
@[simp] theorem State.withMeters_link (s : State) (x : MeterUnit) : (s.withMeters x).link = s.link := rfl
@[simp] theorem State.withMeters_alerts (s : State) (x : MeterUnit) : (s.withMeters x).alerts = s.alerts := rfl

/-! ## withClose -/

@[simp] theorem State.withClose_pending (s : State) (x : CloseUnit) : (s.withClose x).pending = s.pending := rfl
@[simp] theorem State.withClose_startup (s : State) (x : CloseUnit) : (s.withClose x).startup = s.startup := rfl
@[simp] theorem State.withClose_settings (s : State) (x : CloseUnit) : (s.withClose x).settings = s.settings := rfl
@[simp] theorem State.withClose_time (s : State) (x : CloseUnit) : (s.withClose x).time = s.time := rfl
@[simp] theorem State.withClose_inbox (s : State) (x : CloseUnit) : (s.withClose x).inbox = s.inbox := rfl
@[simp] theorem State.withClose_book (s : State) (x : CloseUnit) : (s.withClose x).book = s.book := rfl
@[simp] theorem State.withClose_line (s : State) (x : CloseUnit) : (s.withClose x).line = s.line := rfl
@[simp] theorem State.withClose_neigh (s : State) (x : CloseUnit) : (s.withClose x).neigh = s.neigh := rfl
@[simp] theorem State.withClose_planner (s : State) (x : CloseUnit) : (s.withClose x).planner = s.planner := rfl
@[simp] theorem State.withClose_gate (s : State) (x : CloseUnit) : (s.withClose x).gate = s.gate := rfl
@[simp] theorem State.withClose_meters (s : State) (x : CloseUnit) : (s.withClose x).meters = s.meters := rfl
@[simp] theorem State.withClose_close (s : State) (x : CloseUnit) : (s.withClose x).close = x := rfl
@[simp] theorem State.withClose_billing (s : State) (x : CloseUnit) : (s.withClose x).billing = s.billing := rfl
@[simp] theorem State.withClose_link (s : State) (x : CloseUnit) : (s.withClose x).link = s.link := rfl
@[simp] theorem State.withClose_alerts (s : State) (x : CloseUnit) : (s.withClose x).alerts = s.alerts := rfl

/-! ## withBilling -/

@[simp] theorem State.withBilling_pending (s : State) (x : Billing) : (s.withBilling x).pending = s.pending := rfl
@[simp] theorem State.withBilling_startup (s : State) (x : Billing) : (s.withBilling x).startup = s.startup := rfl
@[simp] theorem State.withBilling_settings (s : State) (x : Billing) : (s.withBilling x).settings = s.settings := rfl
@[simp] theorem State.withBilling_time (s : State) (x : Billing) : (s.withBilling x).time = s.time := rfl
@[simp] theorem State.withBilling_inbox (s : State) (x : Billing) : (s.withBilling x).inbox = s.inbox := rfl
@[simp] theorem State.withBilling_book (s : State) (x : Billing) : (s.withBilling x).book = s.book := rfl
@[simp] theorem State.withBilling_line (s : State) (x : Billing) : (s.withBilling x).line = s.line := rfl
@[simp] theorem State.withBilling_neigh (s : State) (x : Billing) : (s.withBilling x).neigh = s.neigh := rfl
@[simp] theorem State.withBilling_planner (s : State) (x : Billing) : (s.withBilling x).planner = s.planner := rfl
@[simp] theorem State.withBilling_gate (s : State) (x : Billing) : (s.withBilling x).gate = s.gate := rfl
@[simp] theorem State.withBilling_meters (s : State) (x : Billing) : (s.withBilling x).meters = s.meters := rfl
@[simp] theorem State.withBilling_close (s : State) (x : Billing) : (s.withBilling x).close = s.close := rfl
@[simp] theorem State.withBilling_billing (s : State) (x : Billing) : (s.withBilling x).billing = x := rfl
@[simp] theorem State.withBilling_link (s : State) (x : Billing) : (s.withBilling x).link = s.link := rfl
@[simp] theorem State.withBilling_alerts (s : State) (x : Billing) : (s.withBilling x).alerts = s.alerts := rfl

/-! ## withLink -/

@[simp] theorem State.withLink_pending (s : State) (x : StationLink) : (s.withLink x).pending = s.pending := rfl
@[simp] theorem State.withLink_startup (s : State) (x : StationLink) : (s.withLink x).startup = s.startup := rfl
@[simp] theorem State.withLink_settings (s : State) (x : StationLink) : (s.withLink x).settings = s.settings := rfl
@[simp] theorem State.withLink_time (s : State) (x : StationLink) : (s.withLink x).time = s.time := rfl
@[simp] theorem State.withLink_inbox (s : State) (x : StationLink) : (s.withLink x).inbox = s.inbox := rfl
@[simp] theorem State.withLink_book (s : State) (x : StationLink) : (s.withLink x).book = s.book := rfl
@[simp] theorem State.withLink_line (s : State) (x : StationLink) : (s.withLink x).line = s.line := rfl
@[simp] theorem State.withLink_neigh (s : State) (x : StationLink) : (s.withLink x).neigh = s.neigh := rfl
@[simp] theorem State.withLink_planner (s : State) (x : StationLink) : (s.withLink x).planner = s.planner := rfl
@[simp] theorem State.withLink_gate (s : State) (x : StationLink) : (s.withLink x).gate = s.gate := rfl
@[simp] theorem State.withLink_meters (s : State) (x : StationLink) : (s.withLink x).meters = s.meters := rfl
@[simp] theorem State.withLink_close (s : State) (x : StationLink) : (s.withLink x).close = s.close := rfl
@[simp] theorem State.withLink_billing (s : State) (x : StationLink) : (s.withLink x).billing = s.billing := rfl
@[simp] theorem State.withLink_link (s : State) (x : StationLink) : (s.withLink x).link = x := rfl
@[simp] theorem State.withLink_alerts (s : State) (x : StationLink) : (s.withLink x).alerts = s.alerts := rfl

/-! ## withAlerts -/

@[simp] theorem State.withAlerts_pending (s : State) (x : Alerts) : (s.withAlerts x).pending = s.pending := rfl
@[simp] theorem State.withAlerts_startup (s : State) (x : Alerts) : (s.withAlerts x).startup = s.startup := rfl
@[simp] theorem State.withAlerts_settings (s : State) (x : Alerts) : (s.withAlerts x).settings = s.settings := rfl
@[simp] theorem State.withAlerts_time (s : State) (x : Alerts) : (s.withAlerts x).time = s.time := rfl
@[simp] theorem State.withAlerts_inbox (s : State) (x : Alerts) : (s.withAlerts x).inbox = s.inbox := rfl
@[simp] theorem State.withAlerts_book (s : State) (x : Alerts) : (s.withAlerts x).book = s.book := rfl
@[simp] theorem State.withAlerts_line (s : State) (x : Alerts) : (s.withAlerts x).line = s.line := rfl
@[simp] theorem State.withAlerts_neigh (s : State) (x : Alerts) : (s.withAlerts x).neigh = s.neigh := rfl
@[simp] theorem State.withAlerts_planner (s : State) (x : Alerts) : (s.withAlerts x).planner = s.planner := rfl
@[simp] theorem State.withAlerts_gate (s : State) (x : Alerts) : (s.withAlerts x).gate = s.gate := rfl
@[simp] theorem State.withAlerts_meters (s : State) (x : Alerts) : (s.withAlerts x).meters = s.meters := rfl
@[simp] theorem State.withAlerts_close (s : State) (x : Alerts) : (s.withAlerts x).close = s.close := rfl
@[simp] theorem State.withAlerts_billing (s : State) (x : Alerts) : (s.withAlerts x).billing = s.billing := rfl
@[simp] theorem State.withAlerts_link (s : State) (x : Alerts) : (s.withAlerts x).link = s.link := rfl
@[simp] theorem State.withAlerts_alerts (s : State) (x : Alerts) : (s.withAlerts x).alerts = x := rfl

/-- Two states with the same blocks are the same state. -/
@[ext] theorem State.ext_blocks {s t : State} (h0 : s.pending = t.pending) (h1 : s.startup = t.startup) (h2 : s.settings = t.settings) (h3 : s.time = t.time) (h4 : s.inbox = t.inbox) (h5 : s.book = t.book) (h6 : s.line = t.line) (h7 : s.neigh = t.neigh) (h8 : s.planner = t.planner) (h9 : s.gate = t.gate) (h10 : s.meters = t.meters) (h11 : s.close = t.close) (h12 : s.billing = t.billing) (h13 : s.link = t.link) (h14 : s.alerts = t.alerts) : s = t := by
  cases s; cases t; simp_all

end Sys2Proof.Machine
end

