-- ==== Sys2Proof/Laws/Alerts.lean ====
section
/-! SUPPORT. The alert marks cause by cause, and the pending set after a raise and an acknowledgement. -/

namespace Sys2Proof.Machine

/-- The mark of a cause marks it alone. -/
@[simp] theorem hasCause_mark (c d : Cause) : hasCause c.mark d = decide (d = c) := by cases c <;> cases d <;> decide

/-- A union of marks. -/
@[simp] theorem hasCause_or (m n : BitVec 17) (c : Cause) : hasCause (m ||| n) c = (hasCause m c || hasCause n c) := by
  simp [hasCause]

/-- A cause of the union of the causes that satisfy a test. -/
@[simp] theorem hasCause_causesWhere (p : Cause → Bool) (c : Cause) : hasCause (causesWhere p) c = p c := by
  have h : ∀ l : List Cause, hasCause (l.foldr (fun c m => if p c then m ||| c.mark else m) 0) c = (l.any fun d => p d && decide (c = d)) := by
    intro l
    induction l with
    | nil => simp [hasCause]
    | cons d l ih =>
      rw [List.foldr_cons, List.any_cons, ← ih]
      by_cases hd : p d = true
      · simp only [hd, if_true, hasCause_or, hasCause_mark, Bool.true_and, Bool.or_comm]
      · simp [hd]
  rw [causesWhere, h]
  cases c <;> simp [allCauses]

/-- A raise makes its cause pending and leaves the others (R174). -/
@[simp] theorem hasCause_raise (a : Alerts) (c d : Cause) :
    hasCause (a.raise c).pending d = (hasCause a.pending d || decide (d = c)) := by simp [Alerts.raise]

/-- A raise leaves the masks and the moderation timer. -/
@[simp] theorem Alerts.raise_masks (a : Alerts) (c : Cause) : (a.raise c).masks = a.masks := rfl
@[simp] theorem Alerts.raise_moderation (a : Alerts) (c : Cause) : (a.raise c).moderation = a.moderation := rfl

/-- A raise on a condition. -/
theorem hasCause_raiseIf (s : State) (b : Bool) (c d : Cause) :
    hasCause (s.raiseIf b c).alerts.pending d = (hasCause s.alerts.pending d || (b && decide (d = c))) := by
  cases b <;> simp [State.raiseIf, State.raise]

/-- A raise changes nothing of the alerts but the pending set. -/
theorem State.raiseIf_alerts (s : State) (b : Bool) (c : Cause) :
    (s.raiseIf b c).alerts = { s.alerts with pending := (s.raiseIf b c).alerts.pending } := by cases b <;> rfl

/-- An acknowledgement leaves pending what is unmarked or persists (R175). -/
theorem hasCause_acknowledge (s : State) (m : BitVec 17) (c : Cause) :
    hasCause (s.acknowledge m).alerts.pending c = (hasCause s.alerts.pending c && (!hasCause m c || s.persists c)) := by
  have hc : c.place < 17 := by cases c <;> decide
  have hp : s.persisting[c.place] = s.persists c := by
    rw [← BitVec.getLsbD_eq_getElem]; exact hasCause_causesWhere s.persists c
  simp [State.acknowledge, hasCause, hp, hc]

end Sys2Proof.Machine
end

