-- ==== Sys2Proof/Laws/Book.lean ====
section
/-! SUPPORT. The slots of the Order Book: what a slot holds after a write, the list of live slots, and the fields that the operations on one order
keep. -/

namespace Sys2Proof.Machine

variable {b : OrderBook} {slot : Nat} {o : Order}

/-- A slot that exists, after a write. -/
theorem OrderBook.at?_put_self (x : Option Order) (h : slot < b.slots.length) : (b.put slot x).at? slot = x := by
  simp [OrderBook.put, OrderBook.at?, h]

/-- The other slots, after a write. -/
theorem OrderBook.at?_put_of_ne (x : Option Order) {i : Nat} (h : slot ≠ i) : (b.put slot x).at? i = b.at? i := by
  simp [OrderBook.put, OrderBook.at?, h]

/-- A write leaves the book key. -/
@[simp] theorem OrderBook.put_bookKey (x : Option Order) : (b.put slot x).bookKey = b.bookKey := rfl

/-- A write leaves the number of slots. -/
@[simp] theorem OrderBook.put_length (x : Option Order) : (b.put slot x).slots.length = b.slots.length := by simp [OrderBook.put]

/-- A live slot exists. -/
theorem OrderBook.lt_of_at? (h : b.at? slot = some o) : slot < b.slots.length := by
  rcases Nat.lt_or_ge slot b.slots.length with hs | hs
  · exact hs
  · simp [OrderBook.at?, List.getElem?_eq_none hs] at h

/-- The list of live slots holds each live slot with its record. -/
theorem OrderBook.mem_live : (slot, o) ∈ b.live ↔ b.at? slot = some o := by
  simp only [OrderBook.live, OrderBook.at?, List.mem_filterMap, Prod.exists, List.mem_zipIdx_iff_getElem?, Option.map_eq_some_iff,
    Prod.mk.injEq, Option.join_eq_some_iff]
  constructor
  · rintro ⟨x, i, hx, y, rfl, rfl, rfl⟩; exact hx
  · intro h; exact ⟨_, _, h, _, rfl, rfl, rfl⟩

/-- A grant write changes the schedule and the period floor grant alone (R31, R32). -/
theorem Order.writeGrant_eq (bookKey key rate : Nat) (o : Order) :
    o.writeGrant bookKey key rate = { o with grants := (o.writeGrant bookKey key rate).grants, floor := (o.writeGrant bookKey key rate).floor } := by
  unfold Order.writeGrant
  split
  · rfl
  · split
    · rfl
    · split <;> rfl

/-- A CLOSED_UNBILLED order takes no grant (R22). -/
theorem Order.writeGrant_closed (bookKey key rate : Nat) (h : o.state = .closedUnbilled) : o.writeGrant bookKey key rate = o := by
  simp [Order.writeGrant, Order.planned, h]

/-- A grant write raises no period floor grant (R32). -/
theorem Order.writeGrant_floor_le (bookKey key rate : Nat) (o : Order) : (o.writeGrant bookKey key rate).floor ≤ o.floor := by
  unfold Order.writeGrant
  split
  · exact Nat.le_refl _
  · split
    · exact Nat.le_refl _
    · split
      · exact Nat.le_refl _
      · simp only; split
        · exact Nat.min_le_left _ _
        · exact Nat.le_refl _

/-- The shift, the freeze and the new floor leave the order's other fields (R19). -/
theorem Order.shift_eq (c : Config.Settings) (n : Nat) (o : Order) :
    o.shift c n = { o with grants := (o.shift c n).grants, floor := (o.shift c n).floor } := rfl

end Sys2Proof.Machine
end

