-- ==== Sys2Proof/Laws/Frames.lean ====
section
/-! SUPPORT. The frames of the shared operations: for each, in one lemma, the blocks that it leaves as they are. -/

namespace Sys2Proof.Machine

variable (s : State)

/-- Raising a cause (R174). -/
@[simp] theorem State.raise_frame (c : Cause) :
    (s.raise c).pending = s.pending ∧ (s.raise c).startup = s.startup ∧ (s.raise c).settings = s.settings ∧ (s.raise
    c).time = s.time ∧ (s.raise c).inbox = s.inbox ∧ (s.raise c).book = s.book ∧ (s.raise c).line = s.line ∧ (s.raise
    c).neigh = s.neigh ∧ (s.raise c).planner = s.planner ∧ (s.raise c).gate = s.gate ∧ (s.raise c).meters = s.meters ∧
    (s.raise c).close = s.close ∧ (s.raise c).billing = s.billing ∧ (s.raise c).link = s.link := by
  refine ⟨rfl, rfl, rfl, rfl, rfl, rfl, rfl, rfl, rfl, rfl, rfl, rfl, rfl, rfl⟩

/-- Raising a cause on a condition. -/
@[simp] theorem State.raiseIf_frame (b : Bool) (c : Cause) :
    (s.raiseIf b c).pending = s.pending ∧ (s.raiseIf b c).startup = s.startup ∧ (s.raiseIf b c).settings = s.settings
    ∧ (s.raiseIf b c).time = s.time ∧ (s.raiseIf b c).inbox = s.inbox ∧ (s.raiseIf b c).book = s.book ∧ (s.raiseIf b
    c).line = s.line ∧ (s.raiseIf b c).neigh = s.neigh ∧ (s.raiseIf b c).planner = s.planner ∧ (s.raiseIf b c).gate =
    s.gate ∧ (s.raiseIf b c).meters = s.meters ∧ (s.raiseIf b c).close = s.close ∧ (s.raiseIf b c).billing = s.billing
    ∧ (s.raiseIf b c).link = s.link := by
  cases b <;> simp [State.raiseIf]

/-- An acknowledgement (R175). -/
@[simp] theorem State.acknowledge_frame (m : BitVec 17) :
    (s.acknowledge m).pending = s.pending ∧ (s.acknowledge m).startup = s.startup ∧ (s.acknowledge m).settings =
    s.settings ∧ (s.acknowledge m).time = s.time ∧ (s.acknowledge m).inbox = s.inbox ∧ (s.acknowledge m).book = s.book
    ∧ (s.acknowledge m).line = s.line ∧ (s.acknowledge m).neigh = s.neigh ∧ (s.acknowledge m).planner = s.planner ∧
    (s.acknowledge m).gate = s.gate ∧ (s.acknowledge m).meters = s.meters ∧ (s.acknowledge m).close = s.close ∧
    (s.acknowledge m).billing = s.billing ∧ (s.acknowledge m).link = s.link := by
  refine ⟨rfl, rfl, rfl, rfl, rfl, rfl, rfl, rfl, rfl, rfl, rfl, rfl, rfl, rfl⟩

/-- Moderation after an ALERT_ACK (R177). -/
@[simp] theorem State.moderate_frame :
    (s.moderate).pending = s.pending ∧ (s.moderate).startup = s.startup ∧ (s.moderate).settings = s.settings ∧
    (s.moderate).time = s.time ∧ (s.moderate).inbox = s.inbox ∧ (s.moderate).book = s.book ∧ (s.moderate).line =
    s.line ∧ (s.moderate).neigh = s.neigh ∧ (s.moderate).planner = s.planner ∧ (s.moderate).gate = s.gate ∧
    (s.moderate).meters = s.meters ∧ (s.moderate).close = s.close ∧ (s.moderate).billing = s.billing ∧
    (s.moderate).link = s.link := by
  unfold State.moderate; split <;> simp

/-- A REACH request (R47). -/
@[simp] theorem State.requestReach_frame :
    (s.requestReach).pending = s.pending ∧ (s.requestReach).startup = s.startup ∧ (s.requestReach).settings =
    s.settings ∧ (s.requestReach).time = s.time ∧ (s.requestReach).inbox = s.inbox ∧ (s.requestReach).book = s.book ∧
    (s.requestReach).neigh = s.neigh ∧ (s.requestReach).planner = s.planner ∧ (s.requestReach).gate = s.gate ∧
    (s.requestReach).meters = s.meters ∧ (s.requestReach).close = s.close ∧ (s.requestReach).billing = s.billing ∧
    (s.requestReach).link = s.link ∧ (s.requestReach).alerts = s.alerts := by
  refine ⟨rfl, rfl, rfl, rfl, rfl, rfl, rfl, rfl, rfl, rfl, rfl, rfl, rfl, rfl⟩

/-- A WATCH request (R50). -/
@[simp] theorem State.requestWatch_frame :
    (s.requestWatch).pending = s.pending ∧ (s.requestWatch).startup = s.startup ∧ (s.requestWatch).settings =
    s.settings ∧ (s.requestWatch).time = s.time ∧ (s.requestWatch).inbox = s.inbox ∧ (s.requestWatch).book = s.book ∧
    (s.requestWatch).neigh = s.neigh ∧ (s.requestWatch).planner = s.planner ∧ (s.requestWatch).gate = s.gate ∧
    (s.requestWatch).meters = s.meters ∧ (s.requestWatch).close = s.close ∧ (s.requestWatch).billing = s.billing ∧
    (s.requestWatch).link = s.link ∧ (s.requestWatch).alerts = s.alerts := by
  unfold State.requestWatch; split <;> simp

/-- The comparison with the last-sent copy (R49). -/
@[simp] theorem State.comparePlan_frame (r : PlanResults) :
    (s.comparePlan r).pending = s.pending ∧ (s.comparePlan r).startup = s.startup ∧ (s.comparePlan r).settings =
    s.settings ∧ (s.comparePlan r).time = s.time ∧ (s.comparePlan r).inbox = s.inbox ∧ (s.comparePlan r).book = s.book
    ∧ (s.comparePlan r).neigh = s.neigh ∧ (s.comparePlan r).planner = s.planner ∧ (s.comparePlan r).gate = s.gate ∧
    (s.comparePlan r).meters = s.meters ∧ (s.comparePlan r).close = s.close ∧ (s.comparePlan r).billing = s.billing ∧
    (s.comparePlan r).link = s.link ∧ (s.comparePlan r).alerts = s.alerts := by
  unfold State.comparePlan; split <;> simp

/-- A recompute (R67, R80, R81, R84, R49, R33). -/
@[simp] theorem State.recompute_frame :
    (s.recompute).pending = s.pending ∧ (s.recompute).startup = s.startup ∧ (s.recompute).settings = s.settings ∧
    (s.recompute).time = s.time ∧ (s.recompute).inbox = s.inbox ∧ (s.recompute).neigh = s.neigh ∧ (s.recompute).meters
    = s.meters ∧ (s.recompute).close = s.close ∧ (s.recompute).billing = s.billing ∧ (s.recompute).link = s.link := by
  unfold State.recompute; split <;> simp

/-- The period change of the Planner (R68). -/
@[simp] theorem State.planPeriodChange_frame (k : Nat) :
    (s.planPeriodChange k).pending = s.pending ∧ (s.planPeriodChange k).startup = s.startup ∧ (s.planPeriodChange
    k).settings = s.settings ∧ (s.planPeriodChange k).time = s.time ∧ (s.planPeriodChange k).inbox = s.inbox ∧
    (s.planPeriodChange k).neigh = s.neigh ∧ (s.planPeriodChange k).meters = s.meters ∧ (s.planPeriodChange k).close =
    s.close ∧ (s.planPeriodChange k).billing = s.billing ∧ (s.planPeriodChange k).link = s.link := by
  unfold State.planPeriodChange; split <;> simp

/-- Putting a turnout entry. -/
@[simp] theorem State.putTurnout_frame (i : Nat) (t : Turnout) :
    (s.putTurnout i t).pending = s.pending ∧ (s.putTurnout i t).startup = s.startup ∧ (s.putTurnout i t).settings =
    s.settings ∧ (s.putTurnout i t).time = s.time ∧ (s.putTurnout i t).inbox = s.inbox ∧ (s.putTurnout i t).book =
    s.book ∧ (s.putTurnout i t).line = s.line ∧ (s.putTurnout i t).neigh = s.neigh ∧ (s.putTurnout i t).planner =
    s.planner ∧ (s.putTurnout i t).gate = s.gate ∧ (s.putTurnout i t).close = s.close ∧ (s.putTurnout i t).billing =
    s.billing ∧ (s.putTurnout i t).link = s.link ∧ (s.putTurnout i t).alerts = s.alerts := by
  refine ⟨rfl, rfl, rfl, rfl, rfl, rfl, rfl, rfl, rfl, rfl, rfl, rfl, rfl, rfl⟩

/-- A charge (R153, R154). -/
@[simp] theorem State.chargeAccount_frame (i v a : Nat) :
    (s.chargeAccount i v a).pending = s.pending ∧ (s.chargeAccount i v a).startup = s.startup ∧ (s.chargeAccount i v
    a).settings = s.settings ∧ (s.chargeAccount i v a).time = s.time ∧ (s.chargeAccount i v a).inbox = s.inbox ∧
    (s.chargeAccount i v a).book = s.book ∧ (s.chargeAccount i v a).line = s.line ∧ (s.chargeAccount i v a).neigh =
    s.neigh ∧ (s.chargeAccount i v a).planner = s.planner ∧ (s.chargeAccount i v a).gate = s.gate ∧ (s.chargeAccount i
    v a).meters = s.meters ∧ (s.chargeAccount i v a).close = s.close ∧ (s.chargeAccount i v a).link = s.link := by
  simp [State.chargeAccount]

/-- A log entry (R156, R159). -/
@[simp] theorem State.enterLog_frame (r : BillRecord) :
    (s.enterLog r).pending = s.pending ∧ (s.enterLog r).startup = s.startup ∧ (s.enterLog r).settings = s.settings ∧
    (s.enterLog r).time = s.time ∧ (s.enterLog r).inbox = s.inbox ∧ (s.enterLog r).book = s.book ∧ (s.enterLog r).line
    = s.line ∧ (s.enterLog r).neigh = s.neigh ∧ (s.enterLog r).planner = s.planner ∧ (s.enterLog r).gate = s.gate ∧
    (s.enterLog r).meters = s.meters ∧ (s.enterLog r).close = s.close ∧ (s.enterLog r).link = s.link := by
  simp [State.enterLog]

/-- Joining the wait list (R160). -/
@[simp] theorem State.joinWait_frame (x : WaitItem) :
    (s.joinWait x).pending = s.pending ∧ (s.joinWait x).startup = s.startup ∧ (s.joinWait x).settings = s.settings ∧
    (s.joinWait x).time = s.time ∧ (s.joinWait x).inbox = s.inbox ∧ (s.joinWait x).book = s.book ∧ (s.joinWait x).line
    = s.line ∧ (s.joinWait x).neigh = s.neigh ∧ (s.joinWait x).planner = s.planner ∧ (s.joinWait x).gate = s.gate ∧
    (s.joinWait x).meters = s.meters ∧ (s.joinWait x).close = s.close ∧ (s.joinWait x).link = s.link := by
  simp [State.joinWait]

/-- The close of an order (R21). -/
@[simp] theorem State.closeOrder_frame (kind : RecordKind) (slot key : Nat) (o : Order) :
    (s.closeOrder kind slot key o).pending = s.pending ∧ (s.closeOrder kind slot key o).startup = s.startup ∧
    (s.closeOrder kind slot key o).settings = s.settings ∧ (s.closeOrder kind slot key o).time = s.time ∧
    (s.closeOrder kind slot key o).inbox = s.inbox ∧ (s.closeOrder kind slot key o).line = s.line ∧ (s.closeOrder kind
    slot key o).neigh = s.neigh ∧ (s.closeOrder kind slot key o).planner = s.planner ∧ (s.closeOrder kind slot key
    o).gate = s.gate ∧ (s.closeOrder kind slot key o).meters = s.meters ∧ (s.closeOrder kind slot key o).close =
    s.close ∧ (s.closeOrder kind slot key o).link = s.link := by
  unfold State.closeOrder; dsimp only; split <;> split <;> simp

/-- The closes of a period change (R21, R162). -/
@[simp] theorem State.closeSlots_frame (n : Nat) (l : List Nat) :
    (s.closeSlots n l).pending = s.pending ∧ (s.closeSlots n l).startup = s.startup ∧ (s.closeSlots n l).settings =
    s.settings ∧ (s.closeSlots n l).time = s.time ∧ (s.closeSlots n l).inbox = s.inbox ∧ (s.closeSlots n l).line =
    s.line ∧ (s.closeSlots n l).neigh = s.neigh ∧ (s.closeSlots n l).planner = s.planner ∧ (s.closeSlots n l).gate =
    s.gate ∧ (s.closeSlots n l).meters = s.meters ∧ (s.closeSlots n l).close = s.close ∧ (s.closeSlots n l).link =
    s.link := by
  induction l generalizing s with
  | nil => simp [State.closeSlots]
  | cons x xs ih => unfold State.closeSlots; split <;> (try split) <;> simp [ih]

/-- A cancellation (R28). -/
@[simp] theorem State.cancelOrder_frame (slot : Nat) (late service : Bool) (o : Order) :
    (s.cancelOrder slot late service o).pending = s.pending ∧ (s.cancelOrder slot late service o).startup = s.startup
    ∧ (s.cancelOrder slot late service o).settings = s.settings ∧ (s.cancelOrder slot late service o).time = s.time ∧
    (s.cancelOrder slot late service o).inbox = s.inbox ∧ (s.cancelOrder slot late service o).line = s.line ∧
    (s.cancelOrder slot late service o).neigh = s.neigh ∧ (s.cancelOrder slot late service o).planner = s.planner ∧
    (s.cancelOrder slot late service o).gate = s.gate ∧ (s.cancelOrder slot late service o).meters = s.meters ∧
    (s.cancelOrder slot late service o).close = s.close ∧ (s.cancelOrder slot late service o).link = s.link := by
  simp [State.cancelOrder]

/-- The bill of a tally (R152). -/
@[simp] theorem State.billTally_frame (i : Nat) :
    (s.billTally i).pending = s.pending ∧ (s.billTally i).startup = s.startup ∧ (s.billTally i).settings = s.settings
    ∧ (s.billTally i).time = s.time ∧ (s.billTally i).inbox = s.inbox ∧ (s.billTally i).book = s.book ∧ (s.billTally
    i).line = s.line ∧ (s.billTally i).neigh = s.neigh ∧ (s.billTally i).planner = s.planner ∧ (s.billTally i).gate =
    s.gate ∧ (s.billTally i).close = s.close ∧ (s.billTally i).link = s.link := by
  simp [State.billTally]

/-- The offer of a tally (R164). -/
@[simp] theorem State.offerTally_frame (i : Nat) :
    (s.offerTally i).pending = s.pending ∧ (s.offerTally i).startup = s.startup ∧ (s.offerTally i).settings =
    s.settings ∧ (s.offerTally i).time = s.time ∧ (s.offerTally i).inbox = s.inbox ∧ (s.offerTally i).book = s.book ∧
    (s.offerTally i).line = s.line ∧ (s.offerTally i).neigh = s.neigh ∧ (s.offerTally i).planner = s.planner ∧
    (s.offerTally i).gate = s.gate ∧ (s.offerTally i).close = s.close ∧ (s.offerTally i).link = s.link := by
  unfold State.offerTally; split <;> simp

/-- The tallies of a day close (R164). -/
@[simp] theorem State.offerTallies_frame (l : List Nat) :
    (s.offerTallies l).pending = s.pending ∧ (s.offerTallies l).startup = s.startup ∧ (s.offerTallies l).settings =
    s.settings ∧ (s.offerTallies l).time = s.time ∧ (s.offerTallies l).inbox = s.inbox ∧ (s.offerTallies l).book =
    s.book ∧ (s.offerTallies l).line = s.line ∧ (s.offerTallies l).neigh = s.neigh ∧ (s.offerTallies l).planner =
    s.planner ∧ (s.offerTallies l).gate = s.gate ∧ (s.offerTallies l).close = s.close ∧ (s.offerTallies l).link =
    s.link := by
  induction l generalizing s with
  | nil => simp [State.offerTallies]
  | cons x xs ih => unfold State.offerTallies; split <;> simp [ih]

/-- A day close (R164). -/
@[simp] theorem State.dayClose_frame :
    (s.dayClose).pending = s.pending ∧ (s.dayClose).startup = s.startup ∧ (s.dayClose).settings = s.settings ∧
    (s.dayClose).time = s.time ∧ (s.dayClose).inbox = s.inbox ∧ (s.dayClose).book = s.book ∧ (s.dayClose).line =
    s.line ∧ (s.dayClose).neigh = s.neigh ∧ (s.dayClose).planner = s.planner ∧ (s.dayClose).gate = s.gate ∧
    (s.dayClose).close = s.close ∧ (s.dayClose).link = s.link := by
  simp [State.dayClose]

/-- One move from the wait list (R161). -/
@[simp] theorem State.moveItem_frame (x : WaitItem) :
    (s.moveItem x).pending = s.pending ∧ (s.moveItem x).startup = s.startup ∧ (s.moveItem x).settings = s.settings ∧
    (s.moveItem x).time = s.time ∧ (s.moveItem x).inbox = s.inbox ∧ (s.moveItem x).line = s.line ∧ (s.moveItem
    x).neigh = s.neigh ∧ (s.moveItem x).planner = s.planner ∧ (s.moveItem x).gate = s.gate ∧ (s.moveItem x).close =
    s.close ∧ (s.moveItem x).link = s.link := by
  unfold State.moveItem; split <;> (try split) <;> (try split) <;> simp

/-- The moves from the wait list (R161). -/
@[simp] theorem State.moveWait_frame (n : Nat) :
    (s.moveWait n).pending = s.pending ∧ (s.moveWait n).startup = s.startup ∧ (s.moveWait n).settings = s.settings ∧
    (s.moveWait n).time = s.time ∧ (s.moveWait n).inbox = s.inbox ∧ (s.moveWait n).line = s.line ∧ (s.moveWait
    n).neigh = s.neigh ∧ (s.moveWait n).planner = s.planner ∧ (s.moveWait n).gate = s.gate ∧ (s.moveWait n).close =
    s.close ∧ (s.moveWait n).link = s.link := by
  induction n generalizing s with
  | zero => simp [State.moveWait]
  | succ n ih => unfold State.moveWait; split <;> (try split) <;> simp [ih]

/-- A release of the log (R158). -/
@[simp] theorem State.releaseLog_frame (n : Nat) :
    (s.releaseLog n).pending = s.pending ∧ (s.releaseLog n).startup = s.startup ∧ (s.releaseLog n).settings =
    s.settings ∧ (s.releaseLog n).time = s.time ∧ (s.releaseLog n).inbox = s.inbox ∧ (s.releaseLog n).line = s.line ∧
    (s.releaseLog n).neigh = s.neigh ∧ (s.releaseLog n).planner = s.planner ∧ (s.releaseLog n).gate = s.gate ∧
    (s.releaseLog n).close = s.close ∧ (s.releaseLog n).link = s.link := by
  simp [State.releaseLog]

/-- The tallies of a season close (R165). -/
@[simp] theorem State.billTallies_frame (l : List Nat) :
    (s.billTallies l).pending = s.pending ∧ (s.billTallies l).startup = s.startup ∧ (s.billTallies l).settings =
    s.settings ∧ (s.billTallies l).time = s.time ∧ (s.billTallies l).inbox = s.inbox ∧ (s.billTallies l).book = s.book
    ∧ (s.billTallies l).line = s.line ∧ (s.billTallies l).neigh = s.neigh ∧ (s.billTallies l).planner = s.planner ∧
    (s.billTallies l).gate = s.gate ∧ (s.billTallies l).close = s.close ∧ (s.billTallies l).link = s.link := by
  induction l generalizing s with
  | nil => simp [State.billTallies]
  | cons x xs ih => unfold State.billTallies; simp [ih]

/-- A season close (R165). -/
@[simp] theorem State.seasonClose_frame :
    (s.seasonClose).pending = s.pending ∧ (s.seasonClose).settings = s.settings ∧ (s.seasonClose).time = s.time ∧
    (s.seasonClose).inbox = s.inbox ∧ (s.seasonClose).book = s.book ∧ (s.seasonClose).line = s.line ∧
    (s.seasonClose).neigh = s.neigh ∧ (s.seasonClose).planner = s.planner ∧ (s.seasonClose).gate = s.gate ∧
    (s.seasonClose).close = s.close ∧ (s.seasonClose).link = s.link := by
  simp [State.seasonClose]

/-- The cancellations of TURNOUT_SERVICE (R30). -/
@[simp] theorem State.cancelSlots_frame (l : List Nat) :
    (s.cancelSlots l).pending = s.pending ∧ (s.cancelSlots l).startup = s.startup ∧ (s.cancelSlots l).settings =
    s.settings ∧ (s.cancelSlots l).time = s.time ∧ (s.cancelSlots l).inbox = s.inbox ∧ (s.cancelSlots l).line = s.line
    ∧ (s.cancelSlots l).neigh = s.neigh ∧ (s.cancelSlots l).planner = s.planner ∧ (s.cancelSlots l).gate = s.gate ∧
    (s.cancelSlots l).meters = s.meters ∧ (s.cancelSlots l).close = s.close ∧ (s.cancelSlots l).link = s.link := by
  induction l generalizing s with
  | nil => simp [State.cancelSlots]
  | cons x xs ih => unfold State.cancelSlots; split <;> simp [ih]

/-- The evaluations of the balance queue (R138). -/
@[simp] theorem State.drainQueue_frame :
    (s.drainQueue).pending = s.pending ∧ (s.drainQueue).startup = s.startup ∧ (s.drainQueue).settings = s.settings ∧
    (s.drainQueue).time = s.time ∧ (s.drainQueue).inbox = s.inbox ∧ (s.drainQueue).book = s.book ∧ (s.drainQueue).line
    = s.line ∧ (s.drainQueue).neigh = s.neigh ∧ (s.drainQueue).planner = s.planner ∧ (s.drainQueue).gate = s.gate ∧
    (s.drainQueue).meters = s.meters ∧ (s.drainQueue).billing = s.billing ∧ (s.drainQueue).link = s.link := by
  simp [State.drainQueue]

/-- Closing pairs offered to the queue (R137). -/
@[simp] theorem State.offerPairs_frame (k : Nat) (p : List ClosingPair) :
    (s.offerPairs k p).pending = s.pending ∧ (s.offerPairs k p).startup = s.startup ∧ (s.offerPairs k p).settings =
    s.settings ∧ (s.offerPairs k p).time = s.time ∧ (s.offerPairs k p).inbox = s.inbox ∧ (s.offerPairs k p).book =
    s.book ∧ (s.offerPairs k p).line = s.line ∧ (s.offerPairs k p).neigh = s.neigh ∧ (s.offerPairs k p).planner =
    s.planner ∧ (s.offerPairs k p).gate = s.gate ∧ (s.offerPairs k p).meters = s.meters ∧ (s.offerPairs k p).billing =
    s.billing ∧ (s.offerPairs k p).link = s.link := by
  simp [State.offerPairs]

/-- A rise of the watch end key (R65). -/
@[simp] theorem State.raiseWatch_frame (k : Nat) :
    (s.raiseWatch k).pending = s.pending ∧ (s.raiseWatch k).startup = s.startup ∧ (s.raiseWatch k).settings =
    s.settings ∧ (s.raiseWatch k).time = s.time ∧ (s.raiseWatch k).inbox = s.inbox ∧ (s.raiseWatch k).book = s.book ∧
    (s.raiseWatch k).planner = s.planner ∧ (s.raiseWatch k).gate = s.gate ∧ (s.raiseWatch k).meters = s.meters ∧
    (s.raiseWatch k).close = s.close ∧ (s.raiseWatch k).billing = s.billing ∧ (s.raiseWatch k).link = s.link := by
  unfold State.raiseWatch; split <;> simp

/-- A merge of the watch end key (R64). -/
@[simp] theorem State.mergeWatch_frame (k : Nat) :
    (s.mergeWatch k).pending = s.pending ∧ (s.mergeWatch k).startup = s.startup ∧ (s.mergeWatch k).settings =
    s.settings ∧ (s.mergeWatch k).time = s.time ∧ (s.mergeWatch k).inbox = s.inbox ∧ (s.mergeWatch k).book = s.book ∧
    (s.mergeWatch k).planner = s.planner ∧ (s.mergeWatch k).gate = s.gate ∧ (s.mergeWatch k).meters = s.meters ∧
    (s.mergeWatch k).close = s.close ∧ (s.mergeWatch k).billing = s.billing ∧ (s.mergeWatch k).link = s.link := by
  simp [State.mergeWatch]

/-- Putting a neighbour entry. -/
@[simp] theorem State.putEntry_frame (i : Nat) (e : Entry) :
    (s.putEntry i e).pending = s.pending ∧ (s.putEntry i e).startup = s.startup ∧ (s.putEntry i e).settings =
    s.settings ∧ (s.putEntry i e).time = s.time ∧ (s.putEntry i e).inbox = s.inbox ∧ (s.putEntry i e).book = s.book ∧
    (s.putEntry i e).line = s.line ∧ (s.putEntry i e).planner = s.planner ∧ (s.putEntry i e).gate = s.gate ∧
    (s.putEntry i e).meters = s.meters ∧ (s.putEntry i e).close = s.close ∧ (s.putEntry i e).billing = s.billing ∧
    (s.putEntry i e).link = s.link ∧ (s.putEntry i e).alerts = s.alerts := by
  refine ⟨rfl, rfl, rfl, rfl, rfl, rfl, rfl, rfl, rfl, rfl, rfl, rfl, rfl, rfl⟩

/-- The hand-on of an acceptance (R58). -/
@[simp] theorem State.handOn_frame (old new : Entry) (f : ReachFields) :
    (s.handOn old new f).pending = s.pending ∧ (s.handOn old new f).startup = s.startup ∧ (s.handOn old new
    f).settings = s.settings ∧ (s.handOn old new f).time = s.time ∧ (s.handOn old new f).inbox = s.inbox ∧ (s.handOn
    old new f).neigh = s.neigh ∧ (s.handOn old new f).meters = s.meters ∧ (s.handOn old new f).billing = s.billing ∧
    (s.handOn old new f).link = s.link := by
  unfold State.handOn; split <;> dsimp only <;> split <;> simp

/-- The acceptance of a notice (R56). -/
@[simp] theorem State.acceptNotice_frame (i : Nat) (e : Entry) (f : ReachFields) :
    (s.acceptNotice i e f).pending = s.pending ∧ (s.acceptNotice i e f).startup = s.startup ∧ (s.acceptNotice i e
    f).settings = s.settings ∧ (s.acceptNotice i e f).time = s.time ∧ (s.acceptNotice i e f).inbox = s.inbox ∧
    (s.acceptNotice i e f).meters = s.meters ∧ (s.acceptNotice i e f).billing = s.billing ∧ (s.acceptNotice i e
    f).link = s.link := by
  simp [State.acceptNotice]

/-- A notice handed to the Neighbour Table (R54). -/
@[simp] theorem State.takeNotice_frame (n : Notice) :
    (s.takeNotice n).pending = s.pending ∧ (s.takeNotice n).startup = s.startup ∧ (s.takeNotice n).settings =
    s.settings ∧ (s.takeNotice n).time = s.time ∧ (s.takeNotice n).inbox = s.inbox ∧ (s.takeNotice n).meters =
    s.meters ∧ (s.takeNotice n).billing = s.billing ∧ (s.takeNotice n).link = s.link := by
  unfold State.takeNotice; split
  · split <;> simp
  · split
    · dsimp only; repeat' split
      all_goals simp
    · simp

/-- A hold expiry (R59). -/
@[simp] theorem State.loseEntry_frame (i : Nat) :
    (s.loseEntry i).pending = s.pending ∧ (s.loseEntry i).startup = s.startup ∧ (s.loseEntry i).settings = s.settings
    ∧ (s.loseEntry i).time = s.time ∧ (s.loseEntry i).inbox = s.inbox ∧ (s.loseEntry i).meters = s.meters ∧
    (s.loseEntry i).close = s.close ∧ (s.loseEntry i).billing = s.billing ∧ (s.loseEntry i).link = s.link := by
  unfold State.loseEntry; split <;> simp

/-- The close of the meter periods (R123). -/
@[simp] theorem State.closeMeters_frame (k : Nat) :
    (s.closeMeters k).pending = s.pending ∧ (s.closeMeters k).startup = s.startup ∧ (s.closeMeters k).settings =
    s.settings ∧ (s.closeMeters k).time = s.time ∧ (s.closeMeters k).inbox = s.inbox ∧ (s.closeMeters k).book = s.book
    ∧ (s.closeMeters k).line = s.line ∧ (s.closeMeters k).neigh = s.neigh ∧ (s.closeMeters k).planner = s.planner ∧
    (s.closeMeters k).gate = s.gate ∧ (s.closeMeters k).close = s.close ∧ (s.closeMeters k).billing = s.billing ∧
    (s.closeMeters k).link = s.link := by
  simp [State.closeMeters]

/-- The close of the meter periods, once per key (R124). -/
@[simp] theorem State.closeMetersOnce_frame (k : Nat) :
    (s.closeMetersOnce k).pending = s.pending ∧ (s.closeMetersOnce k).startup = s.startup ∧ (s.closeMetersOnce
    k).settings = s.settings ∧ (s.closeMetersOnce k).time = s.time ∧ (s.closeMetersOnce k).inbox = s.inbox ∧
    (s.closeMetersOnce k).book = s.book ∧ (s.closeMetersOnce k).line = s.line ∧ (s.closeMetersOnce k).neigh = s.neigh
    ∧ (s.closeMetersOnce k).planner = s.planner ∧ (s.closeMetersOnce k).gate = s.gate ∧ (s.closeMetersOnce k).close =
    s.close ∧ (s.closeMetersOnce k).billing = s.billing ∧ (s.closeMetersOnce k).link = s.link := by
  unfold State.closeMetersOnce; split <;> (try split) <;> simp

/-- The close of the accumulator (R97). -/
@[simp] theorem State.closeGateOnce_frame (k : Nat) :
    (s.closeGateOnce k).pending = s.pending ∧ (s.closeGateOnce k).startup = s.startup ∧ (s.closeGateOnce k).settings =
    s.settings ∧ (s.closeGateOnce k).time = s.time ∧ (s.closeGateOnce k).inbox = s.inbox ∧ (s.closeGateOnce k).book =
    s.book ∧ (s.closeGateOnce k).line = s.line ∧ (s.closeGateOnce k).neigh = s.neigh ∧ (s.closeGateOnce k).planner =
    s.planner ∧ (s.closeGateOnce k).meters = s.meters ∧ (s.closeGateOnce k).close = s.close ∧ (s.closeGateOnce
    k).billing = s.billing ∧ (s.closeGateOnce k).link = s.link ∧ (s.closeGateOnce k).alerts = s.alerts := by
  refine ⟨rfl, rfl, rfl, rfl, rfl, rfl, rfl, rfl, rfl, rfl, rfl, rfl, rfl, rfl⟩

/-- The close report (R17). -/
@[simp] theorem State.closeReport_frame (n : Nat) :
    (s.closeReport n).pending = s.pending ∧ (s.closeReport n).startup = s.startup ∧ (s.closeReport n).settings =
    s.settings ∧ (s.closeReport n).time = s.time ∧ (s.closeReport n).inbox = s.inbox ∧ (s.closeReport n).line = s.line
    ∧ (s.closeReport n).neigh = s.neigh ∧ (s.closeReport n).planner = s.planner ∧ (s.closeReport n).gate = s.gate ∧
    (s.closeReport n).meters = s.meters ∧ (s.closeReport n).close = s.close ∧ (s.closeReport n).link = s.link := by
  unfold State.closeReport; split <;> simp

/-- The attribution of one turnout (R35, R130). -/
@[simp] theorem State.attribute_frame (k i : Nat) :
    (s.attribute k i).pending = s.pending ∧ (s.attribute k i).startup = s.startup ∧ (s.attribute k i).settings =
    s.settings ∧ (s.attribute k i).time = s.time ∧ (s.attribute k i).inbox = s.inbox ∧ (s.attribute k i).line = s.line
    ∧ (s.attribute k i).neigh = s.neigh ∧ (s.attribute k i).planner = s.planner ∧ (s.attribute k i).gate = s.gate ∧
    (s.attribute k i).close = s.close ∧ (s.attribute k i).billing = s.billing ∧ (s.attribute k i).link = s.link ∧
    (s.attribute k i).alerts = s.alerts := by
  unfold State.attribute; dsimp only; split <;> simp

/-- The attributions of a period (R130). -/
@[simp] theorem State.attributeAll_frame (k : Nat) (l : List Nat) :
    (s.attributeAll k l).pending = s.pending ∧ (s.attributeAll k l).startup = s.startup ∧ (s.attributeAll k
    l).settings = s.settings ∧ (s.attributeAll k l).time = s.time ∧ (s.attributeAll k l).inbox = s.inbox ∧
    (s.attributeAll k l).line = s.line ∧ (s.attributeAll k l).neigh = s.neigh ∧ (s.attributeAll k l).planner =
    s.planner ∧ (s.attributeAll k l).gate = s.gate ∧ (s.attributeAll k l).close = s.close ∧ (s.attributeAll k
    l).billing = s.billing ∧ (s.attributeAll k l).link = s.link ∧ (s.attributeAll k l).alerts = s.alerts := by
  induction l generalizing s with
  | nil => simp [State.attributeAll]
  | cons x xs ih => unfold State.attributeAll; split <;> simp [ih]

/-- The close of a period (R129). -/
@[simp] theorem State.closePeriod_frame (n : Nat) :
    (s.closePeriod n).pending = s.pending ∧ (s.closePeriod n).startup = s.startup ∧ (s.closePeriod n).settings =
    s.settings ∧ (s.closePeriod n).time = s.time ∧ (s.closePeriod n).inbox = s.inbox ∧ (s.closePeriod n).neigh =
    s.neigh ∧ (s.closePeriod n).link = s.link := by
  unfold State.closePeriod; split <;> (try dsimp only) <;> (try split) <;> simp

/-- The meter periods of the waiting events (R121, R123). -/
@[simp] theorem State.settleMeters_frame :
    (s.settleMeters).pending = s.pending ∧ (s.settleMeters).startup = s.startup ∧ (s.settleMeters).settings =
    s.settings ∧ (s.settleMeters).time = s.time ∧ (s.settleMeters).inbox = s.inbox ∧ (s.settleMeters).neigh = s.neigh
    ∧ (s.settleMeters).link = s.link := by
  unfold State.settleMeters; split
  · rename_i h; clear h
    generalize s.inbox.meter = es
    induction es generalizing s with
    | nil => simp
    | cons e es ih => simp [ih]
  · simp

/-- The accumulator of the waiting events (R97). -/
@[simp] theorem State.settleGate_frame :
    (s.settleGate).pending = s.pending ∧ (s.settleGate).startup = s.startup ∧ (s.settleGate).settings = s.settings ∧
    (s.settleGate).time = s.time ∧ (s.settleGate).inbox = s.inbox ∧ (s.settleGate).neigh = s.neigh ∧
    (s.settleGate).link = s.link := by
  unfold State.settleGate; split
  · rename_i h; clear h
    generalize s.inbox.gate = es
    induction es generalizing s with
    | nil => simp
    | cons e es ih => simp [ih]
  · simp

/-- A turnout after an event. -/
@[simp] theorem State.changeTurnout_frame (i : Nat) (f : Turnout → Turnout) :
    (s.changeTurnout i f).pending = s.pending ∧ (s.changeTurnout i f).startup = s.startup ∧ (s.changeTurnout i
    f).settings = s.settings ∧ (s.changeTurnout i f).time = s.time ∧ (s.changeTurnout i f).inbox = s.inbox ∧
    (s.changeTurnout i f).book = s.book ∧ (s.changeTurnout i f).line = s.line ∧ (s.changeTurnout i f).neigh = s.neigh
    ∧ (s.changeTurnout i f).planner = s.planner ∧ (s.changeTurnout i f).gate = s.gate ∧ (s.changeTurnout i f).close =
    s.close ∧ (s.changeTurnout i f).billing = s.billing ∧ (s.changeTurnout i f).link = s.link ∧ (s.changeTurnout i
    f).alerts = s.alerts := by
  refine ⟨rfl, rfl, rfl, rfl, rfl, rfl, rfl, rfl, rfl, rfl, rfl, rfl, rfl, rfl⟩

/-- With at most one event waiting and no earlier record untaken, settling the meters is the one close of that event (R123, R124). -/
theorem State.settleMeters_one (e : PeriodEvent) (hr : s.running = true) (hi : s.inbox.meter = [e]) (hc : s.closeReady e.oldKey = true) :
    s.settleMeters = s.closeMetersOnce e.oldKey := by
  simp only [State.closeReady, decide_eq_true_eq] at hc
  simp [State.settleMeters, hr, hi, State.closePeriod, hc]

/-- With no event waiting, settling the meters changes nothing. -/
theorem State.settleMeters_none (hi : s.inbox.meter = []) : s.settleMeters = s := by simp [State.settleMeters, hi]

/-- With at most one event waiting and no earlier record untaken, settling the gate is the one close of that event (R97, R129). -/
theorem State.settleGate_one (e : PeriodEvent) (hr : s.running = true) (hi : s.inbox.gate = [e]) (hc : s.closeReady e.oldKey = true) :
    s.settleGate = s.closeGateOnce e.oldKey := by
  simp only [State.closeReady, decide_eq_true_eq] at hc
  simp [State.settleGate, hr, hi, State.closePeriod, hc]

/-- With no event waiting, settling the gate changes nothing. -/
theorem State.settleGate_none (hi : s.inbox.gate = []) : s.settleGate = s := by simp [State.settleGate, hi]

/-- A move of district time (R2, R4, R10). -/
@[simp] theorem State.moveTime_frame (k : Nat) (t : DistrictTime) :
    (s.moveTime k t).pending = s.pending ∧ (s.moveTime k t).startup = s.startup ∧ (s.moveTime k t).settings =
    s.settings ∧ (s.moveTime k t).book = s.book ∧ (s.moveTime k t).line = s.line ∧ (s.moveTime k t).neigh = s.neigh ∧
    (s.moveTime k t).planner = s.planner ∧ (s.moveTime k t).gate = s.gate ∧ (s.moveTime k t).meters = s.meters ∧
    (s.moveTime k t).close = s.close ∧ (s.moveTime k t).billing = s.billing ∧ (s.moveTime k t).link = s.link ∧
    (s.moveTime k t).alerts = s.alerts := by
  unfold State.moveTime; dsimp only; split <;> simp

/-- The catch-up step (R14). -/
@[simp] theorem State.catchUp_frame :
    (s.catchUp).pending = s.pending ∧ (s.catchUp).settings = s.settings ∧ (s.catchUp).book = s.book ∧ (s.catchUp).line
    = s.line ∧ (s.catchUp).neigh = s.neigh ∧ (s.catchUp).planner = s.planner ∧ (s.catchUp).gate = s.gate ∧
    (s.catchUp).meters = s.meters ∧ (s.catchUp).close = s.close ∧ (s.catchUp).billing = s.billing ∧ (s.catchUp).link =
    s.link ∧ (s.catchUp).alerts = s.alerts := by
  unfold State.catchUp; split <;> simp

/-- One millisecond of elapsed time. -/
@[simp] theorem State.tickElapsed_frame :
    (s.tickElapsed).pending = s.pending ∧ (s.tickElapsed).startup = s.startup ∧ (s.tickElapsed).settings = s.settings
    ∧ (s.tickElapsed).inbox = s.inbox ∧ (s.tickElapsed).book = s.book ∧ (s.tickElapsed).neigh = s.neigh ∧
    (s.tickElapsed).planner = s.planner ∧ (s.tickElapsed).gate = s.gate ∧ (s.tickElapsed).meters = s.meters ∧
    (s.tickElapsed).close = s.close ∧ (s.tickElapsed).billing = s.billing ∧ (s.tickElapsed).link = s.link ∧
    (s.tickElapsed).alerts = s.alerts := by
  refine ⟨rfl, rfl, rfl, rfl, rfl, rfl, rfl, rfl, rfl, rfl, rfl, rfl, rfl⟩

/-- One millisecond. -/
@[simp] theorem State.tick_frame :
    (s.tick).pending = s.pending ∧ (s.tick).startup = s.startup ∧ (s.tick).settings = s.settings ∧ (s.tick).inbox =
    s.inbox ∧ (s.tick).book = s.book ∧ (s.tick).neigh = s.neigh ∧ (s.tick).planner = s.planner ∧ (s.tick).gate =
    s.gate ∧ (s.tick).meters = s.meters ∧ (s.tick).close = s.close ∧ (s.tick).billing = s.billing ∧ (s.tick).link =
    s.link ∧ (s.tick).alerts = s.alerts := by
  unfold State.tick; split <;> (try dsimp only) <;> (try split) <;> simp

/-- The start of an attempt (R41). -/
@[simp] theorem State.startAttempt_frame (r : PlanResults) :
    (s.startAttempt r).pending = s.pending ∧ (s.startAttempt r).startup = s.startup ∧ (s.startAttempt r).settings =
    s.settings ∧ (s.startAttempt r).time = s.time ∧ (s.startAttempt r).inbox = s.inbox ∧ (s.startAttempt r).book =
    s.book ∧ (s.startAttempt r).neigh = s.neigh ∧ (s.startAttempt r).planner = s.planner ∧ (s.startAttempt r).gate =
    s.gate ∧ (s.startAttempt r).meters = s.meters ∧ (s.startAttempt r).close = s.close ∧ (s.startAttempt r).billing =
    s.billing ∧ (s.startAttempt r).link = s.link ∧ (s.startAttempt r).alerts = s.alerts := by
  refine ⟨rfl, rfl, rfl, rfl, rfl, rfl, rfl, rfl, rfl, rfl, rfl, rfl, rfl, rfl⟩

/-- An attempt that may start (R41). -/
@[simp] theorem State.tryAttempt_frame :
    (s.tryAttempt).pending = s.pending ∧ (s.tryAttempt).startup = s.startup ∧ (s.tryAttempt).settings = s.settings ∧
    (s.tryAttempt).time = s.time ∧ (s.tryAttempt).inbox = s.inbox ∧ (s.tryAttempt).book = s.book ∧
    (s.tryAttempt).neigh = s.neigh ∧ (s.tryAttempt).planner = s.planner ∧ (s.tryAttempt).gate = s.gate ∧
    (s.tryAttempt).meters = s.meters ∧ (s.tryAttempt).close = s.close ∧ (s.tryAttempt).billing = s.billing ∧
    (s.tryAttempt).link = s.link ∧ (s.tryAttempt).alerts = s.alerts := by
  unfold State.tryAttempt; split <;> (try split) <;> simp

/-- A collision (R42, R44). -/
@[simp] theorem State.collide_frame :
    (s.collide).pending = s.pending ∧ (s.collide).startup = s.startup ∧ (s.collide).settings = s.settings ∧
    (s.collide).time = s.time ∧ (s.collide).inbox = s.inbox ∧ (s.collide).book = s.book ∧ (s.collide).neigh = s.neigh
    ∧ (s.collide).planner = s.planner ∧ (s.collide).gate = s.gate ∧ (s.collide).meters = s.meters ∧ (s.collide).close
    = s.close ∧ (s.collide).billing = s.billing ∧ (s.collide).link = s.link := by
  unfold State.collide; dsimp only; split <;> simp

/-- The completion of a notice (R46). -/
@[simp] theorem State.completeNotice_frame :
    (s.completeNotice).pending = s.pending ∧ (s.completeNotice).startup = s.startup ∧ (s.completeNotice).settings =
    s.settings ∧ (s.completeNotice).time = s.time ∧ (s.completeNotice).inbox = s.inbox ∧ (s.completeNotice).book =
    s.book ∧ (s.completeNotice).neigh = s.neigh ∧ (s.completeNotice).planner = s.planner ∧ (s.completeNotice).gate =
    s.gate ∧ (s.completeNotice).meters = s.meters ∧ (s.completeNotice).close = s.close ∧ (s.completeNotice).billing =
    s.billing ∧ (s.completeNotice).link = s.link ∧ (s.completeNotice).alerts = s.alerts := by
  unfold State.completeNotice; dsimp only; split <;> simp

/-- Entry to RUN (R51). -/
@[simp] theorem State.enterRun_frame :
    (s.enterRun).pending = s.pending ∧ (s.enterRun).startup = s.startup ∧ (s.enterRun).settings = s.settings ∧
    (s.enterRun).time = s.time ∧ (s.enterRun).inbox = s.inbox ∧ (s.enterRun).neigh = s.neigh ∧ (s.enterRun).meters =
    s.meters ∧ (s.enterRun).close = s.close ∧ (s.enterRun).billing = s.billing ∧ (s.enterRun).link = s.link := by
  simp [State.enterRun]

/-- A change of the gate. -/
@[simp] theorem State.changeGate_frame (g : Config.Settings → Nat → Gate → Gate) :
    (s.changeGate g).pending = s.pending ∧ (s.changeGate g).startup = s.startup ∧ (s.changeGate g).settings =
    s.settings ∧ (s.changeGate g).time = s.time ∧ (s.changeGate g).inbox = s.inbox ∧ (s.changeGate g).book = s.book ∧
    (s.changeGate g).line = s.line ∧ (s.changeGate g).neigh = s.neigh ∧ (s.changeGate g).planner = s.planner ∧
    (s.changeGate g).meters = s.meters ∧ (s.changeGate g).close = s.close ∧ (s.changeGate g).billing = s.billing ∧
    (s.changeGate g).link = s.link ∧ (s.changeGate g).alerts = s.alerts := by
  refine ⟨rfl, rfl, rfl, rfl, rfl, rfl, rfl, rfl, rfl, rfl, rfl, rfl, rfl, rfl⟩

/-- A trip onset (R110). -/
@[simp] theorem State.tripOnset_frame :
    (s.tripOnset).pending = s.pending ∧ (s.tripOnset).startup = s.startup ∧ (s.tripOnset).settings = s.settings ∧
    (s.tripOnset).time = s.time ∧ (s.tripOnset).inbox = s.inbox ∧ (s.tripOnset).book = s.book ∧ (s.tripOnset).line =
    s.line ∧ (s.tripOnset).neigh = s.neigh ∧ (s.tripOnset).planner = s.planner ∧ (s.tripOnset).meters = s.meters ∧
    (s.tripOnset).close = s.close ∧ (s.tripOnset).billing = s.billing ∧ (s.tripOnset).link = s.link := by
  unfold State.tripOnset; split <;> simp

/-- A missed sample (R93). -/
@[simp] theorem State.missSample_frame :
    (s.missSample).pending = s.pending ∧ (s.missSample).startup = s.startup ∧ (s.missSample).settings = s.settings ∧
    (s.missSample).time = s.time ∧ (s.missSample).inbox = s.inbox ∧ (s.missSample).book = s.book ∧ (s.missSample).line
    = s.line ∧ (s.missSample).neigh = s.neigh ∧ (s.missSample).planner = s.planner ∧ (s.missSample).meters = s.meters
    ∧ (s.missSample).close = s.close ∧ (s.missSample).billing = s.billing ∧ (s.missSample).link = s.link := by
  simp [State.missSample]

/-- A good sample (R92). -/
@[simp] theorem State.takeSample_frame (u d : Nat) :
    (s.takeSample u d).pending = s.pending ∧ (s.takeSample u d).startup = s.startup ∧ (s.takeSample u d).settings =
    s.settings ∧ (s.takeSample u d).time = s.time ∧ (s.takeSample u d).inbox = s.inbox ∧ (s.takeSample u d).book =
    s.book ∧ (s.takeSample u d).line = s.line ∧ (s.takeSample u d).neigh = s.neigh ∧ (s.takeSample u d).planner =
    s.planner ∧ (s.takeSample u d).meters = s.meters ∧ (s.takeSample u d).close = s.close ∧ (s.takeSample u d).billing
    = s.billing ∧ (s.takeSample u d).link = s.link := by
  unfold State.takeSample; dsimp only; split <;> simp

/-- The sample watch starts again (R91). -/
@[simp] theorem State.restartWatch_frame :
    (s.restartWatch).pending = s.pending ∧ (s.restartWatch).startup = s.startup ∧ (s.restartWatch).settings =
    s.settings ∧ (s.restartWatch).time = s.time ∧ (s.restartWatch).inbox = s.inbox ∧ (s.restartWatch).book = s.book ∧
    (s.restartWatch).line = s.line ∧ (s.restartWatch).neigh = s.neigh ∧ (s.restartWatch).planner = s.planner ∧
    (s.restartWatch).meters = s.meters ∧ (s.restartWatch).close = s.close ∧ (s.restartWatch).billing = s.billing ∧
    (s.restartWatch).link = s.link ∧ (s.restartWatch).alerts = s.alerts := by
  refine ⟨rfl, rfl, rfl, rfl, rfl, rfl, rfl, rfl, rfl, rfl, rfl, rfl, rfl, rfl⟩

/-- The judgement of the gate at a start (R114). -/
@[simp] theorem State.judgeGate_frame :
    (s.judgeGate).pending = s.pending ∧ (s.judgeGate).startup = s.startup ∧ (s.judgeGate).settings = s.settings ∧
    (s.judgeGate).time = s.time ∧ (s.judgeGate).inbox = s.inbox ∧ (s.judgeGate).book = s.book ∧ (s.judgeGate).line =
    s.line ∧ (s.judgeGate).neigh = s.neigh ∧ (s.judgeGate).planner = s.planner ∧ (s.judgeGate).meters = s.meters ∧
    (s.judgeGate).close = s.close ∧ (s.judgeGate).billing = s.billing ∧ (s.judgeGate).link = s.link := by
  unfold State.judgeGate; dsimp only; split <;> simp

/-- The in-service flag (R30). -/
@[simp] theorem State.setService_frame (i : Nat) (b : Bool) :
    (s.setService i b).pending = s.pending ∧ (s.setService i b).startup = s.startup ∧ (s.setService i b).settings =
    s.settings ∧ (s.setService i b).time = s.time ∧ (s.setService i b).inbox = s.inbox ∧ (s.setService i b).book =
    s.book ∧ (s.setService i b).line = s.line ∧ (s.setService i b).neigh = s.neigh ∧ (s.setService i b).planner =
    s.planner ∧ (s.setService i b).gate = s.gate ∧ (s.setService i b).close = s.close ∧ (s.setService i b).billing =
    s.billing ∧ (s.setService i b).link = s.link ∧ (s.setService i b).alerts = s.alerts := by
  refine ⟨rfl, rfl, rfl, rfl, rfl, rfl, rfl, rfl, rfl, rfl, rfl, rfl, rfl, rfl⟩

/-- A turnout taken out of service (R30). -/
@[simp] theorem State.outOfService_frame (i : Nat) :
    (s.outOfService i).pending = s.pending ∧ (s.outOfService i).startup = s.startup ∧ (s.outOfService i).settings =
    s.settings ∧ (s.outOfService i).time = s.time ∧ (s.outOfService i).inbox = s.inbox ∧ (s.outOfService i).neigh =
    s.neigh ∧ (s.outOfService i).close = s.close ∧ (s.outOfService i).link = s.link := by
  unfold State.outOfService; dsimp only; split <;> simp

/-- A cancellation by command (R28). -/
@[simp] theorem State.cancelByCommand_frame (slot : Nat) (o : Order) :
    (s.cancelByCommand slot o).pending = s.pending ∧ (s.cancelByCommand slot o).startup = s.startup ∧
    (s.cancelByCommand slot o).settings = s.settings ∧ (s.cancelByCommand slot o).time = s.time ∧ (s.cancelByCommand
    slot o).inbox = s.inbox ∧ (s.cancelByCommand slot o).neigh = s.neigh ∧ (s.cancelByCommand slot o).meters =
    s.meters ∧ (s.cancelByCommand slot o).close = s.close ∧ (s.cancelByCommand slot o).link = s.link := by
  simp [State.cancelByCommand]

/-- An admission (R27). -/
@[simp] theorem State.admit_frame (r : OrderRequest) (c : WaterClass) (slot : Nat) :
    (s.enterOrder r c slot).pending = s.pending ∧ (s.enterOrder r c slot).startup = s.startup ∧ (s.enterOrder r c slot).settings =
    s.settings ∧ (s.enterOrder r c slot).time = s.time ∧ (s.enterOrder r c slot).inbox = s.inbox ∧ (s.enterOrder r c slot).neigh =
    s.neigh ∧ (s.enterOrder r c slot).meters = s.meters ∧ (s.enterOrder r c slot).close = s.close ∧ (s.enterOrder r c slot).billing =
    s.billing ∧ (s.enterOrder r c slot).link = s.link := by
  simp [State.enterOrder]

/-- An accepted TIME_SET in RUN (R10). -/
@[simp] theorem State.setTime_frame (t : DistrictTime) :
    (s.setTime t).pending = s.pending ∧ (s.setTime t).settings = s.settings ∧ (s.setTime t).book = s.book ∧ (s.setTime
    t).line = s.line ∧ (s.setTime t).neigh = s.neigh ∧ (s.setTime t).planner = s.planner ∧ (s.setTime t).gate = s.gate
    ∧ (s.setTime t).meters = s.meters ∧ (s.setTime t).close = s.close ∧ (s.setTime t).billing = s.billing ∧ (s.setTime
    t).link = s.link ∧ (s.setTime t).alerts = s.alerts := by
  simp [State.setTime]

/-- The reply that is built (R169). -/
@[simp] theorem State.answer_frame (k : Byte) (r : ResultCode) (d : List Byte) (e : Bool) :
    (s.answer k r d e).pending = s.pending ∧ (s.answer k r d e).startup = s.startup ∧ (s.answer k r d e).settings =
    s.settings ∧ (s.answer k r d e).time = s.time ∧ (s.answer k r d e).inbox = s.inbox ∧ (s.answer k r d e).book =
    s.book ∧ (s.answer k r d e).line = s.line ∧ (s.answer k r d e).neigh = s.neigh ∧ (s.answer k r d e).planner =
    s.planner ∧ (s.answer k r d e).gate = s.gate ∧ (s.answer k r d e).meters = s.meters ∧ (s.answer k r d e).close =
    s.close ∧ (s.answer k r d e).billing = s.billing ∧ (s.answer k r d e).alerts = s.alerts := by
  refine ⟨rfl, rfl, rfl, rfl, rfl, rfl, rfl, rfl, rfl, rfl, rfl, rfl, rfl, rfl⟩

/-- What a stop of the part clears. -/
@[simp] theorem State.clearVolatile_frame :
    (s.clearVolatile).pending = s.pending ∧ (s.clearVolatile).startup = s.startup ∧ (s.clearVolatile).settings =
    s.settings ∧ (s.clearVolatile).book = s.book ∧ (s.clearVolatile).billing = s.billing := by
  refine ⟨rfl, rfl, rfl, rfl, rfl⟩

/-- Entry to LOADING (R179). -/
@[simp] theorem State.enterLoading_frame :
    (s.enterLoading).pending = s.pending ∧ (s.enterLoading).settings = s.settings ∧ (s.enterLoading).book = s.book ∧
    (s.enterLoading).billing = s.billing := by
  refine ⟨rfl, rfl, rfl, rfl⟩

/-- A cold start leaves the marker VALID, and after its first act it is INVALID (R184). -/
theorem State.coldStart_marker (m : Image) :
    (s.coldStart m).startup.marker.valid = true ∧ s.markInvalid.startup.marker.valid = false := ⟨rfl, rfl⟩

/-- While the marker is INVALID the next start is cold, whatever the image (R183, R184). -/
theorem State.startKind_of_invalid (m : Image) (h : s.startup.marker.valid = false) : s.startKind m = .cold := by
  simp [State.startKind, h]

/-- What both kinds of start set. -/
@[simp] theorem State.startBlocks_frame (c : Config.Settings) (k : StartKind) (p : Nat) :
    (s.startBlocks c k p).pending = s.pending ∧ (s.startBlocks c k p).startup = s.startup ∧ (s.startBlocks c k p).time
    = s.time ∧ (s.startBlocks c k p).book = s.book ∧ (s.startBlocks c k p).meters = s.meters ∧ (s.startBlocks c k
    p).billing = s.billing := by
  simp [State.startBlocks]

end Sys2Proof.Machine
end

