-- ==== Sys2Proof/Laws/Values.lean ====
section
/-! SUPPORT. The arithmetic of the manual, the byte codings and class allocation: what each operation gives. -/

namespace Sys2Proof.Machine

/-- A saturating addition never passes its maximum. -/
theorem satAdd_le (top a b : Nat) : satAdd top a b ≤ top := by unfold satAdd; omega

/-- Round-half-up is the nearest integer, an exact half going up. -/
theorem roundDiv_spec (n d : Nat) (hd : 0 < d) : 2 * d * roundDiv n d ≤ 2 * n + d ∧ 2 * n + d < 2 * d * (roundDiv n d + 1) := by
  have h := Nat.div_add_mod (2 * n + d) (2 * d)
  have hm := Nat.mod_lt (2 * n + d) (show 0 < 2 * d by omega)
  simp only [roundDiv, Nat.mul_add, Nat.mul_one]; omega

/-- A clamp lies within its bounds. -/
theorem clampInt_bounds {lo hi : Int} (x : Int) (h : lo ≤ hi) : lo ≤ clampInt lo hi x ∧ clampInt lo hi x ≤ hi := by
  simp [clampInt]; omega

/-- A clamp leaves a value within its bounds. -/
theorem clampInt_of_mem {lo hi x : Int} (h : lo ≤ x) (h' : x ≤ hi) : clampInt lo hi x = x := by simp [clampInt]; omega

/-! ## Bytes (R187) -/

/-- A field of n bytes has n bytes. -/
@[simp] theorem length_toBytes (n v : Nat) : (toBytes n v).length = n := by
  induction n generalizing v with
  | zero => rfl
  | succ n ih => simp [toBytes, ih]

/-- One byte is one byte. -/
@[simp] theorem length_byte (v : Nat) : (byte v).length = 1 := rfl

/-- A mark takes one byte. -/
@[simp] theorem length_markByte (b : Bool) : (markByte b).length = 1 := rfl

/-- The check takes two bytes (R188). -/
@[simp] theorem length_crcBytes (bs : List Byte) : (crcBytes bs).length = 2 := length_toBytes 2 _

/-- The bytes of a number that fits them give it back. -/
theorem ofBytes_toBytes {n v : Nat} (h : v < 256 ^ n) : ofBytes (toBytes n v) = v := by
  induction n generalizing v with
  | zero => simp at h; simp [toBytes, ofBytes, h]
  | succ n ih =>
    have : v / 256 < 256 ^ n := by rw [Nat.pow_succ] at h; exact Nat.div_lt_of_lt_mul (by omega)
    simp only [toBytes, ofBytes, ih this, BitVec.toNat_ofNat]; omega

/-- The bytes of a number are those of its residue. -/
theorem ofBytes_lt (bs : List Byte) : ofBytes bs < 256 ^ bs.length := by
  induction bs with
  | nil => simp [ofBytes]
  | cons b bs ih => have := b.isLt; simp only [ofBytes, List.length_cons, Nat.pow_succ]; omega

/-- The bytes of what bytes say are those bytes. -/
theorem toBytes_ofBytes (bs : List Byte) : toBytes bs.length (ofBytes bs) = bs := by
  induction bs with
  | nil => rfl
  | cons b bs ih =>
    have := b.isLt
    simp only [List.length_cons, ofBytes, toBytes]
    refine List.cons_eq_cons.mpr ⟨?_, ?_⟩
    · apply BitVec.eq_of_toNat_eq; simp only [BitVec.toNat_ofNat]; omega
    · rw [show (b.toNat + 256 * ofBytes bs) / 256 = ofBytes bs by omega, ih]

/-- A flattened list of records of one size. -/
theorem length_flatMap_const {α β : Type} (f : α → List β) (n : Nat) (l : List α) (h : ∀ x ∈ l, (f x).length = n) :
    (l.flatMap f).length = l.length * n := by
  induction l with
  | nil => simp
  | cons a l ih =>
    simp only [List.flatMap_cons, List.length_append, h a (by simp), ih fun x hx => h x (by simp [hx]), List.length_cons, Nat.add_mul]
    omega

/-! ## Class allocation (R73) and the pro-rata share (R78) -/

/-- No class is allocated more than its demand. -/
theorem classAllocation_le (x : Nat) (d : ByClass) (k : WaterClass) : (classAllocation x d).get k ≤ d.get k := by
  cases k <;> simp only [classAllocation, ByClass.get] <;> omega

/-- The allocations sum to no more than the limit. -/
theorem total_classAllocation_le (x : Nat) (d : ByClass) : (classAllocation x d).total ≤ x := by
  simp [classAllocation, ByClass.total]; omega

/-- A share never exceeds its demand. -/
theorem proRata_le (g dsum d : Nat) : proRata g dsum d ≤ d := by
  unfold proRata
  split
  · omega
  split
  · omega
  · have hpos : 0 < dsum := by omega
    have : g * 1024 / dsum ≤ 1024 := (Nat.div_le_iff_le_mul_add_pred hpos).mpr (by omega)
    calc d * (g * 1024 / dsum) / 1024 ≤ d * 1024 / 1024 := Nat.div_le_div_right (Nat.mul_le_mul_left d this)
      _ = d := Nat.mul_div_cancel d (by omega)

end Sys2Proof.Machine
end

