-- ==== Sys2Proof/Laws/LineFrame.lean ====
section
/-! SUPPORT. A canal-line frame as it is built passes the checks of the stations that hear it (R40, R189). -/

namespace Sys2Proof.Machine

/-- The frame that a station builds around a payload is decoded by every other station as its kind says. -/
theorem decodeFrame_lineFrame {own sender : Nat} {payload : List Byte} (kind : Byte) (h1 : 1 ≤ sender) (h250 : sender ≤ 250) (hne : sender ≠ own)
    (hl : payload.length ≤ 480) :
    decodeFrame own (lineFrame kind sender payload) =
      if kind = reachKind then (decodeReach payload).map (Notice.reach sender)
      else if kind = watchKind then
        if payload.length = 8 then some (.watch sender (fieldAt payload 0 4) (fieldAt payload 4 4)) else none
      else none := by
  obtain ⟨body, hb⟩ : ∃ body, kind :: (byte sender ++ toBytes 2 payload.length ++ payload) = body := ⟨_, rfl⟩
  have hbl : body.length = 4 + payload.length := by subst hb; simp; omega
  have hf : lineFrame kind sender payload = lineSync :: (body ++ crcBytes body) := by simp only [lineFrame, hb]
  have hlen : (lineFrame kind sender payload).length = 7 + payload.length := by simp [hf, hbl]; omega
  have hbody : ((lineFrame kind sender payload).drop 1).take ((lineFrame kind sender payload).length - 3) = body := by
    rw [hlen, hf, List.drop_succ_cons, List.drop_zero]; exact List.take_left' (by omega)
  have hcrc : (lineFrame kind sender payload).drop ((lineFrame kind sender payload).length - 2) = crcBytes body := by
    rw [hlen, hf, show 7 + payload.length - 2 = (4 + payload.length) + 1 by omega, List.drop_succ_cons]; exact List.drop_left' hbl
  have hpay : ((lineFrame kind sender payload).drop 5).take ((lineFrame kind sender payload).length - 7) = payload := by
    rw [hlen, hf, ← hb]; simp [toBytes, byte]
  have hkind : byteAt (lineFrame kind sender payload) 1 = kind := by rw [hf, ← hb]; rfl
  have hsync : byteAt (lineFrame kind sender payload) 0 = lineSync := by rw [hf]; rfl
  have hs : fieldAt (lineFrame kind sender payload) 2 1 = sender := by
    rw [hf, ← hb]; simp [fieldAt, byte, ofBytes]; omega
  have hlf : fieldAt (lineFrame kind sender payload) 3 2 = payload.length := by
    rw [hf, ← hb]; simp [fieldAt, byte, toBytes, ofBytes]; omega
  rw [hlen] at hbody hcrc hpay
  unfold decodeFrame
  simp only [hlen, hbody, hcrc, hpay, hkind, hsync, hs, hlf]
  rw [if_neg (by simp; omega), if_neg (by simp), if_neg (by omega), if_neg hne]

end Sys2Proof.Machine
end

