-- ==== Sys2Proof/Laws/Log.lean ====
section
/-! SUPPORT. The billing log and the wait list: what an entry, a join, a charge and a release leave (chapter 9). -/

namespace Sys2Proof.Machine

variable (s : State)

/-- A record that enters is the newest, with the next sequence number (R156). -/
@[simp] theorem Billing.enter_log (b : Billing) (r : BillRecord) : (b.enter r).log = b.log ++ [{ r with seq := b.nextSeq }] := rfl
@[simp] theorem Billing.enter_nextSeq (b : Billing) (r : BillRecord) : (b.enter r).nextSeq = (b.nextSeq + 1) % 4294967296 := rfl
@[simp] theorem Billing.enter_readPos (b : Billing) (r : BillRecord) : (b.enter r).readPos = b.readPos := rfl
@[simp] theorem Billing.enter_waitList (b : Billing) (r : BillRecord) : (b.enter r).waitList = b.waitList := rfl
@[simp] theorem Billing.enter_accounts (b : Billing) (r : BillRecord) : (b.enter r).accounts = b.accounts := rfl

/-- The billing part after a record enters (R156). -/
@[simp] theorem State.enterLog_billing (r : BillRecord) : (s.enterLog r).billing = s.billing.enter r := by
  simp [State.enterLog]

/-- The billing part after an item joins the wait list (R160). -/
@[simp] theorem State.joinWait_billing (x : WaitItem) :
    (s.joinWait x).billing = { s.billing with waitList := s.billing.waitList ++ [x] } := by simp [State.joinWait]

/-- The billing part after a charge: one account changes (R153). -/
@[simp] theorem State.chargeAccount_billing (index volume amount : Nat) :
    (s.chargeAccount index volume amount).billing =
      { s.billing with accounts := s.billing.accounts.set index ((s.billing.account index).charged volume amount) } := by
  simp [State.chargeAccount]

/-- A charge leaves number, allotment and limit, and moves the state to HOLD alone (R153, R154). -/
theorem Account.charged_frame (a : Account) (volume amount : Nat) :
    (a.charged volume amount).number = a.number ∧ (a.charged volume amount).allotment = a.allotment ∧
      (a.charged volume amount).limit = a.limit ∧
      ((a.charged volume amount).state = a.state ∨ (a.state = .good ∧ (a.charged volume amount).state = .hold)) := by
  unfold Account.charged
  split
  · simp
  · simp only
    split
    · rename_i h; simp [h.2.2]
    · simp

/-- A record has room in the log exactly when the log has space and nothing waits (R156). -/
theorem Billing.hasRoom_iff (b : Billing) : b.hasRoom = true ↔ b.log.length < 256 ∧ b.waitList = [] := by
  rw [Billing.hasRoom, logCapacity, Bool.and_eq_true, decide_eq_true_eq, List.isEmpty_iff]

/-- A release leaves the number of records short by what it removed (R158). -/
theorem Billing.length_release (b : Billing) (n : Nat) : (b.release n).log.length = b.log.length - n := by simp [Billing.release]

/-- Putting one turnout's entry leaves the rest of the part. -/
theorem State.putTurnout_eq (i : Nat) (t : Turnout) :
    s.putTurnout i t = { s with meters := { s.meters with turnouts := s.meters.turnouts.set i t } } := rfl

end Sys2Proof.Machine
end

