-- ==== Sys2Proof/Laws/PerInstr.lean ====
section
/-! SUPPORT. Command by command: the payload that a command of the station link has belongs to a row of the table of R192, under its kind code, and
has a length that the row calls for; the other rows of the table have no payload. -/

namespace Sys2Proof.Laws

open Sys2Proof Sys2Proof.Machine

/-- The payload of a well-formed command fits the row of its kind code in the table of R192. -/
def LinkEncoding.Statement (c : Instr) : Prop :=
  c.wellFormed = true → ∀ (kind : Byte) (payload : List Byte), linkPayload c = some (kind, payload) →
    ∃ r, linkRows.find? (fun r => r.kind == kind) = some r ∧ r.fits payload.length = true

/-- A command that is no command of the station link. -/
theorem linkEncoding_of_none {c : Instr} (h : linkPayload c = none) : LinkEncoding.Statement c := by
  intro _ kind payload h'; rw [h] at h'; exact absurd h' (by simp)

/-- A command whose row calls for one length. -/
theorem linkEncoding_of_row {c : Instr} {kind : Byte} {payload : List Byte} {r : LinkRow} (h : linkPayload c = some (kind, payload))
    (hr : linkRows.find? (fun r => r.kind == kind) = some r) (hf : c.wellFormed = true → r.fits payload.length = true) :
    LinkEncoding.Statement c := by
  intro hw kind' payload' h'
  rw [h] at h'
  obtain ⟨rfl, rfl⟩ := Prod.mk.injEq .. ▸ Option.some.inj h'
  exact ⟨r, hr, hf hw⟩

/-- RESET_RELEASE. -/
theorem LinkEncoding.resetRelease (start : BitVec 2) (forceCold retainedHeld : Bool) : LinkEncoding.Statement (.resetRelease start forceCold retainedHeld) := linkEncoding_of_none rfl
/-- SUPPLY_LOSS. -/
theorem LinkEncoding.supplyLoss : LinkEncoding.Statement .supplyLoss := linkEncoding_of_none rfl
/-- IMAGE_READ_COMPLETE. -/
theorem LinkEncoding.imageReadComplete (image : List Byte) : LinkEncoding.Statement (.imageReadComplete image) := linkEncoding_of_none rfl
/-- CATCH_UP. -/
theorem LinkEncoding.catchUp : LinkEncoding.Statement .catchUp := linkEncoding_of_none rfl
/-- PERIOD_BOUNDARY. -/
theorem LinkEncoding.periodBoundary : LinkEncoding.Statement .periodBoundary := linkEncoding_of_none rfl
/-- CRYSTAL_STOP. -/
theorem LinkEncoding.crystalStop : LinkEncoding.Statement .crystalStop := linkEncoding_of_none rfl
/-- CRYSTAL_RUNNING. -/
theorem LinkEncoding.crystalRunning : LinkEncoding.Statement .crystalRunning := linkEncoding_of_none rfl
/-- PLAN_PERIOD_CHANGE. -/
theorem LinkEncoding.planPeriodChange : LinkEncoding.Statement .planPeriodChange := linkEncoding_of_none rfl
/-- GATE_PERIOD_BOUNDARY. -/
theorem LinkEncoding.gatePeriodBoundary : LinkEncoding.Statement .gatePeriodBoundary := linkEncoding_of_none rfl
/-- METER_PERIOD_CLOSE. -/
theorem LinkEncoding.meterPeriodClose : LinkEncoding.Statement .meterPeriodClose := linkEncoding_of_none rfl
/-- PERIOD_CLOSE. -/
theorem LinkEncoding.periodClose : LinkEncoding.Statement .periodClose := linkEncoding_of_none rfl
/-- BILLING_DAY_CLOSE. -/
theorem LinkEncoding.billingDayClose : LinkEncoding.Statement .billingDayClose := linkEncoding_of_none rfl
/-- LINE_FRAME_RECEIVED. -/
theorem LinkEncoding.lineFrameReceived (frame : List Byte) : LinkEncoding.Statement (.lineFrameReceived frame) := linkEncoding_of_none rfl
/-- LINE_FRAME_GAP. -/
theorem LinkEncoding.lineFrameGap : LinkEncoding.Statement .lineFrameGap := linkEncoding_of_none rfl
/-- HOLD_EXPIRY. -/
theorem LinkEncoding.holdExpiry (entry : Nat) : LinkEncoding.Statement (.holdExpiry entry) := linkEncoding_of_none rfl
/-- ACCESS_GAP_REACHED. -/
theorem LinkEncoding.accessGapReached : LinkEncoding.Statement .accessGapReached := linkEncoding_of_none rfl
/-- COLLISION. -/
theorem LinkEncoding.collision : LinkEncoding.Statement .collision := linkEncoding_of_none rfl
/-- BACKOFF_EXPIRY. -/
theorem LinkEncoding.backoffExpiry : LinkEncoding.Statement .backoffExpiry := linkEncoding_of_none rfl
/-- NOTICE_COMPLETE. -/
theorem LinkEncoding.noticeComplete : LinkEncoding.Statement .noticeComplete := linkEncoding_of_none rfl
/-- HOLDOFF_EXPIRY. -/
theorem LinkEncoding.holdoffExpiry : LinkEncoding.Statement .holdoffExpiry := linkEncoding_of_none rfl
/-- NOTICE_TIMER_EXPIRY. -/
theorem LinkEncoding.noticeTimerExpiry : LinkEncoding.Statement .noticeTimerExpiry := linkEncoding_of_none rfl
/-- LEVEL_SAMPLE. -/
theorem LinkEncoding.levelSample (record : List Byte) : LinkEncoding.Statement (.levelSample record) := linkEncoding_of_none rfl
/-- SAMPLE_WATCH_EXPIRY. -/
theorem LinkEncoding.sampleWatchExpiry : LinkEncoding.Statement .sampleWatchExpiry := linkEncoding_of_none rfl
/-- ENCODER_STEP. -/
theorem LinkEncoding.encoderStep (opening : Bool) : LinkEncoding.Statement (.encoderStep opening) := linkEncoding_of_none rfl
/-- LIMIT_INPUT_CHANGE. -/
theorem LinkEncoding.limitInputChange (openLimit active : Bool) : LinkEncoding.Statement (.limitInputChange openLimit active) := linkEncoding_of_none rfl
/-- REST_EXPIRY. -/
theorem LinkEncoding.restExpiry : LinkEncoding.Statement .restExpiry := linkEncoding_of_none rfl
/-- STALL_EXPIRY. -/
theorem LinkEncoding.stallExpiry : LinkEncoding.Statement .stallExpiry := linkEncoding_of_none rfl
/-- SUPPLY_LOW_CHANGE. -/
theorem LinkEncoding.supplyLowChange (active : Bool) : LinkEncoding.Statement (.supplyLowChange active) := linkEncoding_of_none rfl
/-- TRIP_INPUT_CHANGE. -/
theorem LinkEncoding.tripInputChange (active : Bool) : LinkEncoding.Statement (.tripInputChange active) := linkEncoding_of_none rfl
/-- TRIP_WAIT_EXPIRY. -/
theorem LinkEncoding.tripWaitExpiry : LinkEncoding.Statement .tripWaitExpiry := linkEncoding_of_none rfl
/-- METER_PULSE. -/
theorem LinkEncoding.meterPulse (turnout : Nat) : LinkEncoding.Statement (.meterPulse turnout) := linkEncoding_of_none rfl
/-- NO_FLOW_EXPIRY. -/
theorem LinkEncoding.noFlowExpiry (turnout : Nat) : LinkEncoding.Statement (.noFlowExpiry turnout) := linkEncoding_of_none rfl
/-- LINK_FRAME_RECEIVED. -/
theorem LinkEncoding.linkFrameReceived (frame : List Byte) (framingError : Bool) : LinkEncoding.Statement (.linkFrameReceived frame framingError) := linkEncoding_of_none rfl
/-- LINK_FRAME_GAP. -/
theorem LinkEncoding.linkFrameGap : LinkEncoding.Statement .linkFrameGap := linkEncoding_of_none rfl
/-- REPLY_SENT. -/
theorem LinkEncoding.replySent : LinkEncoding.Statement .replySent := linkEncoding_of_none rfl
/-- CHECK. -/
theorem LinkEncoding.check (kind : Byte) : LinkEncoding.Statement (.check kind) := linkEncoding_of_none rfl
/-- UNKNOWN_COMMAND. -/
theorem LinkEncoding.unknownCommand (kind : Byte) : LinkEncoding.Statement (.unknownCommand kind) := linkEncoding_of_none rfl
/-- STATUS_READ. -/
theorem LinkEncoding.statusRead (part : Nat) : LinkEncoding.Statement (.statusRead part) := linkEncoding_of_row rfl rfl fun _ => rfl
/-- PLAN_READ. -/
theorem LinkEncoding.planRead (part : Nat) : LinkEncoding.Statement (.planRead part) := linkEncoding_of_row rfl rfl fun _ => rfl
/-- ORDER_QUERY. -/
theorem LinkEncoding.orderQuery (number : Nat) : LinkEncoding.Statement (.orderQuery number) := linkEncoding_of_row rfl rfl fun _ => rfl
/-- BOOK_LIST. -/
theorem LinkEncoding.bookList : LinkEncoding.Statement .bookList := linkEncoding_of_row rfl rfl fun _ => rfl
/-- ACCOUNT_QUERY. -/
theorem LinkEncoding.accountQuery (index : Nat) : LinkEncoding.Statement (.accountQuery index) := linkEncoding_of_row rfl rfl fun _ => rfl
/-- TURNOUT_QUERY. -/
theorem LinkEncoding.turnoutQuery (turnout : Nat) : LinkEncoding.Statement (.turnoutQuery turnout) := linkEncoding_of_row rfl rfl fun _ => rfl
/-- LOG_READ. -/
theorem LinkEncoding.logRead (count : Nat) : LinkEncoding.Statement (.logRead count) := linkEncoding_of_row rfl rfl fun _ => rfl
/-- ALERT_READ. -/
theorem LinkEncoding.alertRead : LinkEncoding.Statement .alertRead := linkEncoding_of_row rfl rfl fun _ => rfl
/-- TIME_SET. -/
theorem LinkEncoding.timeSet (day minute second ms : Nat) : LinkEncoding.Statement (.timeSet day minute second ms) := linkEncoding_of_row rfl rfl fun _ => rfl
/-- TIME_TRIM. -/
theorem LinkEncoding.timeTrim (seconds : Int) : LinkEncoding.Statement (.timeTrim seconds) := linkEncoding_of_row rfl rfl fun _ => rfl
/-- SUPPLY_SET. -/
theorem LinkEncoding.supplySet (flow : Nat) : LinkEncoding.Statement (.supplySet flow) := linkEncoding_of_row rfl rfl fun _ => rfl
/-- WATCH_DECLARE. -/
theorem LinkEncoding.watchDeclare (key : Nat) : LinkEncoding.Statement (.watchDeclare key) := linkEncoding_of_row rfl rfl fun _ => rfl
/-- ORDER_PLACE. -/
theorem LinkEncoding.orderPlace (request : OrderRequest) : LinkEncoding.Statement (.orderPlace request) := linkEncoding_of_row rfl rfl fun _ => rfl
/-- ORDER_CANCEL. -/
theorem LinkEncoding.orderCancel (number : Nat) : LinkEncoding.Statement (.orderCancel number) := linkEncoding_of_row rfl rfl fun _ => rfl
/-- ORDER_SHUTOFF. -/
theorem LinkEncoding.orderShutoff (number : Nat) : LinkEncoding.Statement (.orderShutoff number) := linkEncoding_of_row rfl rfl fun _ => rfl
/-- ACCOUNT_SET. -/
theorem LinkEncoding.accountSet (index allotment limit state : Nat) : LinkEncoding.Statement (.accountSet index allotment limit state) := linkEncoding_of_row rfl rfl fun _ => rfl
/-- TURNOUT_SERVICE. -/
theorem LinkEncoding.turnoutService (turnout direction : Nat) : LinkEncoding.Statement (.turnoutService turnout direction) := linkEncoding_of_row rfl rfl fun _ => rfl
/-- TURNOUT_ACK. -/
theorem LinkEncoding.turnoutAck (turnout : Nat) (marks : Byte) : LinkEncoding.Statement (.turnoutAck turnout marks) := linkEncoding_of_row rfl rfl fun _ => rfl
/-- RATES_STAGE. -/
theorem LinkEncoding.ratesStage (table : RateTable) : LinkEncoding.Statement (.ratesStage table) := linkEncoding_of_row rfl rfl fun _ => rfl
/-- TARGET_STAGE. -/
theorem LinkEncoding.targetStage (level : Nat) : LinkEncoding.Statement (.targetStage level) := linkEncoding_of_row rfl rfl fun _ => rfl
/-- GATE_MODE. -/
theorem LinkEncoding.gateMode (mode opening : Nat) : LinkEncoding.Statement (.gateMode mode opening) := linkEncoding_of_row rfl rfl fun _ => rfl
/-- TRIP_CLEAR. -/
theorem LinkEncoding.tripClear : LinkEncoding.Statement .tripClear := linkEncoding_of_row rfl rfl fun _ => rfl
/-- LOG_RELEASE. -/
theorem LinkEncoding.logRelease (count : Nat) : LinkEncoding.Statement (.logRelease count) := linkEncoding_of_row rfl rfl fun _ => rfl
/-- ALERT_ACK. -/
theorem LinkEncoding.alertAck (marks : BitVec 24) : LinkEncoding.Statement (.alertAck marks) := linkEncoding_of_row rfl rfl fun _ => rfl
/-- ALERT_MASK. -/
theorem LinkEncoding.alertMask (marks : BitVec 24) : LinkEncoding.Statement (.alertMask marks) := linkEncoding_of_row rfl rfl fun _ => rfl
/-- MODERATION_EXPIRY. -/
theorem LinkEncoding.moderationExpiry : LinkEncoding.Statement .moderationExpiry := linkEncoding_of_none rfl
/-- SEASON_CLOSE. -/
theorem LinkEncoding.seasonClose : LinkEncoding.Statement .seasonClose := linkEncoding_of_row rfl rfl fun _ => rfl
/-- RESTART. -/
theorem LinkEncoding.restart : LinkEncoding.Statement .restart := linkEncoding_of_row rfl rfl fun _ => rfl
/-- NOTICE_NOW. -/
theorem LinkEncoding.noticeNow : LinkEncoding.Statement .noticeNow := linkEncoding_of_row rfl rfl fun _ => rfl
/-- CONFIG_DATA. -/
theorem LinkEncoding.configData (offset : Nat) (bytes : List Byte) : LinkEncoding.Statement (.configData offset bytes) := linkEncoding_of_row rfl rfl (by
    intro h
    simp only [Instr.wellFormed, Bool.and_eq_true, decide_eq_true_eq] at h
    simp only [List.length_append, length_toBytes, Bool.and_eq_true, decide_eq_true_eq]
    omega)
/-- CONFIG_END. -/
theorem LinkEncoding.configEnd : LinkEncoding.Statement .configEnd := linkEncoding_of_row rfl rfl fun _ => rfl
/-- LINE_CHARACTER_RECEIVED. -/
theorem LinkEncoding.lineCharacterReceived (char : Byte) (framingError : Bool) : LinkEncoding.Statement (.lineCharacterReceived char framingError) := linkEncoding_of_none rfl
/-- LINK_CHARACTER_RECEIVED. -/
theorem LinkEncoding.linkCharacterReceived (char : Byte) (framingError : Bool) : LinkEncoding.Statement (.linkCharacterReceived char framingError) := linkEncoding_of_none rfl

end Sys2Proof.Laws
end

