-- ==== Sys2Proof/Laws/Serve.lean ====
section
/-! SUPPORT. What serving a command answers (R169, R171), the start states as the blocks test them, and the taking of a command from the queue. -/

namespace Sys2Proof.Machine

variable {s : State}

/-- In RUN with supply. -/
theorem State.running_iff : s.running = true ↔ s.startup.powered = true ∧ s.startup.state = .run := by
  simp [State.running]

/-- In WAIT_TIME or RUN with supply. -/
theorem State.working_iff :
    s.working = true ↔ s.startup.powered = true ∧ (s.startup.state = .waitTime ∨ s.startup.state = .run) := by
  simp [State.working]

/-- RUN is a working state. -/
theorem State.working_of_running (h : s.running = true) : s.working = true := by
  rw [State.running_iff] at h; simp [State.working, h]

/-- A command that the start state serves gets the reply of its owner. -/
theorem State.serve_of_served (c : Instr) (kind : Byte) (k : Service) (body : Served) (hp : s.startup.powered = true)
    (hk : k.refusal s.startup.state = none) :
    s.serve c kind k body = body.state.answer kind body.result body.data (body.state.atHead c) := by
  simp [State.serve, hp, State.result, hk]

/-- A command that the start state refuses gets that refusal and reaches no block (R171). -/
theorem State.serve_of_refused (c : Instr) (kind : Byte) (k : Service) (body : Served) {r : ResultCode}
    (hp : s.startup.powered = true) (hk : k.refusal s.startup.state = some r) :
    s.serve c kind k body = s.answer kind r [] (s.atHead c) := by
  simp [State.serve, hp, State.result, hk, State.refuse]

/-- A command served in RUN only, in RUN. -/
theorem State.serve_run (c : Instr) (kind : Byte) (body : Served) (h : s.running = true) :
    s.serve c kind .run body = body.state.answer kind body.result body.data (body.state.atHead c) := by
  rw [State.running_iff] at h
  exact State.serve_of_served c kind .run body h.1 (by simp [Service.refusal, h.2])

/-- A command served in WAIT_TIME and RUN, in one of them. -/
theorem State.serve_started (c : Instr) (kind : Byte) (body : Served) (h : s.working = true) :
    s.serve c kind .started body = body.state.answer kind body.result body.data (body.state.atHead c) := by
  rw [State.working_iff] at h
  refine State.serve_of_served c kind .started body h.1 ?_
  rcases h.2 with h | h <;> simp [Service.refusal, h]

/-- A command served in every start state. -/
theorem State.serve_always (c : Instr) (kind : Byte) (body : Served) (hp : s.startup.powered = true) :
    s.serve c kind .always body = body.state.answer kind body.result body.data (body.state.atHead c) :=
  State.serve_of_served c kind .always body hp rfl

/-- A load command, in LOADING or CONFIG_FAULT. -/
theorem State.serve_load (c : Instr) (kind : Byte) (body : Served) (hp : s.startup.powered = true)
    (h : s.startup.state = .loading ∨ s.startup.state = .configFault) :
    s.serve c kind .load body = body.state.answer kind body.result body.data (body.state.atHead c) := by
  refine State.serve_of_served c kind .load body hp ?_
  rcases h with h | h <;> simp [Service.refusal, h]

/-- Without supply no command is served (log 6: DESIGN CHOICE). -/
theorem State.serve_of_unpowered (c : Instr) (kind : Byte) (k : Service) (body : Served) (hp : s.startup.powered = false) :
    s.serve c kind k body = s := by
  simp [State.serve, hp]

/-- A refusal: the state, the code, no data. -/
@[simp] theorem State.refuse_state (r : ResultCode) : (s.refuse r).state = s := rfl
@[simp] theorem State.refuse_result (r : ResultCode) : (s.refuse r).result = r := rfl
@[simp] theorem State.refuse_data (r : ResultCode) : (s.refuse r).data = [] := rfl
/-- An acceptance: the state, OK, the data. -/
@[simp] theorem State.accept_state (d : List Byte) : (s.accept d).state = s := rfl
@[simp] theorem State.accept_result (d : List Byte) : (s.accept d).result = .ok := rfl
@[simp] theorem State.accept_data (d : List Byte) : (s.accept d).data = d := rfl

/-- A timer has expired exactly when it runs in a working part and its interval has passed. -/
theorem State.expired_iff {start : Option Nat} {seconds : Nat} :
    s.expired start seconds = true ↔ s.working = true ∧ ∃ x, start = some x ∧ x + seconds * 1000 ≤ s.time.elapsed := by
  cases start <;> simp [State.expired, timerDue]

end Sys2Proof.Machine
end

