-- ==== Sys2Proof/Tests/Slice0.lean ====
section
/-! SUPPORT. Tests: the worked examples of spec/, an ill-formed term for each check of well-formedness, and for each statement with hypotheses a
concrete state that meets them. -/

namespace Sys2Proof.Tests

open Sys2Proof Sys2Proof.Machine

-- One theorem after the other: the evaluations below wait for one another in the kernel, and a thread for each takes too much memory.
set_option Elab.async false

/-! ## A small configuration and small states -/

/-- Station 20 on a reach with one downstream neighbour, 27, and a period length of 10 minutes. -/
def settings : Config.Settings :=
  { station := { number := 20, minNotice := 2, horizon := 1008, lockTime := 6 }
    periodLength := 10
    line := { rate := 9600, holdoff := 10, noticeInterval := 60, changeThreshold := 50 }
    neighbours := { upstream := 0, downstream := [{ station := 27, tau := 1, lostFlow := 300 }], holdTime := 180 }
    reach := { cap := 2000, loss := 100, fallback := 900, reachCapacity := 1000, poolArea := 10000, lossTolerance := 20000,
               cd := 610, width := 1500, aMax := 1200, encoder := 200 }
    levels := { target := 1500, deadZone := 10, gain := 20, correctionLimit := 300, minimum := 800, hysteresis := 50, guardStep := 50,
                deadband := 15, restTime := 3, stallTime := 8, sampleInterval := 2, upHigh := 2400, downHigh := 2200,
                levelTrip := true, tripAction := .close, tripOpening := 0, autoResume := false }
    turnouts := [ { present := true, inService := true, account := 1, capacity := 150, litres := 100, tau := 0, spacing := 200, noFlow := 30 }
                , { present := true, inService := true, account := 1, capacity := 150, litres := 100, tau := 2, spacing := 200, noFlow := 30 }
                , { present := false, inService := false, account := 0, capacity := 150, litres := 100, tau := 0, spacing := 200, noFlow := 30 } ]
    alert := { threshold := 2, masks := 0, moderation := 5, logThreshold := 4 } }

/-- Account 401 207 of the worked charges of section 9.3. -/
def account : Account :=
  { number := 401207, allotment := 5000, limit := 815000, state := .good, used := 4900000, charges := 812000 }

/-- The rates of the worked charges of section 9.3. -/
def rates : RateTable :=
  { tier1 := { c1 := 0, c2 := 1800, c3 := 1800, c4 := 0 }, tier2 := { c1 := 0, c2 := 3000, c3 := 4500, c4 := 0 }
    unused := { c1 := 0, c2 := 900, c3 := 900, c4 := 0 }, unordered := 2500, callOut := 2500, lateCancel := 700 }

/-- Day 812, 23:41:10.000: period key 117 070 (section 1.8). -/
def noon : DistrictTime := { day := 812, minute := 1421, second := 10, ms := 0 }

/-- The part in RUN at that time, with an empty book and turnouts 0 and 1 present. -/
def run : State :=
  { State.reset with
    startup := { State.reset.startup with state := .run, lastStart := some .cold }
    settings := settings
    time := { State.reset.time with time := noon, quality := .set, counting := true, retainedKey := 117070, elapsed := 100000 }
    book := { slots := List.replicate 48 none, bookKey := 117070 }
    neigh := { entries := formEntries settings.neighbours, watchEnd := 0 }
    planner := { State.reset.planner with planKey := 117070, headSupply := 900,
                                          schedules := [List.replicate 20 { value := none, frozen := false }] }
    close := { State.reset.close with openKey := 117070 }
    meters := { State.reset.meters with turnouts := List.replicate 2 { resetTurnout with inService := true } ++ List.replicate 14 resetTurnout }
    billing := { State.reset.billing with accounts := [resetAccount, account] ++ List.replicate 62 resetAccount, active := rates } }

/-- The same part in WAIT_TIME. -/
def waitTime : State := { run with startup := { run.startup with state := .waitTime } }

/-- The same part in CONFIG_FAULT. -/
def configFault : State := { run with startup := { run.startup with state := .configFault } }

/-- Order 4520 of the worked charges, drawn on turnout 0. -/
def order : Order :=
  { number := 4520, turnout := 0, account := 1, cls := .standard, startKey := 117069, duration := 3, rate := 80, state := .active
    grants := List.replicate 20 { rate := 80, frozen := false }, floor := 80, granted := 200000, delivered := 180000
    flags := OrderFlags.clear, closeKey := none, charge := none, record := none }

/-- A bill record made for that order. -/
def record : BillRecord := orderRecord run .delivery 117072 5400 order

/-- The part with an order in slot 0 in a given state. -/
def withOrder (st : OrderState) : State := { run with book := { run.book with slots := [some { order with state := st }] ++ List.replicate 47 none } }

/-- The part with another gate. -/
def withGate (g : Gate) : State := { run with gate := g }

/-- A field of the next state. -/
def nextIs (o : Out) (p : State → Bool) : Bool :=
  match o with
  | .next t => p t
  | _ => false

/-- The result and the data of the reply in the next state. -/
def answers (o : Out) (result : ResultCode) (data : List Byte) : Bool :=
  nextIs o fun t => (t.link.reply.map fun r => (r.result, r.data)) == some (result, data)

/-! ## Well-formedness: each check refuses an ill-formed term -/

/-- One ill-formed command for each check. -/
def illFormed : List Instr :=
  [ .statusRead 256, .planRead 256, .orderQuery 65536, .accountQuery 256, .turnoutQuery 256, .logRead 256, .timeSet 65536 0 0 0
  , .timeSet 0 65536 0 0, .timeSet 0 0 256 0, .timeSet 0 0 0 65536, .timeTrim 128, .timeTrim (-129), .supplySet 65536
  , .watchDeclare 4294967296, .orderPlace { number := 65536, turnout := 0, account := 0, cls := 1, startKey := 0, duration := 1, rate := 5 }
  , .orderPlace { number := 1, turnout := 256, account := 0, cls := 1, startKey := 0, duration := 1, rate := 5 }
  , .orderPlace { number := 1, turnout := 0, account := 256, cls := 1, startKey := 0, duration := 1, rate := 5 }
  , .orderPlace { number := 1, turnout := 0, account := 0, cls := 256, startKey := 0, duration := 1, rate := 5 }
  , .orderPlace { number := 1, turnout := 0, account := 0, cls := 1, startKey := 4294967296, duration := 1, rate := 5 }
  , .orderPlace { number := 1, turnout := 0, account := 0, cls := 1, startKey := 0, duration := 65536, rate := 5 }
  , .orderPlace { number := 1, turnout := 0, account := 0, cls := 1, startKey := 0, duration := 1, rate := 65536 }
  , .orderCancel 65536, .orderShutoff 65536, .accountSet 256 0 0 0, .accountSet 0 4294967296 0 0, .accountSet 0 0 4294967296 0
  , .accountSet 0 0 0 256, .turnoutService 256 0, .turnoutService 0 256, .turnoutAck 256 0, .targetStage 65536, .gateMode 256 0
  , .gateMode 0 65536, .logRelease 65536, .configData 65536 [0], .configData 0 [], .configData 0 (List.replicate 513 0), .holdExpiry 4
  , .meterPulse 16, .noFlowExpiry 16 ]

theorem test_ill_formed : illFormed.all (fun c => !c.wellFormed) = true := by decide +kernel

theorem test_ill_formed_rates :
    [ { rates with tier1 := { rates.tier1 with c1 := 65536 } }, { rates with tier2 := { rates.tier2 with c2 := 65536 } }
    , { rates with unused := { rates.unused with c3 := 65536 } }, { rates with unused := { rates.unused with c4 := 65536 } }
    , { rates with unordered := 65536 }, { rates with callOut := 4294967296 }, { rates with lateCancel := 4294967296 } ].all
      (fun t => !(Instr.ratesStage t).wellFormed) = true := by decide +kernel

theorem test_well_formed : ((Instr.ratesStage rates).wellFormed && (Instr.timeTrim (-128)).wellFormed &&
    (Instr.configData 65535 (List.replicate 512 0)).wellFormed) = true := by decide +kernel

/-! ## Formats (chapter 12) -/

/-- R188: over the nine characters 1 to 9 the check is 29B1. -/
theorem test_crc : crc16 [0x31, 0x32, 0x33, 0x34, 0x35, 0x36, 0x37, 0x38, 0x39] = 0x29B1#16 := by decide +kernel

/-- A link frame without its sync byte, with its CRC. -/
def linkFrameOf (body : List Byte) : LinkFrame := { chars := body ++ crcBytes body, bad := false }

/-- Frames written out from the table of R192: an event, a write, a signed value, an order, a wrong check, a wrong length, an unknown kind. -/
theorem test_link_frames :
    [ decodeLink (linkFrameOf [0x23, 0, 0])
    , decodeLink (linkFrameOf [0x12, 2, 0, 0xE8, 0x03])
    , decodeLink (linkFrameOf [0x11, 1, 0, 0xFD])
    , decodeLink (linkFrameOf [0x14, 13, 0, 0xEC, 0x13, 5, 1, 3, 0x51, 0xC9, 0x01, 0x00, 3, 0, 80, 0])
    , decodeLink { chars := [0x23, 0, 0, 0, 0], bad := false }
    , decodeLink (linkFrameOf [0x23, 1, 0, 7])
    , decodeLink (linkFrameOf [0x24, 0, 0]) ] =
    [ .noticeNow, .supplySet 1000, .timeTrim (-3)
    , .orderPlace { number := 5100, turnout := 5, account := 1, cls := 3, startKey := 117073, duration := 3, rate := 80 }
    , .check 0x23, .unknownCommand 0x23, .unknownCommand 0x24 ] := by decide +kernel

/-- The table of commands gives no row any bits. -/
theorem test_no_word : decodeTableWord 16 0xFFFF = none := rfl

/-- R190: a REACH payload with blocks of three and four classes and two pairs has 300 bytes. -/
theorem test_reach_length :
    let zeros := List.replicate 12 ByClass.zero
    let three := List.replicate 12 ({ c1 := 1, c2 := 0, c3 := 2, c4 := 3 } : ByClass)
    let four := List.replicate 12 ({ c1 := 1, c2 := 4, c3 := 2, c4 := 3 } : ByClass)
    let pair : ClosingPair := { key := 5, litres := 6, estimated := true }
    let f : ReachFields := { key := 117070, quality := .set, flags := statusOf 0, level := 1500, watchEnd := 0, plan := zeros,
                             blocks := [{ station := 9, grants := three }, { station := 17, grants := four }], pairs := [pair, pair] }
    f.bytes.length = 300 := by decide +kernel

/-- R189: a WATCH frame written out, and the checks of R40 that it fails at its own sender and with a wrong byte. -/
theorem test_watch_frame :
    let body : List Byte := [0x12, 25, 8, 0, 0x4E, 0xC9, 1, 0, 0x50, 0xC9, 1, 0]
    decodeFrame 9 (0xA7 :: (body ++ crcBytes body)) = some (.watch 25 117070 117072) ∧
    decodeFrame 25 (0xA7 :: (body ++ crcBytes body)) = none ∧ decodeFrame 9 (0xA7 :: (body ++ [0, 0])) = none := by decide +kernel

/-- R191 and R91: a good record, one with a bad quality mark, one with a level above 4 000 mm. -/
theorem test_sample_record :
    readSample ([0xE2, 0x08, 0x07, 0xB0, 0x04, 0] ++ crcBytes [0x08, 0x07, 0xB0, 0x04, 0]) = some (1800, 1200) ∧
    readSample ([0xE2, 0x08, 0x07, 0xB0, 0x04, 1] ++ crcBytes [0x08, 0x07, 0xB0, 0x04, 1]) = none ∧
    readSample ([0xE2, 0xA1, 0x0F, 0xB0, 0x04, 0] ++ crcBytes [0xA1, 0x0F, 0xB0, 0x04, 0]) = none := by decide +kernel

/-- R193: where the sections start, and the length of the whole image. -/
theorem test_image_sections :
    imageSections.map ImageSection.start = [8, 16, 20, 28, 47, 74, 101, 296, 1067, 1104] ∧
      ImageSection.alertSettings.start + 3 + ImageSection.alertSettings.size = 1114 := by decide +kernel

/-! ## A whole image that passes its check (R193, R181) -/

/-- A section of an image: identifier, length, settings. -/
def imageSection (id : Nat) (p : List Byte) : List Byte := byte id ++ (toBytes 2 p.length ++ p)

/-- An image after its CRC (R193): format version 1, season 7, station 20, length 1 114, and the ten sections. -/
def imageRest : List Byte :=
  [1, 7, 0, 20, 0x5A, 0x04] ++
  imageSection 1 [20, 2, 0xF0, 0x03, 6] ++ imageSection 2 [10] ++ imageSection 3 [1, 10, 60, 50, 0] ++
  imageSection 4 [0, 1, 27, 1, 0x2C, 0x01, 0, 0, 0, 0, 0, 0, 0, 0, 180, 0] ++
  imageSection 5 (toBytes 2 2000 ++ toBytes 2 100 ++ toBytes 2 900 ++ toBytes 2 1000 ++ toBytes 4 10000 ++ toBytes 4 20000 ++ toBytes 2 610 ++
    toBytes 2 1500 ++ toBytes 2 1200 ++ toBytes 2 200) ++
  imageSection 6 (toBytes 2 1500 ++ [10, 20] ++ toBytes 2 300 ++ toBytes 2 800 ++ [50] ++ toBytes 2 50 ++ [15, 3, 8, 2] ++ toBytes 2 2400 ++
    toBytes 2 2200 ++ [1, 1, 0, 0, 0]) ++
  imageSection 7 ((List.range 16).flatMap fun i =>
    [if i < 12 then 1 else 0, 1, 0, 150, 0, 100, 0, 0, 200, 0, 30, 0]) ++
  imageSection 8 ((List.range 64).flatMap fun i => toBytes 3 (if i < 4 then 1000 + i else 0) ++ toBytes 4 5000 ++ toBytes 4 815000 ++ [0]) ++
  imageSection 9 (List.replicate 34 0) ++ imageSection 10 [2, 0, 0, 0, 5, 192, 0]

/-- The whole image. -/
def image : List Byte := crcBytes imageRest ++ imageRest

theorem image_drop : image.drop 2 = imageRest := by rw [image]; exact List.drop_left' (length_crcBytes _)
theorem image_take : image.take 2 = crcBytes imageRest := by rw [image]; exact List.take_left' (length_crcBytes _)
theorem image_length : image.length = 1114 := by
  rw [image, List.length_append, length_crcBytes, show imageRest.length = 1112 by decide +kernel]

theorem image_header : headerGood image = true := by
  have h : headerLength image = 1114 := by decide +kernel
  have v : fieldAt image 2 1 = 1 := by decide +kernel
  simp [headerGood, h, image_length, image_drop, image_take, v, within, headerSize, imageMax]
theorem image_sections : (imageSections.find? fun x => !(x.fits image && x.good image)) = none := by decide +kernel
/-- The image passes its check. -/
theorem image_good : imageFailure image = none := by rw [imageFailure, if_pos image_header]; exact image_sections

/-! ## The worked examples of the chapters -/

/-- Section 1.8: the key of day 812, 23:41. -/
theorem test_key : noon.key 10 = 117070 := by decide

/-- Section 1.8, row 5: in DEGRADED quality a TIME_SET over three period starts is a jump, without a day close. -/
theorem test_time_set_jump :
    let s := { run with time := { run.time with time := { day := 813, minute := 5, second := 0, ms := 0 }, quality := .degraded } }
    nextIs (exec (.timeSet 813 36 5 0) s) (fun t => t.curKey == 117075 && t.time.quality == .set && t.time.retainedKey == 117075 &&
      t.inbox.close == [{ oldKey := 117072, newKey := 117075 }] && t.inbox.billing == []) = true := by decide +kernel

/-- Section 1.8, row 8: a TIME_SET before the start of the current period is refused. -/
theorem test_time_set_refused :
    let s := { run with time := { run.time with time := { day := 813, minute := 40, second := 10, ms := 0 } } }
    answers (exec (.timeSet 813 39 50 0) s) .badValue [] = true := by decide +kernel

/-- Section 1.8, row 6: a trim over a period start. -/
theorem test_trim_forward :
    let s := { run with time := { run.time with time := { day := 813, minute := 39, second := 59, ms := 500 } } }
    nextIs (exec (.timeTrim 2) s) (fun t => t.time.time == { day := 813, minute := 40, second := 1, ms := 500 } &&
      t.inbox.gate == [{ oldKey := 117075, newKey := 117076 }]) = true := by decide +kernel

/-- Section 1.8, row 7: a trim back stops at the start of the period. -/
theorem test_trim_stopped :
    let s := { run with time := { run.time with time := { day := 813, minute := 40, second := 1, ms := 900 } } }
    nextIs (exec (.timeTrim (-3)) s) (fun t => t.time.time == { day := 813, minute := 40, second := 0, ms := 0 } &&
      t.inbox.gate == []) = true := by decide +kernel

/-- Section 1.8, row 3: the boundary into period 0 is followed by a day close. -/
theorem test_boundary_day_close :
    let s := { run with time := { run.time with time := { day := 812, minute := 1439, second := 59, ms := 999 } } }
    nextIs (step s) (fun t => t.curKey == 117072 && t.inbox.close == [{ oldKey := 117071, newKey := 117072 }] &&
      t.inbox.billing == [{ closedDay := 812, newDay := 813, newKey := 117072 }]) = true := by decide +kernel

/-- Section 3.7: access gaps and backoff counts of stations 17 and 25. -/
theorem test_backoff : accessGap 17 = 7 ∧ accessGap 25 = 7 ∧ backoffCount 17 1 = 24 ∧ backoffCount 25 1 = 16 ∧ backoffCount 17 2 = 27 := by
  decide

/-- R73: a limit of 1 000 over 400, 500, 300 and 100. -/
theorem test_allocation :
    classAllocation 1000 { c1 := 400, c2 := 500, c3 := 300, c4 := 100 } = { c1 := 400, c2 := 500, c3 := 100, c4 := 0 } := by decide

/-- R92: the mean of 1 801, 1 803 and 1 806. -/
theorem test_average :
    nextIs (exec (.levelSample ([0xE2, 0x0E, 0x07, 0xB0, 0x04, 0] ++ crcBytes [0x0E, 0x07, 0xB0, 0x04, 0]))
      (withGate { resetGate with window := [(1801, 1200), (1803, 1200)] })) (fun t => t.gate.lastU == 1803 && t.gate.lastD == 1200) = true := by
  decide +kernel

/-- Section 6.3: the four worked flow computations. -/
theorem test_flow :
    let g := { resetGate with counts := 1500 }
    (g.computeFlow settings 1800 1200).flow = 942 ∧ (g.computeFlow settings 1800 250).flow = 1562 ∧
    (g.computeFlow settings 1200 1250).flow = 0 ∧ (g.computeFlow settings 1200 1250).reverseHead = true ∧
    (({ g with counts := 0 } : Gate).computeFlow settings 1800 1200).flow = 0 := by decide +kernel

/-- R99: 1 512 counts at 200 micrometres. -/
theorem test_position : ({ resetGate with counts := 1512 } : Gate).position settings = 302 := by decide

/-- Section 6.7: the opening targets for 942 and 1 200 L/s, by GATE_MODE AUTO. -/
theorem test_opening_target :
    let g := { resetGate with counts := 1500, window := [(1800, 1200)], lastU := 1800, lastD := 1200, mode := .manual }
    answers (exec (.gateMode 0 0) (withGate { g with inHand := some 942 })) .ok [0, 0x2C, 0x01] = true ∧
    answers (exec (.gateMode 0 0) (withGate { g with inHand := some 1200 })) .ok [0, 0x7E, 0x01] = true := by decide +kernel

/-- R118 and R119: a spacing of 200 ms rejects a pulse at 160 ms and accepts one at 200 ms; 1 250 ms between pulses of 100 L is 80 L/s. -/
theorem test_pulses :
    let at_ := fun now : Nat => ({ run with
      time := { run.time with elapsed := now }
      meters := { run.meters with turnouts := run.meters.turnouts.set 0 { resetTurnout with lastPulse := some 1000 } } } : State)
    nextIs (exec (.meterPulse 0) (at_ 1160)) (fun t => (t.turnout 0).pulses == 0 && (t.turnout 0).rejects == 1) = true ∧
    nextIs (exec (.meterPulse 0) (at_ 1200)) (fun t => (t.turnout 0).pulses == 1 && (t.turnout 0).rejects == 0) = true ∧
    nextIs (exec (.meterPulse 0) (at_ 2250)) (fun t => (t.turnout 0).rate == 80) = true := by decide +kernel

/-- Section 9.3: order 4520 is charged 5 400 cents and takes its account to HOLD. -/
theorem test_charge :
    let t := run.closeOrder .delivery 0 117072 order
    (t.billing.account 1).used = 5080000 ∧ (t.billing.account 1).charges = 817400 ∧ (t.billing.account 1).state = .hold ∧
    t.billing.log.map (fun r => (r.seq, r.charge, r.tiers)) = [(0, 5400, some (100000, 80000))] ∧
    hasCause t.alerts.pending .accountHold = true := by decide +kernel

/-- Section 9.3: the same order with 60 000 L delivered, and the Frost order in HOLD. -/
theorem test_charge_unused :
    deliveryCharge rates account { order with delivered := 60000 } = 1440 ∧
    deliveryCharge rates { account with used := 5080000 } { order with cls := .frost, delivered := 45001, granted := 0 } = 3850 := by decide +kernel

/-- R152: a tally of 12 340 L at 2 500. -/
theorem test_unordered : price 12340 2500 = 309 := by decide

/-- The header names the image's whole length. -/
theorem image_whole : image.take (headerLength image) = image := by
  rw [show headerLength image = 1114 by decide +kernel, ← image_length]; exact List.take_length

/-- A cold start from the image of the memory waits for the time (R180 to R184). -/
theorem test_cold_start :
    exec (.imageReadComplete image) State.reset = .next (State.reset.startWith (readImage image)) ∧
    (State.reset.startWith (readImage image)).startup.state = .waitTime ∧
    (State.reset.startWith (readImage image)).startup.marker =
      { valid := true, seasonId := 7, station := 20, periodLength := 10, timeSet := false } := by
  refine ⟨?_, by decide +kernel, by decide +kernel⟩
  have h : (State.reset.startup.powered && State.reset.startup.state == .loading && State.reset.startup.source == .memory) = true := rfl
  rw [exec, execImageReadComplete, if_pos h, image_whole, State.takeMemoryImage, image_good]

/-! ## The worked allocations and balances of chapters 5 and 8 -/

/-- An order of a class on a turnout that draws from the current period on. -/
def drawing (number turnout : Nat) (cls : WaterClass) (rate : Nat) : Option Order :=
  some { order with number := number, turnout := turnout, cls := cls, rate := rate, startKey := 117070, duration := 6, floor := rate }

/-- A turnout with a travel time. -/
def turnoutAt (tau : Nat) : Config.Turnout :=
  { present := true, inService := true, account := 1, capacity := 2000, litres := 100, tau := tau, spacing := 200, noFlow := 30 }

/-- A FRESH downstream neighbour with one demand at every offset. -/
def freshNeighbour (station tau level : Nat) (demand : ByClass) : Entry :=
  { freshEntry (.downstream 1) station tau 0 with
    state := .fresh
    content := some { senderKey := 117070, quality := .set, flags := statusOf 0, level := level, plan := List.replicate 12 demand
                      grant := none, pairs := [] }
    receipt := some 1 }

/-- Station 1 of section 5.12: a head station in shortage. -/
def shortage : State :=
  { run with
    settings := { settings with reach := { settings.reach with cap := 3000, loss := 60 }
                                turnouts := [turnoutAt 0, turnoutAt 0, turnoutAt 0, turnoutAt 0, turnoutAt 1, turnoutAt 0, turnoutAt 0, turnoutAt 2] }
    neigh := { entries := [freshNeighbour 2 1 0 { c1 := 540, c2 := 600, c3 := 450, c4 := 80 }], watchEnd := 0 }
    planner := { run.planner with headSupply := 2000 }
    book := { run.book with slots :=
      [drawing 610 1 .senior 300, drawing 622 4 .frost 200, drawing 630 7 .standard 250, drawing 641 2 .surplus 120] } }

/-- Section 5.12: raw demand, supply, pools, shares, margin and release target. -/
theorem test_shortage :
    let p := shortage.planOffset 0
    p.raw = { c1 := 900, c2 := 800, c3 := 700, c4 := 200 } ∧ p.announced = p.raw ∧
    p.supply = { c1 := 900, c2 := 800, c3 := 300, c4 := 0 } ∧ p.pool = { c1 := 840, c2 := 800, c3 := 300, c4 := 0 } ∧
    p.ownShare = [300, 200, 106, 0] ∧ p.downShare = [{ c1 := 540, c2 := 600, c3 := 192, c4 := 0 }] ∧ p.margin = 2 ∧ p.lossServed = 60 ∧
    (shortage.releaseOf p).target = 1998 ∧ (shortage.releaseOf p).limit = 2000 := by decide +kernel

/-- Section 5.12: where the shares of offset 0 are written. -/
theorem test_shortage_writes :
    let t := shortage.recompute
    ((t.book.at? 0).map fun o => o.entry0) = some 300 ∧ ((t.book.at? 1).map fun o => o.grants[1]?.map GrantEntry.rate) = some (some 200) ∧
    ((t.book.at? 2).map fun o => o.grants[2]?.map GrantEntry.rate) = some (some 106) ∧
    ((t.book.at? 3).map fun o => (o.entry0, o.floor)) = some (0, 0) ∧
    ((t.planner.schedules[0]?.getD [])[1]?.bind DownEntry.value) = some { c1 := 540, c2 := 600, c3 := 192, c4 := 0 } := by decide +kernel

/-- The station of section 5.13, capped and on upstream supply. -/
def capped : State :=
    { run with
      settings := { settings with
        reach := { settings.reach with cap := 1200, loss := 40, fallback := 900 }
        levels := { settings.levels with deadZone := 20, gain := 35, correctionLimit := 150 }
        neighbours := { settings.neighbours with upstream := 4 } }
      neigh := { entries := [ { freshEntry .upstream 4 0 0 with
                                state := .fresh
                                content := some { senderKey := 117070, quality := .set, flags := statusOf 0, level := 0, plan := []
                                                  grant := some (List.replicate 12 { c1 := 340, c2 := 500, c3 := 400, c4 := 50 }), pairs := [] }
                                receipt := some 1 }
                            , freshNeighbour 33 0 1140 { c1 := 0, c2 := 0, c3 := 250, c4 := 0 } ], watchEnd := 0 }
      planner := { run.planner with target := 1200, correction := 150 }
      book := { run.book with slots :=
        [drawing 701 0 .senior 300, drawing 712 0 .frost 500, drawing 720 0 .standard 200, drawing 724 0 .standard 150, drawing 730 0 .surplus 100] } }

/-- Section 5.13: a capped station on upstream supply, its level correction, and the fallback that a lost upstream station leaves. -/
theorem test_capped :
    let s := capped
    let p := s.planOffset 0
    s.levelCorrection = 150 ∧ p.raw = { c1 := 340, c2 := 500, c3 := 600, c4 := 100 } ∧
    p.announced = { c1 := 340, c2 := 500, c3 := 360, c4 := 0 } ∧ p.supply = p.announced ∧ p.ownShare = [300, 500, 119, 89, 0] ∧
    p.downShare.map ByClass.c3 = [149] ∧ p.margin = 3 ∧ (s.releaseOf p).target = 1200 ∧
    classAllocation 900 p.announced = { c1 := 340, c2 := 500, c3 := 60, c4 := 0 } := by decide +kernel

/-- Section 8.7: the unaccounted volumes of periods 117 300 and 117 301, and their results. -/
theorem test_balance :
    let e : BalanceEntry := { key := 117300, inflow := 720000, turnoutSum := 210000, expectedLoss := 24000, storage := some 120000
                              slots := [some (300000, false), some (150000, false)], estimated := false }
    let f : BalanceEntry := { e with inflow := 720000, turnoutSum := 200000, storage := some (-180000)
                                     slots := [some (290000, false), some (140000, false)] }
    e.unaccounted = -84000 ∧ e.result 150000 = .within ∧ f.unaccounted = 246000 ∧ f.result 150000 = .out ∧
    ({ f with storage := none } : BalanceEntry).unaccounted = 66000 ∧ ({ f with storage := none } : BalanceEntry).result 150000 = .unjudged := by
  decide +kernel

/-- R139: STATUS_READ clamps an unaccounted volume beyond the signed 4-byte range at either end. -/
theorem test_clamped_evaluation :
    let e : Evaluation := { key := 5, unaccounted := 4294967295, result := .out, estimated := false }
    e.bytes = [5, 0, 0, 0, 0xFF, 0xFF, 0xFF, 0x7F, 1, 0] ∧
    ({ e with unaccounted := -4294967295 } : Evaluation).bytes = [5, 0, 0, 0, 0, 0, 0, 0x80, 1, 0] := by decide +kernel

/-- R187: the state of an order is numbered in the table of section 2.2, which begins with FREE. -/
theorem test_order_state_codes : [OrderState.pending, .active, .closing, .closedUnbilled].map OrderState.code = [1, 2, 3, 4] := by decide

/-- R121, R123: a pulse after a boundary and before the meters' own close belongs to the new meter period. -/
theorem test_pulse_after_boundary :
    let s := { run with inbox := { run.inbox with meter := [{ oldKey := 117070, newKey := 117071 }] }
                        meters := { run.meters with turnouts := run.meters.turnouts.set 0 { resetTurnout with pulses := 7 } } }
    nextIs (exec (.meterPulse 0) s) (fun t =>
      (t.turnout 0).pulses == 1 && (t.turnout 0).closed.map (fun c => (c.key, c.pulses, c.litres)) == some (117070, 7, 700)) = true := by
  decide +kernel

/-- R97: a sample after a boundary and before the gate's own close adds to the new period. -/
theorem test_sample_after_boundary :
    let s := { withGate { resetGate with volume := 500, flow := 60 } with
      inbox := { run.inbox with gate := [{ oldKey := 117070, newKey := 117071 }] } }
    nextIs (exec (.levelSample []) s) (fun t => t.gate.volume == 120 && t.gate.closed.map ClosingPair.litres == some 500) = true := by
  decide +kernel

/-- R170: the entry to LOADING by a CONFIG_DATA in CONFIG_FAULT empties the input buffer and clears the overrun mark. -/
theorem test_load_empties_buffer :
    let f : LinkFrame := { chars := [], bad := true }
    let s := { configFault with link := { run.link with buffer := [f, f], overrun := true } }
    nextIs (exec (.configData 0 [1]) s) (fun t => t.startup.state == .loading && t.link.buffer == [] &&
      t.link.reply.map Reply.overrun == some false) = true := by decide +kernel

/-- R184: a supply loss in the work of a cold start, after the marker was marked INVALID, leaves it INVALID, so that the next start is cold. -/
theorem test_cold_start_cut :
    let m : Image := { seasonId := 3, settings := settings, accounts := run.billing.accounts, rates := rates }
    let valid := { run with startup := { run.startup with
      marker := { valid := true, seasonId := 3, station := 20, periodLength := 10, timeSet := true } } }
    valid.startKind m = .warm ∧ nextIs (exec .supplyLoss (valid.markInvalid.coldBlocks m)) (fun t => t.startKind m == .cold) = true := by
  decide +kernel

/-- R137 to R140: a pair that completes the oldest entry has it evaluated; the third OUT in a row raises REACH_LOSS. -/
theorem test_reach_loss :
    let e : BalanceEntry := { key := 117069, inflow := 90000, turnoutSum := 0, expectedLoss := 0, storage := some 0, slots := [none], estimated := false }
    let s := { run with close := { run.close with queue := [e], lossCount := 2 } }
    let t := s.offerPairs 0 [{ key := 117069, litres := 5, estimated := true }]
    t.close.queue = [] ∧ t.close.lossCount = 3 ∧ t.close.reachLoss = true ∧ hasCause t.alerts.pending .reachLoss = true ∧
    t.close.lastEval = some { key := 117069, unaccounted := 89995, result := .out, estimated := true } := by decide +kernel

/-! ## States and operands that meet the hypotheses of the statements -/

/-- The one live slot of the part with an order. -/
theorem withOrder_at {st : OrderState} {slot : Nat} {o : Order} (h : (withOrder st).book.at? slot = some o) :
    slot = 0 ∧ o = { order with state := st } := by
  cases slot with
  | zero => simp [withOrder, OrderBook.at?] at h; exact ⟨rfl, h.symm⟩
  | succ n =>
    have hn : ∀ x, (List.replicate 47 (none : Option Order))[n]? ≠ some (some x) := by
      intro x hx; rw [List.getElem?_replicate] at hx; split at hx <;> simp at hx
    simp only [withOrder, OrderBook.at?, List.cons_append, List.nil_append, List.getElem?_cons_succ, Option.join_eq_some_iff] at h
    exact absurd h (hn o)

/-- The empty book holds no order. -/
theorem run_at (slot : Nat) : run.book.at? slot = none := by
  simp only [run, OrderBook.at?, List.getElem?_replicate]; split <;> rfl

/-- The numbers of a book with one order are distinct. -/
theorem withOrder_distinct (st : OrderState) : (withOrder st).book.NumbersDistinct := by
  intro i j o p hi hj _; rw [(withOrder_at hi).1, (withOrder_at hj).1]

theorem witness_StepRunsFrontCommand : ({ run with pending := [.bookList, .supplyLoss] } : State).pending = .bookList :: [.supplyLoss] := rfl

theorem witness_ExecKeepsQueue : ∃ t, exec (.meterPulse 0) run = .next t := ⟨_, rfl⟩

theorem witness_IdleStepPassesOneMillisecond_due :
    let s := { run with startup := { run.startup with catchUpDue := true } }
    s.pending = [] ∧ s.due = some .catchUp := by decide +kernel

theorem witness_IdleStepPassesOneMillisecond :
    (State.reset.pending = [] ∧ State.reset.due = none ∧ State.reset.startup.powered = true) ∧
    let s := { State.reset with startup := { State.reset.startup with powered := false } }
    s.pending = [] ∧ s.due = none ∧ s.startup.powered = false := by decide +kernel

/-- A log with one record, the sequence number about to roll. -/
def oneRecord : Billing := { run.billing with log := [{ record with seq := 4294967295 }], nextSeq := 0, readPos := 4294967295 }

theorem witness_StepKeepsBillingLog :
    oneRecord.LogGood ∧ oneRecord.WaitGood ∧ ∃ t, step { run with billing := oneRecord } = .next t := by
  refine ⟨⟨by decide, by decide, by decide, ?_⟩, by simp [Billing.WaitGood, oneRecord, run, State.reset], ⟨_, rfl⟩⟩
  intro i r h
  cases i with
  | zero => simp [oneRecord] at h; subst h; rfl
  | succ n => simp [oneRecord] at h

theorem witness_StepKeepsLevel3Unmasked :
    State.reset.alerts.MasksGood ∧ (∃ t, step State.reset = .next t) ∧
    ∀ c, c = Cause.gateTrip ∨ c = Cause.gateFault → let s := run.raise c
      s.startup.state = .run ∧ hasCause s.alerts.pending c = true := by
  refine ⟨by unfold Alerts.MasksGood; decide, ⟨_, rfl⟩, ?_⟩
  rintro c (rfl | rfl) <;> decide +kernel

theorem witness_StepKeepsBounds : run.Bounded ∧ ∃ t, step run = .next t := by
  refine ⟨⟨by decide, by decide, by decide, by decide, by decide, ?_⟩, ⟨_, rfl⟩⟩
  intro e h; simp [run, State.reset, resetClose] at h

/-- A gate at rest in MANUAL, far below its target, whose rest time ends now. -/
def restedGate : Gate := { resetGate with drive := .resting, restStart := some 97000, lastOff := some 97000, mode := .manual, target := 600 }

theorem witness_StepKeepsDriveRest :
    let s := withGate restedGate
    s.RestKept ∧ s.due = some .restExpiry ∧ s.gate.drive.on = false ∧
      nextIs (step s) (fun t => t.gate.drive.on && t.gate.drive == .opening) = true ∧ s.gate.lastOff = some 97000 ∧
      97000 + s.settings.levels.restTime * 1000 = s.time.elapsed := by
  refine ⟨⟨?_, ?_, ?_⟩, ?_⟩
  · intro x h; cases h; decide
  · intro h; exact absurd h (by decide)
  · intro _; exact ⟨97000, rfl, by decide, fun x h => by cases h; decide⟩
  · decide +kernel

/-- An OPENING move that stops at SUPPLY_LOW: the working part turns its output off and records the instant. -/
theorem witness_StepKeepsDriveRest_off :
    let s := { withGate { resetGate with drive := .opening, lastOff := some 90000 } with pending := [.supplyLowChange true] }
    s.RestKept ∧ s.working = true ∧ s.gate.drive.openOn = true ∧ s.gate.drive.on = true ∧ s.gate.lastOff = some 90000 ∧
      nextIs (step s) (fun t => !t.gate.drive.on && t.startup.state != .loading && t.gate.lastOff == some 100000) = true := by
  refine ⟨⟨fun x h => by cases h; decide, fun h => absurd h (by decide), fun h => absurd h (by decide)⟩, ?_⟩
  decide +kernel

/-- A CLOSING move is the other sense. -/
theorem witness_StepKeepsDriveRest_close :
    (withGate { resetGate with drive := .closing }).gate.drive.closeOn = true ∧
      ∃ t, step (withGate { resetGate with drive := .closing }) = .next t := ⟨by decide, _, rfl⟩

theorem witness_StepKeepsOrderNumbersDistinct : (withOrder .active).book.NumbersDistinct ∧ ∃ t, step (withOrder .active) = .next t :=
  ⟨withOrder_distinct _, ⟨_, rfl⟩⟩

theorem witness_WatchEndNeverFalls : ∃ t, step { run with pending := [.watchDeclare 117075] } = .next t := ⟨_, rfl⟩

theorem witness_LinkCommandRoundTrip :
    (Instr.timeTrim (-128)).wellFormed = true ∧ linkPayload (.timeTrim (-128)) = some (0x11, [0x80]) ∧
    (Instr.ratesStage rates).wellFormed = true ∧ linkPayload (.ratesStage rates) = some (0x1A, rateBytes rates) ∧
    (Instr.configData 65535 (List.replicate 512 7)).wellFormed = true ∧
    linkPayload (.configData 65535 (List.replicate 512 7)) = some (0x30, [0xFF, 0xFF] ++ List.replicate 512 7) := by decide +kernel

/-- The fields of a notice of station 27 with one grant block, a period ahead. -/
def heardFields : ReachFields :=
  let x : ByClass := { c1 := 1, c2 := 0, c3 := 0, c4 := 0 }
  { key := 117071, quality := .set, flags := statusOf 0, level := 1400, watchEnd := 0, plan := List.replicate 12 x
    blocks := [{ station := 20, grants := List.replicate 12 x }], pairs := [{ key := 117070, litres := 9, estimated := true }] }

theorem witness_CanalNoticeRoundTrip :
    let x : ByClass := { c1 := 65535, c2 := 0, c3 := 1, c4 := 0 }
    let f : ReachFields := { key := 4294967295, quality := .degraded, flags := statusOf 63, level := 65535, watchEnd := 0,
                             plan := List.replicate 12 x, blocks := [{ station := 20, grants := List.replicate 12 x }],
                             pairs := [{ key := 1, litres := 2, estimated := true }] }
    1 ≤ 250 ∧ 250 ≤ 250 ∧ 250 ≠ 20 ∧ f.WellFormed ∧ 117070 < 2 ^ 32 ∧ 4294967295 < 2 ^ 32 := by
  refine ⟨by decide, by decide, by decide, ?_, by decide, by decide⟩
  unfold ReachFields.WellFormed TwelveSmall smallClasses; decide +kernel

/-- The blocks of a notice of one one-class block begin at 110 and end at 136; a notice without blocks needs no walk. -/
theorem witness_CanalNoticeRoundTrip_walk :
    let payload := heardFields.bytes
    let start := fun j : Nat => 110 + 26 * j
    start 0 = 110 ∧ fieldAt payload 12 1 = 1 ∧ fieldAt payload 13 1 = 1 ∧ payload.length = start 1 + 9 ∧
    (∀ j, j < 1 → start (j + 1) =
      start j + 2 + 24 * ((List.range 4).filter fun bit => (byteAt payload (start j + 1)).getLsbD bit).length) ∧
    fieldAt (watchBytes 1 2) 12 1 = 0 := by decide +kernel

theorem witness_MillisecondAdvance :
    let t : DistrictTime := { day := 812, minute := 1439, second := 59, ms := 999 }
    noon.Valid ∧ noon ≠ lastTime ∧ t.Valid ∧ permittedLength 10 ∧ t.key 10 < t.tick.key 10 := by
  unfold DistrictTime.Valid permittedLength; decide

theorem witness_AllotmentAndPrice :
    account.used ≤ account.allotment * 1000 ∧
    ({ account with used := 5000001 } : Account).allotment * 1000 < ({ account with used := 5000001 } : Account).used := by decide

theorem witness_ClassAllocationInOrder :
    let a := classAllocation 10 { c1 := 1, c2 := 2, c3 := 3, c4 := 9 }
    let small := { run with settings := { settings with reach := { settings.reach with cap := 399 } } }
    let below := { run with settings := { settings with neighbours := { settings.neighbours with upstream := 4 } } }
    0 < a.c2 ∧ 0 < a.c3 ∧ 0 < a.c4 ∧ small.settings.reach.cap < (small.planOffset 0).raw.total ∧
      (run.planOffset 0).raw.total ≤ run.settings.reach.cap ∧ run.settings.neighbours.upstream = 0 ∧
      below.settings.neighbours.upstream ≠ 0 ∧ below.neigh.upstreamGrant = none := by decide +kernel

theorem witness_ProRataShares : 0 < 7 ∧ 7 ≤ 7 ∧ 6 < 7 ∧ proRata 6 7 5 = 4 := by decide

theorem witness_SharesAndReleaseTarget :
    let with_ := fun (k : Int) => ({ run with planner := { run.planner with correction := k } } : State)
    let sum := fun s : State => let p := s.planOffset 0
      ((sumList p.ownShare + (sumClasses p.downShare).total : Nat) + p.lossServed + s.planner.correction - s.planner.guardCut : Int)
    let limit := fun s : State => min s.settings.reach.cap (s.planOffset 0).supply.total
    let upstream := fun s : State => s.neigh.entries.find? fun e => decide (e.role = .upstream)
    let neighbours := fun s : State => s.neigh.entries.filter fun e => decide (e.role ≠ .upstream)
    let below := { run with settings := { settings with neighbours := { settings.neighbours with upstream := 4 } } }
    (shortage.book.at? 0).isSome = true ∧ run.book.at? 3 = none ∧ 3 < run.book.slots.length ∧
      ((neighbours shortage)[0]?.map fun e => (e.state, e.content.isSome)) = some (.fresh, true) ∧
      ((neighbours run)[0]?.map Entry.state) = some .absent ∧ run.settings.neighbours.upstream = 0 ∧
      capped.settings.neighbours.upstream ≠ 0 ∧ ((upstream capped).map fun e => (e.state, e.mismatch,
        (e.content.bind Content.grant).isSome)) = some (.fresh, false, true) ∧
      below.settings.neighbours.upstream ≠ 0 ∧ upstream below = none ∧
    sum (with_ (-400)) ≤ 0 ∧ 0 ≤ sum run ∧ sum run ≤ run.settings.reach.cap ∧ sum run ≤ (run.planOffset 0).supply.total ∧
      limit (with_ 1) < sum (with_ 1) := by decide +kernel

theorem witness_Recompute :
    let s := { withOrder .closedUnbilled with
      planner := { run.planner with schedules := [[{ value := none, frozen := true }]] } }
    (withOrder .active).book.at? 0 = some order ∧ order.grants[0]? = some { rate := 80, frozen := false } ∧
    (withOrder .active).running = true ∧ order.state ≠ .closedUnbilled ∧ 0 < 12 ∧
    (withOrder .active).planner.planKey + 0 + tauOf settings 0 = (withOrder .active).book.bookKey + 0 ∧
    (withOrder .active).planner.planKey + 11 + tauOf settings 0 = (withOrder .active).book.bookKey + 11 ∧
    order.grants[12]? = some { rate := 80, frozen := false } ∧
    (∀ k, k < 12 → (withOrder .active).planner.planKey + k + tauOf settings 0 ≠ (withOrder .active).book.bookKey + 12) ∧
    s.book.at? 0 = some { order with state := .closedUnbilled } ∧
    s.planner.schedules[0]? = some [{ value := none, frozen := true }] ∧
    run.planner.schedules[0]? = some (List.replicate 20 { value := none, frozen := false }) ∧
    (settings.neighbours.downstream.getD 0 default).tau = 1 ∧ waitTime.running = false ∧ run.running = true ∧
    (withGate { resetGate with mode := .manual }).gate.mode = .manual ∧ run.gate.mode = .auto ∧ run.gate.lastUsed = none ∧
    run.book.at? 3 = none := by decide +kernel

theorem witness_GateFlow :
    let g := { resetGate with counts := 1500 }
    resetGate.position settings = 0 ∧ g.position settings = 300 ∧ (1200 : Int) - 1250 ≤ 0 ∧ (0 : Int) < 1800 - 1200 ∧
      (3431 : Int) * 3431 ≤ 19620 * 600 ∧ 19620 * 600 < ((3431 : Int) + 1) * (3431 + 1) ∧
      1000000000 * 942 ≤ 610 * 1500 * 300 * 3431 + 500000000 ∧ 610 * 1500 * 300 * 3431 + 500000000 < 1000000000 * (942 + 1) := by decide

theorem witness_StartStateRefusals :
    run.startup.powered = true ∧ linkPayload (.timeTrim 1) = some (0x11, [1]) ∧
    tableRefusal (.timeTrim 1) waitTime.startup.state = some .notReady ∧ tableRefusal (.timeTrim 1) run.startup.state = none ∧
    tableRefusal .configEnd run.startup.state = some .state ∧ tableRefusal .bookList configFault.startup.state = some .notReady := by
  decide +kernel

theorem witness_StatusAndPlanReads :
    State.reset.startup.powered = true ∧ run.working = true ∧ waitTime.working = true ∧ run.planner.results = none ∧
    run.recompute.planner.results = some run.computePlan ∧
    (∀ r, run.recompute.planner.results = some r → r.offsets.length = 12) ∧ (∀ es ∈ run.planner.schedules, es.length = 20) := by
  refine ⟨rfl, rfl, rfl, rfl, rfl, ?_, by decide +kernel⟩
  intro r h; cases h; rfl

theorem witness_OrderQueryAndBookList :
    (withOrder .active).working = true ∧ (withOrder .active).book.NumbersDistinct ∧ (withOrder .active).book.at? 0 = some order ∧
    ∀ slot o, (withOrder .active).book.at? slot = some o → o.number ≠ 4521 := by
  refine ⟨rfl, withOrder_distinct _, rfl, ?_⟩
  intro slot o h; rw [(withOrder_at h).2]; decide

theorem witness_AccountQuery :
    run.startup.powered = true ∧ run.billing.accounts.length = 64 ∧ (run.billing.account 1).number ≠ 0 ∧
    (run.billing.account 63).number = 0 ∧ ¬(configFault.startup.state = .waitTime ∨ configFault.startup.state = .run) := by decide +kernel

theorem witness_LogRead :
    waitTime.startup.powered = true ∧ (waitTime.startup.state = .waitTime ∨ waitTime.startup.state = .run) ∧
    ¬(State.reset.startup.state = .waitTime ∨ State.reset.startup.state = .run) := by decide

theorem witness_TurnoutQueryAndAlertRead :
    waitTime.working = true ∧ present waitTime.settings 1 = true ∧ present waitTime.settings 2 = false ∧ present waitTime.settings 16 = false ∧
    (withOrder .active).book.at? 0 = some order ∧ order.turnout = 0 ∧ order.state = .active ∧
    (∀ slot o, (withOrder .active).book.at? slot = some o → slot = 0) ∧ ∀ slot, run.book.at? slot = none :=
  ⟨rfl, by decide +kernel, by decide +kernel, by decide +kernel, rfl, rfl, rfl, fun _ _ h => (withOrder_at h).1, run_at⟩

theorem witness_SupplySet :
    let below := { run with settings := { settings with neighbours := { settings.neighbours with upstream := 4 } } }
    (run.startup.powered = true ∧ run.startup.state = .run ∧ run.settings.neighbours.upstream = 0) ∧
    (below.startup.state = .run ∧ below.settings.neighbours.upstream ≠ 0) ∧ waitTime.startup.state ≠ .run := by decide

theorem witness_WatchDeclare :
    run.running = true ∧ 117069 < run.curKey ∧ run.curKey ≤ 117070 ∧
    run.neigh.watchEnd < min 117070 (min (run.curKey + 288) (highestKey run.settings.periodLength)) ∧
    let s := { run with neigh := { run.neigh with watchEnd := 117080 } }
    min 117080 (min (s.curKey + 288) (highestKey s.settings.periodLength)) ≤ s.neigh.watchEnd := by decide +kernel

theorem witness_StagedSettings :
    let tail := { run with settings := { settings with neighbours := { settings.neighbours with downstream := [] } } }
    run.running = true ∧ tail.running = true ∧ isTail tail.settings = true ∧ isTail run.settings = false ∧
    rates.callOut ≤ 1000000 ∧ rates.lateCancel ≤ 1000000 ∧ (run.billing.account 1).number ≠ 0 ∧ AccountState.closed.code = 2 ∧
    (run.billing.account 0).number = 0 := by decide +kernel

/-- An order in form for turnout 0, two periods ahead. -/
def request : OrderRequest := { number := 4521, turnout := 0, account := 1, cls := 3, startKey := 117072, duration := 3, rate := 80 }

theorem witness_AdmissionChecks :
    let out := { run with meters := { run.meters with turnouts := run.meters.turnouts.set 0 resetTurnout } }
    let held := { run with billing := { run.billing with accounts := run.billing.accounts.set 1 { account with state := .hold } } }
    let full := { run with book := { run.book with slots := List.replicate 48 (some { order with turnout := 1 }) } }
    formGood run.settings.periodLength request = true ∧ run.admission request = none ∧
    run.admission { request with startKey := 117070 + 1008 } = none ∧ (withOrder .closedUnbilled).admission request = none ∧
    [ full.admission request, (withOrder .active).admission { request with number := 4520 }, run.admission { request with turnout := 2 }
    , out.admission request, run.admission { request with account := 0 }, held.admission request, run.admission { request with rate := 4 }
    , run.admission { request with startKey := 117071 }, run.admission { request with startKey := 117070 + 1009 }
    , run.admission { request with cls := 2 }, (withOrder .active).admission request
    , { run with settings := { settings with reach := { settings.reach with reachCapacity := 79 } } }.admission request ] =
    [some .full, some .duplicate, some .badTurnout, some .outOfService, some .account, some .hold, some .rate, some .tooSoon, some .tooFar
    , some .noWatch, some .overlap, some .capacity] := by decide +kernel

theorem witness_OrderPlaceAdmits :
    run.running = true ∧ formGood run.settings.periodLength request = true ∧ run.admission request = none ∧
    WaterClass.standard.number = request.cls ∧ run.book.slots[0]? = some none ∧ (∀ i, i < 0 → run.book.slots[i]? ≠ some none) ∧
    (withOrder .active).book.slots[1]? = some none ∧ formGood run.settings.periodLength { request with duration := 289 } = false ∧
    run.admission { request with rate := 151 } = some .rate := by
  refine ⟨by decide, by decide, by decide +kernel, rfl, rfl, fun i h => absurd h (Nat.not_lt_zero i), rfl, by decide, by decide +kernel⟩

theorem witness_OrderCancelAndShutoff (st : OrderState) :
    (withOrder st).running = true ∧ (withOrder st).book.NumbersDistinct ∧ (withOrder st).book.at? 0 = some { order with state := st } ∧
    1 ≤ order.duration ∧ order.startKey ≤ (withOrder st).curKey ∧ (∀ slot o, run.book.at? slot = some o → o.number ≠ 1) := by
  refine ⟨rfl, withOrder_distinct st, rfl, by decide, show 117069 ≤ run.curKey by decide, ?_⟩
  intro slot o h; rw [run_at] at h; cases h

theorem witness_ClosingAnOrder :
    (run.billing.account order.account).state = .good ∧ run.billing.log.length < 256 ∧ run.billing.waitList = [] ∧
    oneRecord.log.length + 3 = run.settings.alert.logThreshold ∧
    let full : Billing := { run.billing with waitList := [.tally 0] }
    full.waitList ≠ [] ∧ 256 ≤ (List.replicate 256 record).length := by decide +kernel

theorem witness_OrderPeriodChange :
    117070 < 117071 ∧ order.state ≠ .closedUnbilled ∧ order.grants.length = 20 ∧ 1 ≤ order.duration ∧ order.endKey + 2 ≤ 117073 ∧
    117071 ≤ order.endKey + 1 ∧ order.endKey + 1 = 117072 ∧ order.startKey ≤ 117071 ∧ 117071 ≤ order.endKey ∧
    117071 < ({ order with startKey := 117072 } : Order).startKey ∧ ({ order with state := .closedUnbilled } : Order).grants.length = 20 := by
  decide

theorem witness_TurnoutServiceAndAck :
    (withOrder .active).running = true ∧ present (withOrder .active).settings 0 = true ∧ (withOrder .active).book.hasLiveDraw 0 = true ∧
    (withOrder .pending).book.hasLiveDraw 0 = false ∧ ((withOrder .pending).turnout 0).inService = true ∧
    (withOrder .pending).book.at? 0 = some { order with state := .pending } ∧ order.flags.late = false ∧ run.book.at? 0 = none ∧
    (withOrder .pending).billing.log.length < 256 ∧ (withOrder .pending).billing.waitList = [] ∧
    256 ≤ ({ run.billing with log := List.replicate 256 record } : Billing).log.length ∧
    (withOrder .pending).book.pendingOn 0 = [0] ∧ run.book.pendingOn 1 = [] ∧ present run.settings 2 = false ∧ (15#8).toNat ≤ 15 ∧
    15 < (16#8).toNat := by decide +kernel

/-- A part whose wait list holds the CLOSED_UNBILLED order of slot 0 and the tally of turnout 1. -/
def waiting : State :=
  { run with
    book := { run.book with slots := [some { order with state := .closedUnbilled, record := some record }] ++ List.replicate 47 none }
    meters := { run.meters with turnouts := run.meters.turnouts.set 1 { resetTurnout with tally := 12340, due := true } }
    billing := { oneRecord with waitList := [.order 0, .tally 1] } }

theorem waiting_kept : waiting.WaitKept := by
  refine ⟨by decide, ?_, ?_⟩
  · intro slot h
    have : slot = 0 := by simpa [waiting] using h
    subst this; exact ⟨_, _, rfl, rfl, rfl⟩
  · intro i h
    have : i = 1 := by simpa [waiting] using h
    subst this; decide

theorem witness_StepKeepsOrderNumbersDistinct_wait : waiting.WaitKept ∧ ∃ t, step waiting = .next t := ⟨waiting_kept, _, rfl⟩

theorem witness_LogReleaseAndMoves :
    waiting.running = true ∧ waiting.billing.waitList.Nodup ∧ waiting.billing.nextSeq < 4294967296 ∧
    (∀ slot, WaitItem.order slot ∈ waiting.billing.waitList → ∃ o r, waiting.book.at? slot = some o ∧ o.record = some r) ∧
    (∀ i, WaitItem.tally i ∈ waiting.billing.waitList → i < waiting.meters.turnouts.length) ∧
    min waiting.billing.waitList.length (256 - (waiting.billing.log.length - 1)) = 2 ∧
    waiting.billing.waitList[0]? = some (.order 0) ∧ waiting.billing.waitList[1]? = some (.tally 1) ∧
    (∀ j : Nat, j < 2 → waiting.billing.waitList[j]? ≠ some (.order 5)) ∧
    (∀ j : Nat, j < 2 → waiting.billing.waitList[j]? ≠ some (.tally 0)) ∧
    answers (exec (.logRelease 1) waiting) .ok [1, 0, 0, 0, 0, 0, 2, 0, 0] = true := by
  refine ⟨by decide, by decide, by decide, ?_, ?_, ?_⟩
  · intro slot h
    obtain ⟨o, r, h1, -, h2⟩ := waiting_kept.2.1 slot h
    exact ⟨o, r, h1, h2⟩
  · intro i h
    have : i = 1 := by simpa [waiting] using h
    subst this; decide
  · decide +kernel

/-- Two moves that bring the log from 2 records to its threshold of 4 (R159). -/
theorem witness_LogReleaseAndMoves_level :
    let s := { waiting with billing := { waiting.billing with log := [record, record, record] } }
    3 - 1 < s.settings.alert.logThreshold ∧ s.settings.alert.logThreshold ≤ 3 - 1 + min s.billing.waitList.length (256 - 2) := by
  decide

/-- R152 and section 9.3: the moved tally of 12 340 L at an unordered rate of 2 500 is charged 309 cents. -/
theorem test_tally_moved : (((waiting.releaseLog 1).billing.log[1]?).map fun r => (r.charge, r.delivered, r.account)) = some (309, 12340, 401207) := by
  decide +kernel

theorem witness_SeasonClose :
    (withOrder .active).book.at? 0 = some order ∧ waiting.billing.waitList ≠ [] ∧ (∀ slot, run.book.at? slot = none) ∧
    run.billing.waitList = [] ∧ run.billing.log.length ≤ 256 ∧ run.billing.nextSeq < 4294967296 ∧
    run.billing.accounts[1]? = some account ∧
    ((List.range 16).filter fun i => present waiting.settings i && decide (0 < (waiting.turnout i).tally)) = [1] ∧
    let tallies := List.replicate 16 { resetTurnout with tally := 5 }
    let s : State := { run with meters := { run.meters with turnouts := tallies }, billing := { run.billing with log := List.replicate 255 record } }
    256 < s.billing.log.length + ((List.range 16).filter fun i => present s.settings i && decide (0 < (s.turnout i).tally)).length := by
  refine ⟨rfl, by decide, run_at, ?_⟩; decide +kernel

theorem witness_AlertSetAndLine :
    run.startup.state = .run ∧ waitTime.startup.state = .waitTime ∧ State.reset.startup.state = .loading ∧
    configFault.startup.state = .configFault := by decide

theorem witness_AlertCommandEffects :
    let s := { run with alerts := { run.alerts with moderation := some 95000 } }
    run.running = true ∧ (0x01FFFF#24).toNat < 2 ^ 17 ∧ 2 ^ 17 ≤ (0x020000#24).toNat ∧ s.working = true ∧
    s.alerts.moderation = some 95000 ∧ 95000 + s.settings.alert.moderation * 1000 ≤ s.time.elapsed := by decide

theorem witness_TimeSet :
    let free := { run with time := { run.time with quality := .free } }
    let day0 := ({ day := 812, minute := 1420, second := 0, ms := 0 } : DistrictTime)
    run.running = true ∧ run.working = true ∧ waitTime.working = true ∧ permittedLength run.settings.periodLength ∧ run.time.time.Valid ∧ 65535 ≤ 65535 ∧
    ¬(1440 ≤ 1439) ∧ (1439 ≤ 1439 ∧ 59 ≤ 59 ∧ 999 ≤ 999) ∧ waitTime.startup.state = .waitTime ∧ run.startup.catchUpDue = false ∧
    day0.toMs - 1 < (periodStart run.settings.periodLength run.curKey).toMs ∧ (periodStart run.settings.periodLength run.curKey).toMs ≤ day0.toMs ∧
    run.time.quality = .set ∧ run.time.time.toMs + 30000 < run.time.time.toMs + 30001 ∧ free.time.quality ≠ .set := by
  unfold permittedLength DistrictTime.Valid; decide

theorem witness_TimeTrim :
    run.running = true ∧ run.startup.catchUpDue = false ∧ permittedLength run.settings.periodLength ∧ run.time.time.Valid ∧ (-2 : Int) ≠ 0 := by
  unfold permittedLength DistrictTime.Valid; decide

theorem witness_ClockEvents :
    let late := { run with time := { run.time with time := { day := 812, minute := 1439, second := 59, ms := 999 } } }
    let warm := { run with startup := { run.startup with catchUpDue := true }, time := { run.time with retainedKey := 117068 } }
    warm.running = true ∧ warm.startup.catchUpDue = true ∧ warm.time.retainedKey < warm.curKey ∧
    late.running = true ∧ late.time.counting = true ∧ late.startup.catchUpDue = false ∧
    late.curKey < late.time.time.tick.key late.settings.periodLength ∧ run.startup.powered = true ∧ run.working = true ∧
    configFault.startup.powered = true ∧ configFault.working = false := by decide

theorem witness_RestartNoticeAndReplySent :
    let r : Reply := { kind := 0x22, result := .ok, overrun := false, data := [], entry := true }
    let s := fun r => ({ run with link := { run.link with reply := some r } } : State)
    run.running = true ∧ (s r).link.reply = some r ∧ r.kind = 0x22 ∧ r.result = .ok ∧
    (s { r with result := .notReady }).link.reply = some { r with result := .notReady } ∧
    ¬(r.kind = 0x22 ∧ ({ r with result := .notReady } : Reply).result = .ok) := by decide

/-- A link load that has received a number of bytes. -/
def loading (bytes : List Byte) : State :=
  { State.reset with startup := { State.reset.startup with source := .link, image := bytes } }

theorem witness_LinkLoad :
    (State.reset.startup.powered = true ∧ State.reset.startup.state = .loading ∧ State.reset.startup.source = .memory) ∧
    (let s := loading [1, 2, 3]
     s.startup.powered = true ∧ s.startup.state = .loading ∧ s.startup.source = .link ∧ 3 ≤ s.startup.image.length ∧
       3 + (List.replicate 512 (0 : Byte)).length ≤ 8192 ∧ s.startup.image.length < 4 ∧
       imageFailure s.startup.image = some .header ∧ 512 < (List.replicate 513 (0 : Byte)).length ∧ 8192 < 7681 + 512) ∧
    configFault.startup.powered = true ∧ configFault.startup.state = .configFault ∧ 0 ≤ configFault.startup.image.length ∧
    imageFailure (loading image).startup.image = none := by
  refine ⟨by decide, by decide +kernel, by decide, by decide, by decide, image_good⟩

/-- An image of ten bytes: its header is good, and no section lies in it whole. -/
def shortImage : List Byte := crcBytes [1, 7, 0, 20, 10, 0, 0, 0] ++ [1, 7, 0, 20, 10, 0, 0, 0]

theorem witness_ImageOutcome :
    let strap := { State.reset with startup := { State.reset.startup with start := 2 } }
    (State.reset.startup.powered = true ∧ State.reset.startup.state = .loading ∧ State.reset.startup.source = .memory) ∧
    imageFailure (image.take (headerLength image)) = none ∧
    imageFailure (([0, 0] : List Byte).take (headerLength [0, 0])) = some .header ∧ strap.startup.start = 2 ∧
    strap.startup.state = .loading ∧ State.reset.startup.start ≠ 2 ∧ headerGood image = true ∧
    headerGood shortImage = true ∧ imageFailure shortImage = some .station := by
  refine ⟨by decide, ?_, by decide +kernel, by decide, by decide, by decide, image_header, by decide +kernel, by decide +kernel⟩
  rw [image_whole]; exact image_good

theorem witness_ColdAndWarmStart :
    State.reset.startup.powered = true ∧ run.meters.turnouts[1]? = some { resetTurnout with inService := true } ∧
    run.gate.limClosed = false ∧ run.gate.limOpen = false ∧ run.book.at? 0 = none ∧ (withOrder .active).startup.powered = true ∧
    (withOrder .active).book.at? 0 = some order ∧ (freshGrants 1)[0]? = some { rate := 0, frozen := true } := by decide

/-- What the drive is after a start on a TRIP input, on both limit inputs, and on neither; and the counts that an open limit gives. -/
theorem witness_ColdAndWarmStart_drive :
    let started := fun g : Gate => ((withGate g).coldStart (readImage image)).gate
    (started { resetGate with tripIn := true }).drive = .tripped .waiting ∧
    (started { resetGate with limClosed := true, limOpen := true }).drive = .fault ∧ (started resetGate).drive = .resting ∧
    (started { resetGate with limOpen := true }).counts = 6000 ∧ (started { resetGate with counts := 7 }).counts = 0 := by
  decide +kernel

theorem witness_PlanPeriodChange :
    let e : PeriodEvent := { oldKey := 117070, newKey := 117071 }
    let s := fun (level : Option Nat) (u : Nat) => ({ run with
      inbox := { run.inbox with planner := [e] }
      neigh := { run.neigh with entries := run.neigh.entries.map fun x => { x with
        state := .fresh, content := level.map fun v =>
          { senderKey := 117070, quality := .set, flags := statusOf 0, level := v, plan := [], grant := none, pairs := [] } } }
      planner := { run.planner with target := 1500 }
      gate := { run.gate with window := [(u, 0)], lastU := u } } : State)
    (s none 0).running = true ∧ (s none 0).inbox.planner = [e] ∧ 117071 ≤ 117071 ∧ (s none 0).planner.planKey < e.newKey ∧
    (s none 0).neigh.controlledLevel = none ∧ isTail (s none 0).settings = false ∧ (s (some 1490) 799).neigh.controlledLevel = some 1490 ∧
    ((1500 : Int) - 1490).natAbs ≤ 10 ∧ 10 < ((1500 : Int) - 1489).natAbs ∧ run.gate.hU = none ∧ (s none 799).gate.hU = some 799 ∧
    799 < 800 ∧ 850 ≤ 800 + 50 ∧ 800 + 50 < 851 ∧ run.planner.schedules[0]? = some (List.replicate 20 { value := none, frozen := false }) := by
  decide +kernel

theorem witness_GateAndMeterPeriods :
    let e : PeriodEvent := { oldKey := 117070, newKey := 117071 }
    let g := { run.gate with closed := some { key := 117069, litres := 5, estimated := false }, drive := .tripped .done, inHand := some 0 }
    let s := { run with inbox := { run.inbox with gate := [e], meter := [e] }, meters := { run.meters with closedKey := some 117070 }, gate := g }
    let aim := { resetGate with counts := 1500, window := [(1800, 1200)], lastU := 1800, lastD := 1200, inHand := some 942 }
    let x := { resetTurnout with rate := 101, overdraw := true }
    let drawn := { withOrder .active with meters := { run.meters with turnouts := run.meters.turnouts.set 0 x } }
    s.running = true ∧ s.inbox.gate = [e] ∧ s.inbox.meter = [e] ∧ e.oldKey ≤ s.close.openKey ∧ s.meters.closedKey = some 117070 ∧
    e.oldKey ≤ 117070 ∧ run.meters.closedKey = none ∧ ¬(e.oldKey ≤ 117069) ∧ present s.settings 2 = false ∧ present s.settings 1 = true ∧
    g.drive.isTripped = true ∧ g.tripIn = false ∧ s.settings.levels.autoResume = false ∧ g.mode = .auto ∧ g.levelFault = false ∧ g.window = [] ∧
    aim.hU = some 1800 ∧ aim.hD = some 1200 ∧ aim.inHand = some 942 ∧ aim.position settings = 300 ∧ (0 : Int) < 1800 - 1200 ∧
    (3431 : Int) * 3431 ≤ 19620 * 600 ∧ 19620 * 600 < ((3431 : Int) + 1) * (3431 + 1) ∧
    drawn.book.at? 0 = some order ∧ order.turnout = 0 ∧ order.state = .active ∧ 5 * drawn.book.grantInForce 0 < 4 * x.rate ∧
    ({ settings.levels with autoResume := true, levelTrip := false } : Config.Levels).autoResume = true := by decide +kernel

theorem witness_PeriodClose :
    let e : PeriodEvent := { oldKey := 117070, newKey := 117072 }
    let s := { run with inbox := { run.inbox with close := [e] } }
    let q : BalanceEntry := { key := 1, inflow := 0, turnoutSum := 0, storage := none, expectedLoss := 0, slots := [none], estimated := false }
    let full := { s with close := { s.close with queue := [q, q, q] } }
    (s.running = true ∧ s.inbox.close = [e] ∧ s.close.openKey < e.newKey ∧ s.gate.closed = none ∧ s.close.openKey + 2 ≤ e.newKey ∧
      s.close.queue.length < 3) ∧
    (full.running = true ∧ 3 ≤ full.close.queue.length ∧ full.close.queue = [] ++ q :: [q, q] ∧ q.complete = false) ∧
    117071 ≤ (117071 : Nat) ∧ 117071 = run.close.openKey + 1 ∧ (withOrder .active).meters.turnouts.length = 16 ∧
    (withOrder .active).book.at? 0 = some order ∧ (withOrder .active).book.takerOf 0 117072 = some (0, order) ∧
    (withOrder .active).book.takerOf 0 117073 = none ∧ (withOrder .active).book.bookKey < 117073 ∧
    (order.periodChange settings 117070 117071).closesAt 117071 = false ∧ (order.periodChange settings 117070 117073).closesAt 117073 = true ∧
    nextIs (exec .periodClose { withOrder .active with inbox := s.inbox }) (fun t => t.book.bookKey == 117072) = true := by
  decide +kernel

theorem witness_BillingDayClose :
    let e : DayClose := { closedDay := 812, newDay := 813, newKey := 117070 }
    let s := fun b : Billing => ({ run with
      inbox := { run.inbox with billing := [e] }, billing := b
      meters := { run.meters with turnouts := [{ resetTurnout with tally := 12340 }, { resetTurnout with tally := 40 }] ++ List.replicate 14 resetTurnout } } : State)
    let staged := { run.billing with staged := some { rates with unordered := 1 } }
    let near := { staged with log := List.replicate 255 record }
    (s staged).running = true ∧ (s staged).inbox.billing = [e] ∧ e.newKey ≤ (s staged).close.openKey ∧ (s staged).meters.turnouts.length = 16 ∧
    (s staged).billing.nextSeq < 4294967296 ∧
    nextIs (exec .billingDayClose (s staged)) (fun t => t.billing.log.map (fun r => (r.turnout, r.charge)) == [(0, 309), (1, 1)] &&
      t.billing.active.unordered == 1) = true ∧
    nextIs (exec .billingDayClose (s near)) (fun t => t.billing.log.length == 256 && t.billing.waitList == [.tally 1] &&
      (t.turnout 1).due && (t.turnout 0).tally == 0) = true := by
  decide +kernel

/-- A station hears the fields that station 27 sent. -/
theorem heard_frame : decodeFrame 20 (lineFrame reachKind 27 heardFields.bytes) = some (.reach 27 heardFields) := by
  rw [decodeFrame_lineFrame reachKind (by decide) (by decide) (by decide) (by decide +kernel), if_pos rfl,
    show decodeReach heardFields.bytes = some heardFields by decide +kernel]
  rfl

theorem witness_NoticesReceived :
    let entries := run.neigh.entries.map fun e : Entry => { e with state := .fresh, receipt := some 1 }
    let heard : State := { run with neigh := { run.neigh with entries := entries }, time := { run.time with elapsed := 180001 } }
    let q : BalanceEntry := { key := 117070, inflow := 9, turnoutSum := 0, storage := none, expectedLoss := 0, slots := [none], estimated := false }
    decodeFrame 20 (lineFrame reachKind 27 heardFields.bytes) = some (.reach 27 heardFields) ∧
    run.running = true ∧ waitTime.startup.state = .waitTime ∧ run.line.tx ≠ .sending ∧ configFault.startup.state = .configFault ∧
    decodeFrame 20 [0xA7] = none ∧
    decodeFrame 20 (lineFrame watchKind 27 (watchBytes 117069 117075)) = some (.watch 27 117069 117075) ∧
    (117071 ≤ run.curKey + 1 ∧ run.curKey ≤ 117071 + 1) ∧
    ¬(117072 ≤ run.curKey + 1) ∧ (∀ e ∈ run.neigh.entries, e.station ≠ 4) ∧ (run.neigh.entries[0]?).map Entry.station = some 27 ∧
    (run.neigh.entries[0]?).map Entry.role = some (.downstream 1) ∧
    run.neigh.watchEnd < min 117075 (highestKey run.settings.periodLength) ∧ waitTime.working = true ∧ waitTime.running = false ∧
    heard.running = true ∧ (heard.neigh.entries[0]?).map (fun e => (e.state, e.receipt)) = some (.fresh, some 1) ∧
    1 + heard.settings.neighbours.holdTime * 1000 ≤ heard.time.elapsed ∧
    q.key = ({ key := 117070, litres := 9, estimated := true } : ClosingPair).key ∧ q.slots[0]? = some none ∧
    (∃ x ∈ q.slots, x = none) ∧ (∀ x ∈ ({ q with slots := [some (9, true)] } : BalanceEntry).slots, x ≠ none) ∧
    ({ q with storage := some 0 } : BalanceEntry).unaccounted.natAbs ≤ 9 ∧ 8 < ({ q with storage := some 0 } : BalanceEntry).unaccounted.natAbs :=
  ⟨heard_frame, by decide +kernel⟩

theorem witness_LineCharacters :
    let with_ := fun (rx : LineRx) (idle : Nat) => ({ run with line := { run.line with rx := rx, idle := idle } } : State)
    let sending := { run with line := { run.line with tx := .sending, frame := some { chars := [0xA7, 0x12], copy := none } } }
    (sending.startup.powered = true ∧ sending.line.tx = .sending ∧
      ((sending.line.frame.map TxFrame.chars).getD [])[sending.line.readCount]? = some 0xA7) ∧
    run.line.tx ≠ .sending ∧ run.line.rx = .off ∧ (with_ (.frame [0xA7, 0x11, 20, 0xE0]) 3).line.rx = .frame [0xA7, 0x11, 20, 0xE0] ∧
    3 < (with_ (.frame [0xA7]) 4).line.idle ∧ (with_ (.frame [0xA7]) 3).line.idle ≤ 3 ∧
    480 < fieldAt [0xA7, 0x11, 20, 0xE1, 1] 3 2 ∧ ¬(480 < fieldAt [0xA7, 0x11, 20, 0xE0, 1] 3 2) ∧
    ([0xA7, 0x12, 20, 0, 0, 1, 2] : List Byte).length = 7 + fieldAt [0xA7, 0x12, 20, 0, 0, 1, 2] 3 2 := by decide +kernel

theorem witness_TransmitterEvents :
    let asked := run.recompute.requestReach
    let watch := { run.recompute with line := { run.recompute.line with tx := .backoff, watchReq := true, reachReq := false, attempt := 1, idle := 15 } }
    let sending := fun a : Nat => ({ run with line := { run.line with tx := .sending, attempt := a, frame := some { chars := [], copy := none } } } : State)
    (asked.running = true ∧ asked.planner.results.isSome = true ∧ asked.line.reachReq = true ∧ asked.line.tx = .gap ∧
      6 + 20 % 8 ≤ ({ asked.line with idle := 10 } : LineInterface).idle) ∧
    (watch.line.watchReq = true ∧ watch.line.reachReq = false ∧ watch.line.tx = .backoff ∧ 8 + (20 * 5 + 1 * 3) % 24 ≤ watch.line.idle) ∧
    run.planChanged run.computePlan = true ∧ (run.withPlanner run.recompute.planner).planChanged run.computePlan = true ∧
    (let s := { run with line := { run.line with
       lastSent := some { key := 117070, plan := run.computePlan.plan, blocks := (run.withPlanner run.recompute.planner).grantBlocks run.computePlan } } }
     (s.withPlanner s.recompute.planner).planChanged s.computePlan = false) ∧
    run.settings.neighbours.downstream[0]? = some { station := 27, tau := 1, lostFlow := 300 } ∧
    (sending 4).line.tx = .sending ∧ (sending 4).line.attempt + 1 < 6 ∧ 6 ≤ (sending 5).line.attempt + 1 ∧
    (sending 0).line.frame = some { chars := [], copy := none } ∧ (run.planner.results = none) ∧
    90000 + run.settings.line.holdoff * 1000 ≤ run.time.elapsed ∧ 40000 + run.settings.line.noticeInterval * 1000 ≤ run.time.elapsed := by
  decide +kernel

theorem witness_LevelSamples :
    let bad : List Byte := [0xE2, 0, 0]
    let e : PeriodEvent := { oldKey := 117070, newKey := 117071 }
    let s := withGate { resetGate with missed := 2, sampleWatch := some 98000 }
    let ended := { run with inbox := { run.inbox with gate := [e] } }
    4000 ≤ 4000 ∧ run.working = true ∧
    readSample (0xE2 :: ((toBytes 2 4000 ++ toBytes 2 0 ++ [0]) ++ crcBytes (toBytes 2 4000 ++ toBytes 2 0 ++ [0]))) = some (4000, 0) ∧
    run.settings.levels.levelTrip = true ∧ run.settings.levels.upHigh < 4000 ∧ readSample bad = none ∧ s.working = true ∧
    s.gate.sampleWatch = some 98000 ∧ 98000 + s.settings.levels.sampleInterval * 1000 ≤ s.time.elapsed ∧
    (3 ≤ s.gate.missed + 1 ∧ s.gate.levelFault = false) ∧ ¬(3 ≤ run.gate.missed + 1) ∧ run.inbox.gate = [] ∧ waitTime.running = false ∧
    ended.running = true ∧ ended.inbox.gate = [e] ∧ e.oldKey ≤ ended.close.openKey ∧ ended.gate.closed = none ∧
    (let p : ClosingPair := { key := 117070, litres := 0, estimated := false }
     ({ run.gate with closed := some p } : Gate).closed = some p ∧ e.oldKey ≤ p.key) := by decide +kernel

theorem witness_EncoderAndLimits :
    run.working = true ∧ waitTime.working = true ∧ run.gate.limOpen = false ∧ run.gate.limClosed = false ∧
    ({ resetGate with limClosed := true } : Gate).limit false = true ∧ ({ resetGate with limOpen := true } : Gate).limit true = true ∧
    nextIs (exec (.limitInputChange true true) (withGate { resetGate with drive := .opening }))
      (fun t => t.gate.drive == .resting && t.gate.position settings == 1200) = true ∧
    settings.levels.tripAction = .close ∧ resetGate.drive = .stopped ∧
    nextIs (exec (.encoderStep false) (withGate { resetGate with drive := .tripped (.moving false), counts := 36 })) (fun t =>
      t.gate.drive == .tripped .done) = true ∧
    nextIs (exec (.encoderStep true) (withGate { resetGate with mode := .manual, target := 600 })) (fun t => t.gate.drive == .opening) = true ∧
    nextIs (exec (.limitInputChange false true) (withGate { resetGate with limOpen := true })) (fun t => t.gate.drive == .fault) = true ∧
    nextIs (exec (.limitInputChange true true) (withGate { resetGate with limClosed := true, drive := .tripped (.moving true) })) (fun t =>
      t.gate.drive == .tripped .done && t.alerts == run.alerts.raise .gateFault) = true := by
  decide +kernel

/-- A limit switch that becomes active does not stop a move in the other sense (R100): a closing move goes on with its stall watch, one that
has arrived at the new position ends, and WAITING stays. -/
theorem witness_EncoderAndLimits_otherSense :
    let closing : Gate := { resetGate with drive := .closing, counts := 5000, target := 300, stallStart := some 7 }
    run.working = true ∧ closing.limOpen = false ∧ closing.limClosed = false ∧
    nextIs (exec (.limitInputChange true true) (withGate closing)) (fun t => t.gate.drive == .closing && t.gate.stallStart == some 7) = true ∧
    nextIs (exec (.limitInputChange true true) (withGate { closing with target := 1195 })) (fun t => t.gate.drive == .resting) = true ∧
    nextIs (exec (.limitInputChange false true) (withGate { closing with drive := .tripped (.moving true) }))
      (fun t => t.gate.drive == .tripped .done) = true ∧
    nextIs (exec (.limitInputChange true true) (withGate { closing with drive := .tripped .waiting })) (fun t => t.gate.drive == .tripped .waiting) = true := by
  decide +kernel

theorem witness_DriveEvents :
    let stall : Gate := { resetGate with drive := .closing, stallStart := some 92000 }
    let wait : Gate := { resetGate with drive := .tripped .waiting, restStart := some 97000 }
    run.working = true ∧ restedGate.drive = .resting ∧ restedGate.restStart = some 97000 ∧
    97000 + run.settings.levels.restTime * 1000 ≤ run.time.elapsed ∧ stall.drive.on = true ∧
    92000 + run.settings.levels.stallTime * 1000 ≤ run.time.elapsed ∧ wait.drive = .tripped .waiting ∧
    run.settings.levels.tripAction = .close ∧ run.gate.supplyLow = false ∧ run.gate.tripIn = false ∧
    ({ resetGate with supplyLow := true } : Gate).supplyLow = true ∧ ({ resetGate with tripIn := true } : Gate).tripIn = true ∧
    ¬(run.gate.mode = .auto ∧ run.gate.levelFault = true) ∧
    nextIs (exec (.supplyLowChange false) (withGate { resetGate with supplyLow := true, levelFault := true, target := 600 })) (fun t =>
      t.gate.drive == .stopped) = true := by decide +kernel

theorem witness_GateModeAndTripClear :
    let g := { resetGate with counts := 1500, window := [(1800, 1200)], lastU := 1800, lastD := 1200, inHand := some 942 }
    run.running = true ∧ 2 ≤ 2 ∧ g.levelFault = false ∧ g.inHand = some 942 ∧ g.hU = some 1800 ∧ g.hD = some 1200 ∧
    g.position settings = 300 ∧ (0 : Int) < 1800 - 1200 ∧ (3431 : Int) * 3431 ≤ 19620 * 600 ∧ 19620 * 600 < ((3431 : Int) + 1) * (3431 + 1) ∧
    g.drive = .stopped ∧ 300 + settings.levels.deadband < 600 ∧ 600 ≤ 593 + settings.levels.deadband / 2 ∧
    ({ resetGate with drive := .fault } : Gate).drive = .fault ∧ ({ resetGate with drive := .tripped .done } : Gate).drive.isTripped = true ∧
    ¬(resetGate.drive.isTripped = true ∨ resetGate.drive = .fault) ∧ resetGate.hU = none ∧ 2400 < 2401 := by decide

theorem witness_MeterPulses :
    let at_ := fun now : Nat => ({ run with
      time := { run.time with elapsed := now }
      meters := { run.meters with turnouts := run.meters.turnouts.set 0 { resetTurnout with lastPulse := some 1000 } } } : State)
    let e : PeriodEvent := { oldKey := 117070, newKey := 117071 }
    let ended := { run with inbox := { run.inbox with meter := [e] } }
    waitTime.working = true ∧ run.working = true ∧ present run.settings 2 = false ∧ run.inbox.meter = [] ∧
    present run.settings 0 = true ∧ ((at_ 1199).turnout 0).lastPulse = some 1000 ∧ (at_ 1199).time.elapsed < 1000 + (configOf settings 0).spacing ∧
    ¬((at_ 1200).time.elapsed < 1000 + (configOf settings 0).spacing) ∧ (run.turnout 0).lastPulse = none ∧
    1000 + (configOf settings 0).noFlow * 1000 ≤ (at_ 31000).time.elapsed ∧
    ended.running = true ∧ ended.inbox.meter = [e] ∧ e.oldKey ≤ ended.close.openKey ∧ ended.meters.closedKey = none ∧
    ({ run.meters with closedKey := some 117070 } : MeterUnit).closedKey = some 117070 := by decide +kernel

theorem witness_LinkReceiver :
    let s := fun (rx : LinkRx) (now : Nat) => ({ run with
      time := { run.time with elapsed := now }, link := { run.link with rx := rx, lastChar := 1000 } } : State)
    let f : LinkFrame := { chars := [], bad := false }
    run.startup.powered = true ∧ run.link.rx = .hunt ∧ (s (.frame [0x12, 2] false) 1020).link.rx = .frame [0x12, 2] false ∧
    (s .hunt 1021).link.lastChar + 20 < (s .hunt 1021).time.elapsed ∧ (s .hunt 1020).time.elapsed ≤ (s .hunt 1020).link.lastChar + 20 ∧
    1024 < fieldAt [0x12, 1, 4] 1 2 ∧ fieldAt [0x12, 0, 4] 1 2 ≤ 1024 ∧ ([0x23, 0, 0, 9, 9] : List Byte).length = 5 + fieldAt [0x23, 0, 0, 9, 9] 1 2 ∧
    run.link.buffer.length < 2 ∧ 2 ≤ ({ run.link with buffer := [f, f] } : StationLink).buffer.length := by decide +kernel

/-- Frames that pass and name a command, at the ends of CONFIG_DATA's lengths too; frames that pass and name none; and one that fails. -/
theorem witness_LinkReceiver_frames :
    let data := fun n : Nat => linkFrameOf (0x30 :: (toBytes 2 n ++ List.replicate n 7))
    let good := fun f : LinkFrame => f.chars.length = 5 + fieldAt f.chars 1 2 ∧
      crcBytes (f.chars.take (fieldAt f.chars 1 2 + 3)) = f.chars.drop (fieldAt f.chars 1 2 + 3)
    good (linkFrameOf [0x23, 0, 0]) ∧ decodeLink (linkFrameOf [0x23, 0, 0]) = .noticeNow ∧ good (data 3) ∧ good (data 2) ∧
    decodeLink (data 3) = .configData 1799 [7] ∧ decodeLink (data 2) = .unknownCommand 0x30 ∧
    (linkRows.find? fun r => r.kind == 0x30).map (fun r => (r.fits 514, r.fits 515)) = some (true, false) ∧
    good (linkFrameOf [0x24, 0, 0]) ∧ ¬good { chars := [0x23, 0, 0, 0, 0], bad := false } := by decide +kernel

end Sys2Proof.Tests
end

section
/-! District time as a count of milliseconds: keys and period starts are quotients and multiples of the period's length, and the
Time Base's moves of time are read there (chapter 1). -/

namespace Sys2Proof.Machine

/-! ## District time and its count of milliseconds -/

/-- A count of milliseconds is that of the district time it gives. -/
@[simp] theorem DistrictTime.toMs_ofMs (n : Nat) : (DistrictTime.ofMs n).toMs = n := by
  simp only [DistrictTime.ofMs, DistrictTime.toMs]; omega

/-- A district time inside its ranges is given back by its count of milliseconds. -/
theorem DistrictTime.ofMs_toMs {t : DistrictTime} (h : t.Valid) : DistrictTime.ofMs t.toMs = t := by
  obtain ⟨-, hminute, hsecond, hms⟩ := h
  rcases t with ⟨day, minute, second, ms⟩
  simp only [DistrictTime.ofMs, DistrictTime.toMs, DistrictTime.mk.injEq] at *
  omega

/-- A count up to the last value of R1 gives a district time inside its ranges. -/
theorem DistrictTime.ofMs_valid {n : Nat} (h : n ≤ lastTime.toMs) : (DistrictTime.ofMs n).Valid := by
  simp only [lastTime, DistrictTime.toMs, DistrictTime.ofMs, DistrictTime.Valid] at *; omega

/-- No district time inside its ranges is past the last value of R1. -/
theorem DistrictTime.Valid.toMs_le_lastTime {t : DistrictTime} (h : t.Valid) : t.toMs ≤ lastTime.toMs := by
  obtain ⟨hday, hminute, hsecond, hms⟩ := h
  simp only [lastTime, DistrictTime.toMs]; omega

/-! ## One millisecond (R1) -/

/-- At its last value time stays. -/
@[simp] theorem lastTime_tick : lastTime.tick = lastTime := if_pos rfl

/-- The rolls of R1: before the last value a millisecond moves one count up and clears those below it. -/
theorem DistrictTime.tick_cases {t : DistrictTime} (hlast : t ≠ lastTime) :
    (t.ms < 999 ∧ t.tick = { t with ms := t.ms + 1 }) ∨
    (¬t.ms < 999 ∧ t.second < 59 ∧ t.tick = { t with second := t.second + 1, ms := 0 }) ∨
    (¬t.ms < 999 ∧ ¬t.second < 59 ∧ t.minute < 1439 ∧ t.tick = { t with minute := t.minute + 1, second := 0, ms := 0 }) ∨
    (¬t.ms < 999 ∧ ¬t.second < 59 ∧ ¬t.minute < 1439 ∧ t.tick = { day := t.day + 1, minute := 0, second := 0, ms := 0 }) := by
  rw [DistrictTime.tick, if_neg hlast]
  by_cases hms : t.ms < 999
  · exact .inl ⟨hms, if_pos hms⟩
  rw [if_neg hms]
  by_cases hsecond : t.second < 59
  · exact .inr (.inl ⟨hms, hsecond, if_pos hsecond⟩)
  rw [if_neg hsecond]
  by_cases hminute : t.minute < 1439
  · exact .inr (.inr (.inl ⟨hms, hsecond, hminute, if_pos hminute⟩))
  · exact .inr (.inr (.inr ⟨hms, hsecond, hminute, if_neg hminute⟩))

/-- Before the last value a millisecond counts 1, whatever it rolls. -/
theorem DistrictTime.toMs_tick {t : DistrictTime} (h : t.Valid) (hlast : t ≠ lastTime) : t.tick.toMs = t.toMs + 1 := by
  obtain ⟨-, hminute, hsecond, hms⟩ := h
  rcases DistrictTime.tick_cases hlast with ⟨-, heq⟩ | ⟨hms', -, heq⟩ | ⟨hms', hsecond', -, heq⟩ | ⟨hms', hsecond', hminute', heq⟩ <;>
    rw [heq] <;> simp only [DistrictTime.toMs] <;> omega

/-- Before the last value a millisecond keeps time inside its ranges: the day does not pass 65 535. -/
theorem DistrictTime.tick_valid {t : DistrictTime} (h : t.Valid) (hlast : t ≠ lastTime) : t.tick.Valid := by
  obtain ⟨hday, hminute, hsecond, hms⟩ := h
  have hroll : t.day < 65535 ∨ t.minute < 1439 ∨ t.second < 59 ∨ t.ms < 999 := by
    rcases t with ⟨day, minute, second, ms⟩
    simp only [lastTime, ne_eq, DistrictTime.mk.injEq] at *
    omega
  rcases DistrictTime.tick_cases hlast with ⟨hms', heq⟩ | ⟨-, hsecond', heq⟩ | ⟨-, -, hminute', heq⟩ | ⟨hms', hsecond', hminute', heq⟩ <;>
    rw [heq] <;> simp only [DistrictTime.Valid] <;> omega

/-! ## Keys and period starts -/

variable {plen : Nat}

/-- The milliseconds of one period. -/
def periodMs (plen : Nat) : Nat := plen * 60000

/-- A permitted period lasts at least 5 minutes. -/
theorem periodMs_ge (h : permittedLength plen) : 300000 ≤ periodMs plen := by
  rcases h with rfl | rfl | rfl | rfl | rfl <;> decide

theorem periodMs_pos (h : permittedLength plen) : 0 < periodMs plen := Nat.lt_of_lt_of_le (by decide) (periodMs_ge h)

/-- The key of an instant is the number of whole periods before it: a day holds a whole number of permitted periods. -/
theorem DistrictTime.key_eq_toMs_div (h : permittedLength plen) {t : DistrictTime} (ht : t.Valid) :
    t.key plen = t.toMs / periodMs plen := by
  obtain ⟨-, -, hsecond, hms⟩ := ht
  simp only [DistrictTime.key, DistrictTime.periodOfDay, DistrictTime.toMs, periodsPerDay, periodMs]
  rcases h with rfl | rfl | rfl | rfl | rfl <;> omega

/-- The start of a period is the instant after as many whole periods as its key says. -/
theorem periodStart_eq_ofMs (h : permittedLength plen) (k : Nat) : periodStart plen k = DistrictTime.ofMs (k * periodMs plen) := by
  simp only [periodStart, DistrictTime.ofMs, periodsPerDay, periodMs, DistrictTime.mk.injEq]
  rcases h with rfl | rfl | rfl | rfl | rfl <;> omega

/-- The start of a period in milliseconds. -/
theorem toMs_periodStart (h : permittedLength plen) (k : Nat) : (periodStart plen k).toMs = k * periodMs plen := by
  rw [periodStart_eq_ofMs h, DistrictTime.toMs_ofMs]

/-- An instant not before the start of a period lies in that period or a later one. -/
theorem DistrictTime.le_key_of_periodStart_le (h : permittedLength plen) {t : DistrictTime} (ht : t.Valid) {k : Nat}
    (hk : (periodStart plen k).toMs ≤ t.toMs) : k ≤ t.key plen := by
  rwa [key_eq_toMs_div h ht, Nat.le_div_iff_mul_le (periodMs_pos h), ← toMs_periodStart h]

/-- The period of an instant has begun by then. -/
theorem DistrictTime.periodStart_key_le (h : permittedLength plen) {t : DistrictTime} (ht : t.Valid) :
    (periodStart plen (t.key plen)).toMs ≤ t.toMs := by
  rw [toMs_periodStart h, key_eq_toMs_div h ht]
  exact Nat.div_mul_le_self _ _

/-- A move by no more than one period raises the key by at most 1. -/
theorem DistrictTime.key_le_succ (h : permittedLength plen) {t u : DistrictTime} (ht : t.Valid) (hu : u.Valid)
    (hmove : u.toMs ≤ t.toMs + periodMs plen) : u.key plen ≤ t.key plen + 1 := by
  rw [key_eq_toMs_div h ht, key_eq_toMs_div h hu]
  calc u.toMs / periodMs plen ≤ (t.toMs + periodMs plen) / periodMs plen := Nat.div_le_div_right hmove
    _ = t.toMs / periodMs plen + 1 := Nat.add_div_right _ (periodMs_pos h)

/-- A millisecond that reaches another period reaches the start of the next one (R2). -/
theorem DistrictTime.tick_eq_periodStart (h : permittedLength plen) {t : DistrictTime} (ht : t.Valid)
    (hkey : t.key plen < t.tick.key plen) :
    t.tick.key plen = t.key plen + 1 ∧ t.tick = periodStart plen (t.key plen + 1) := by
  have hlast : t ≠ lastTime := by rintro rfl; simp at hkey
  have hv := tick_valid ht hlast
  have hcount := toMs_tick ht hlast
  have hstep : t.tick.key plen = t.key plen + 1 :=
    Nat.le_antisymm (key_le_succ h ht hv (by have := periodMs_pos h; omega)) hkey
  refine ⟨hstep, ?_⟩
  have hexact : t.tick.toMs = (t.key plen + 1) * periodMs plen := by
    have hreached : (t.key plen + 1) * periodMs plen ≤ t.tick.toMs := by
      rw [← hstep, ← toMs_periodStart h]; exact periodStart_key_le h hv
    have hbefore : t.toMs < (t.key plen + 1) * periodMs plen := by
      rw [key_eq_toMs_div h ht, Nat.add_one_mul]
      exact Nat.lt_div_mul_add (periodMs_pos h)
    omega
  rw [periodStart_eq_ofMs h, ← hexact, ofMs_toMs hv]

/-! ## Moving district time (R2, R4, R8, R10) -/

/-- A move of time writes the retained key and the backup clock, and issues an event exactly when the key rises. -/
theorem State.moveTime_eq (s : State) (oldKey : Nat) (t : DistrictTime) :
    s.moveTime oldKey t = { s with
      time := { s.time with time := t, retainedKey := t.key s.settings.periodLength, backup := t.toBackup }
      inbox := if oldKey < t.key s.settings.periodLength
        then s.inbox.issue s.settings.periodLength oldKey (t.key s.settings.periodLength) else s.inbox } := by
  unfold State.moveTime
  by_cases h : oldKey < t.key s.settings.periodLength <;> simp only [h, if_true, if_false] <;> rfl

/-- With no catch-up due the catch-up step changes nothing. -/
theorem State.catchUp_of_not_due {s : State} (h : s.startup.catchUpDue = false) : s.catchUp = s := by
  simp [State.catchUp, h]

/-- The catch-up step that is due: the move from the retained key's period to the time taken at the start (R14). -/
theorem State.catchUp_of_due {s : State} (hrun : s.running = true) (h : s.startup.catchUpDue = true) :
    s.catchUp = (s.withStartup { s.startup with catchUpDue := false }).moveTime s.time.retainedKey s.time.time := by
  simp [State.catchUp, hrun, h]

/-! ## Trimming (R12) -/

/-- The trimmed time in milliseconds: the clamped move, not before the start of the period and not past the last value. -/
theorem State.toMs_trimmedTime (s : State) (x : Int) :
    ((s.trimmedTime x).toMs : Int) = min (lastTime.toMs : Int)
      (max ((periodStart s.settings.periodLength s.curKey).toMs : Int) (s.time.time.toMs + max (-2) (min 2 x) * 1000)) := by
  simp only [State.trimmedTime, DistrictTime.toMs_ofMs, clampInt]
  omega

theorem State.trimmedTime_valid (s : State) (x : Int) : (s.trimmedTime x).Valid :=
  DistrictTime.ofMs_valid (Nat.min_le_left _ _)

/-- A trim stays in the current period or reaches the next: it goes no further back than the period's start and on by at most 2 s. -/
theorem State.trimmedTime_key {s : State} (h : permittedLength s.settings.periodLength) (ht : s.time.time.Valid) (x : Int) :
    s.curKey ≤ (s.trimmedTime x).key s.settings.periodLength ∧
      (s.trimmedTime x).key s.settings.periodLength ≤ s.curKey + 1 := by
  have hv := s.trimmedTime_valid x
  have hms := s.toMs_trimmedTime x
  have hlast := ht.toMs_le_lastTime
  have hbegun : (periodStart s.settings.periodLength s.curKey).toMs ≤ s.time.time.toMs :=
    DistrictTime.periodStart_key_le h ht
  have hlong := periodMs_ge h
  exact ⟨DistrictTime.le_key_of_periodStart_le h hv (by omega), DistrictTime.key_le_succ h ht hv (by omega)⟩

end Sys2Proof.Machine
end

section
/-! The statements about district time and the schedule period: counting, the idle step, the clock events, TIME_TRIM and TIME_SET. -/

namespace Sys2Proof.Machine

/-- Settles O13: before the last value a millisecond counts 1, and one that reaches another period reaches the next one's start. -/
theorem millisecondAdvance : Obligations.MillisecondAdvance :=
  ⟨fun _ ht hlast => ⟨DistrictTime.tick_valid ht hlast, DistrictTime.toMs_tick ht hlast⟩, lastTime_tick,
    fun _ _ h ht hkey => DistrictTime.tick_eq_periodStart h ht hkey⟩

/-! ## The idle step -/

/-- On an empty queue the internal command that is due runs. -/
theorem step_of_due {s : State} {c : Instr} (hp : s.pending = []) (h : s.due = some c) : step s = exec c s := by
  simp [step, hp, h]

/-- On an empty queue with nothing due, one millisecond passes. -/
theorem step_of_idle {s : State} (hp : s.pending = []) (h : s.due = none) : step s = .next s.tick := by
  simp [step, hp, h]

/-- With supply, a millisecond of elapsed time and of the backup clock, and of district time while counting is RUNNING (R1, R5, R8). -/
theorem State.tick_time_of_powered {s : State} (h : s.startup.powered = true) :
    s.tick.time = { s.time with
      elapsed := s.time.elapsed + 1, backup := s.time.backup.tick
      time := if s.time.counting then s.time.time.tick else s.time.time } := by
  unfold State.tick
  rw [if_pos h]
  cases hc : s.time.counting <;> simp [State.tickElapsed, hc]

/-- Without supply the backup clock alone runs (section 1.5). -/
theorem State.tick_of_unpowered {s : State} (h : s.startup.powered = false) :
    s.tick = s.withTime { s.time with backup := s.time.backup.tick } := by simp [State.tick, h]

/-- Settles O3, with and without supply. -/
theorem idleStepPassesOneMillisecond : Obligations.IdleStepPassesOneMillisecond := by
  refine ⟨fun s c => step_of_due, fun s hp hd => ⟨s.tick, step_of_idle hp hd, ?_⟩⟩
  cases h : s.startup.powered with
  | true => simp [State.tick_time_of_powered h]
  | false => simp [State.tick_of_unpowered h]

/-! ## The clock events -/

/-- CATCH_UP is the catch-up step. -/
theorem exec_catchUp (s : State) : exec .catchUp s = .next s.catchUp := rfl

/-- A boundary that is due is the move of time by the next millisecond (R2). -/
theorem exec_periodBoundary_of_due {s : State} (h : s.boundaryDue = true) :
    exec .periodBoundary s = .next (s.tickElapsed.moveTime s.curKey s.time.time.tick) := if_pos h

/-- In a working part a stopped crystal also takes the quality and raises the alert (R6, R15). -/
theorem exec_crystalStop_of_working {s : State} (h : s.working = true) :
    exec .crystalStop s = .next ((s.withTime
      { s.time with crystal := false, source := .internal, quality := .degraded }).raise .timeDegraded) := if_pos h

/-- Before the start a stopped crystal takes the clock source alone (R6). -/
theorem exec_crystalStop_of_not_working {s : State} (hp : s.startup.powered = true) (h : s.working = false) :
    exec .crystalStop s = .next (s.withTime { s.time with crystal := false, source := .internal }) := by
  change execCrystalStop s = _
  simp [execCrystalStop, h, hp]

/-- A running crystal is the clock source again (R7). -/
theorem exec_crystalRunning_of_powered {s : State} (hp : s.startup.powered = true) :
    exec .crystalRunning s = .next (s.withTime { s.time with crystal := true, source := .main }) := if_pos hp

/-- Settles O42, event by event. -/
theorem clockEvents : Obligations.ClockEvents := by
  refine ⟨?catchUp, ?boundary, fun b plen old new => rfl, ?crystal⟩
  case catchUp =>
    intro s hrun hdue
    rw [exec_catchUp, State.catchUp_of_due hrun hdue, State.moveTime_eq]
    rfl
  case boundary =>
    intro s hrun hcount hdue nt key hkey
    have hb : s.boundaryDue = true := by simpa [State.boundaryDue, hrun, hcount, hdue] using hkey
    rw [exec_periodBoundary_of_due hb, State.moveTime_eq,
      if_pos (show s.curKey < s.time.time.tick.key s.tickElapsed.settings.periodLength from hkey)]
    rfl
  case crystal =>
    intro s hp
    exact ⟨exec_crystalStop_of_working, exec_crystalStop_of_not_working hp, exec_crystalRunning_of_powered hp⟩

/-! ## TIME_TRIM -/

/-- TIME_TRIM in RUN is answered with what the Time Base makes of it. -/
theorem exec_timeTrim {s : State} (x : Int) (h : s.running = true) :
    exec (.timeTrim x) s = .next ((s.takeTimeTrim x).state.answer 0x11 (s.takeTimeTrim x).result (s.takeTimeTrim x).data
      ((s.takeTimeTrim x).state.atHead (.timeTrim x))) :=
  congrArg _ (State.serve_run _ _ _ h)

/-- A trim of 0 s is accepted and changes nothing. -/
theorem State.takeTimeTrim_zero (s : State) : s.takeTimeTrim 0 = s.accept [] := if_pos rfl

/-- A trim of other than 0 s, with no catch-up due, moves time. -/
theorem State.takeTimeTrim_of_ne {s : State} {x : Int} (hx : x ≠ 0) (hdue : s.startup.catchUpDue = false) :
    s.takeTimeTrim x = (s.moveTime s.curKey (s.trimmedTime x)).accept [] := by
  simp [State.takeTimeTrim, hx, State.catchUp_of_not_due hdue]

/-- Settles O41: a move of time to the trimmed time, which stays in the current period or reaches the next. -/
theorem timeTrim : Obligations.TimeTrim := by
  intro s x hrun hdue hlen hv c nt start moved key
  refine ⟨?_, fun hx => ?_, s.trimmedTime_valid x, s.toMs_trimmedTime x, State.trimmedTime_key hlen hv x⟩
  · rintro rfl
    rw [exec_timeTrim _ hrun, State.takeTimeTrim_zero]
    rfl
  · rw [exec_timeTrim _ hrun, State.takeTimeTrim_of_ne hx hdue, State.moveTime_eq]
    rfl

/-! ## Entry to RUN -/

/-- The planning of an offset, and so the results of a recompute, do not depend on the Line Interface. -/
theorem State.computePlan_withLine (s : State) (l : LineInterface) : (s.withLine l).computePlan = s.computePlan := rfl

/-- The line after a REACH request in RUN: a transmitter that is quiet with no holdoff wakes (R41, R47). -/
theorem State.requestReach_of_running {s : State} (h : s.running = true) :
    s.requestReach = s.withLine
      (if s.line.tx = .quiet ∧ s.line.holdoff = none then { s.line with reachReq := true, tx := .gap }
       else { s.line with reachReq := true }) := by
  simp [State.requestReach, LineInterface.wake, LineInterface.asked, h, Option.isNone_iff_eq_none]

/-- A REACH request stays and leaves the notice timer. -/
theorem State.requestReach_line (s : State) :
    s.requestReach.line.reachReq = true ∧ s.requestReach.line.noticeTimer = s.line.noticeTimer := by
  simp only [State.requestReach, State.withLine_line, LineInterface.wake]
  split <;> exact ⟨rfl, rfl⟩

/-- The comparison with the last-sent copy keeps a REACH request and the notice timer. -/
theorem State.comparePlan_line (s : State) (r : PlanResults) :
    (s.line.reachReq = true → (s.comparePlan r).line.reachReq = true) ∧
      (s.comparePlan r).line.noticeTimer = s.line.noticeTimer := by
  unfold State.comparePlan
  split
  · exact ⟨fun _ => s.requestReach_line.1, s.requestReach_line.2⟩
  · exact ⟨id, rfl⟩

/-- A recompute in RUN holds its results, and keeps a REACH request and the notice timer. -/
theorem State.recompute_of_running {s : State} (h : s.running = true) :
    s.recompute.planner.results = some s.computePlan ∧ (s.line.reachReq = true → s.recompute.line.reachReq = true) ∧
      s.recompute.line.noticeTimer = s.line.noticeTimer := by
  simp only [State.recompute, h, Bool.not_true, Bool.false_eq_true, if_false, State.withGate_planner, State.withGate_line]
  exact ⟨by simp, fun hreach => (State.comparePlan_line _ _).1 (by simpa using hreach), by simp [State.comparePlan_line]⟩

/-- A REACH request and then a recompute in RUN: the results of the plan, the notice timer as it was, the request kept. -/
theorem State.recompute_requestReach {s : State} (h : s.running = true) :
    s.requestReach.recompute.planner.results = some s.computePlan ∧
      s.requestReach.recompute.line.noticeTimer = s.line.noticeTimer ∧ s.requestReach.recompute.line.reachReq = true := by
  obtain ⟨hreach, htimer⟩ := s.requestReach_line
  obtain ⟨hresults, hkept, htimer'⟩ := State.recompute_of_running (s := s.requestReach) h
  exact ⟨hresults.trans (congrArg some (s.computePlan_withLine _)), htimer'.trans htimer, hkept hreach⟩

/-- The entry to RUN: the notice timer from 0, a REACH request that wakes a quiet transmitter, and a recompute (R11, R51, R88). -/
theorem State.enterRun_of_running {u : State} (h : u.running = true) :
    u.enterRun = (u.withLine
      (if u.line.tx = .quiet ∧ u.line.holdoff = none
        then { u.line with noticeTimer := some u.time.elapsed, reachReq := true, tx := .gap }
        else { u.line with noticeTimer := some u.time.elapsed, reachReq := true })).recompute := by
  have hrun : (u.withLine { u.line with noticeTimer := some u.time.elapsed }).running = true := h
  rw [State.enterRun, State.requestReach_of_running hrun]
  rfl

/-- What the entry to RUN leaves: the results of the plan, a running notice timer and a REACH request. -/
theorem State.enterRun_leaves {u : State} (h : u.running = true) :
    u.enterRun.planner.results = some u.computePlan ∧ u.enterRun.line.noticeTimer = some u.time.elapsed ∧
      u.enterRun.line.reachReq = true := by
  have hleft := State.recompute_requestReach (s := u.withLine { u.line with noticeTimer := some u.time.elapsed }) h
  rw [State.computePlan_withLine] at hleft
  exact hleft

/-! ## TIME_SET -/

/-- TIME_SET in WAIT_TIME and RUN is answered with what the Time Base makes of it. -/
theorem exec_timeSet {s : State} (day minute second ms : Nat) (h : s.working = true) :
    let r := s.takeTimeSet { day := day, minute := minute, second := second, ms := ms }
    exec (.timeSet day minute second ms) s =
      .next (r.state.answer 0x10 r.result r.data (r.state.atHead (.timeSet day minute second ms))) :=
  congrArg _ (State.serve_started _ _ _ h)

/-- The value check of R9. -/
theorem timeWellFormed_iff (t : DistrictTime) : timeWellFormed t = true ↔ t.minute ≤ 1439 ∧ t.second ≤ 59 ∧ t.ms ≤ 999 := by
  simp [timeWellFormed, and_assoc]

/-- The check of R9 against the current state. -/
theorem State.timeSetAccepted_iff (s : State) (t : DistrictTime) :
    s.timeSetAccepted t = true ↔ (periodStart s.settings.periodLength s.curKey).toMs ≤ t.toMs ∧
      (s.time.quality = .set → t.toMs ≤ s.time.time.toMs + 30000 ∧ s.time.time.toMs ≤ t.toMs + 30000) := by
  by_cases hset : s.time.quality = .set <;> simp [State.timeSetAccepted, hset]

/-- The quality after an accepted TIME_SET (R10, R11). -/
theorem qualityAfterSet_eq (source : ClockSource) :
    qualityAfterSet source = if source = .main then .set else .degraded := by cases source <;> rfl

section

variable {s : State} {t : DistrictTime}

theorem State.takeTimeSet_of_out (h : timeWellFormed t = false) : s.takeTimeSet t = s.refuse .badValue := by
  simp [State.takeTimeSet, h]

theorem State.takeTimeSet_of_waitTime (h : timeWellFormed t = true) (hs : s.startup.state = .waitTime) :
    s.takeTimeSet t = (s.firstTime t).accept [] := by
  simp [State.takeTimeSet, h, hs]

theorem State.takeTimeSet_of_refused (h : timeWellFormed t = true) (hs : s.startup.state = .run)
    (ha : s.timeSetAccepted t = false) : s.takeTimeSet t = s.refuse .badValue := by
  simp [State.takeTimeSet, h, hs, ha]

theorem State.takeTimeSet_of_accepted (h : timeWellFormed t = true) (hs : s.startup.state = .run)
    (ha : s.timeSetAccepted t = true) : s.takeTimeSet t = (s.setTime t).accept [] := by
  simp [State.takeTimeSet, h, hs, ha]

/-- An accepted TIME_SET in RUN, with no catch-up due, is a move of time with the quality of the clock source (R10). -/
theorem State.setTime_eq (hdue : s.startup.catchUpDue = false) :
    s.setTime t = { s with
      time := { s.time with
        time := t, quality := if s.time.source = .main then .set else .degraded
        retainedKey := t.key s.settings.periodLength, backup := t.toBackup }
      inbox := if s.curKey < t.key s.settings.periodLength
        then s.inbox.issue s.settings.periodLength s.curKey (t.key s.settings.periodLength) else s.inbox } := by
  rw [State.setTime, State.catchUp_of_not_due hdue, State.moveTime_eq, ← qualityAfterSet_eq]
  rfl

end

/-- Settles O40, by the entry to RUN and by the outcomes of the checks of R9 in WAIT_TIME and RUN. -/
theorem timeSet : Obligations.TimeSet := by
  refine ⟨fun u hrun => ⟨State.enterRun_of_running hrun, State.enterRun_leaves hrun⟩, ?_⟩
  intro s day minute second ms hw hlen hv hday c nt key quality inRange start
  have hexec := exec_timeSet day minute second ms hw
  have hform : timeWellFormed nt = true ↔ inRange := timeWellFormed_iff nt
  refine ⟨fun hout => ?outOfRange, fun hin hs => ?first, fun hin hs hbad => ?refused, fun hin hs hdue hstart hmove => ⟨?accepted, ?key⟩⟩
  case outOfRange =>
    have hill : timeWellFormed nt = false := Bool.eq_false_iff.2 fun h => hout (hform.1 h)
    rw [hexec, State.takeTimeSet_of_out hill]
    rfl
  case first =>
    rw [hexec, State.takeTimeSet_of_waitTime (hform.2 hin) hs, State.firstTime, qualityAfterSet_eq]
    rfl
  case refused =>
    have hno : s.timeSetAccepted nt = false := by
      rw [Bool.eq_false_iff, ne_eq, State.timeSetAccepted_iff]
      rintro ⟨hstart, hmove⟩
      rcases hbad with hbad | ⟨hset, hbad⟩
      · exact absurd hstart (Nat.not_le.2 hbad)
      · have := hmove hset; omega
    rw [hexec, State.takeTimeSet_of_refused (hform.2 hin) hs hno]
    rfl
  case accepted =>
    rw [hexec, State.takeTimeSet_of_accepted (hform.2 hin) hs ((s.timeSetAccepted_iff nt).2 ⟨hstart, hmove⟩),
      State.setTime_eq hdue]
    rfl
  case key => exact DistrictTime.le_key_of_periodStart_le hlen ⟨hday, hin⟩ hstart

end Sys2Proof.Machine
end

section
/-! The receiver of the canal line: a character by what the transmitter and the receiver are doing (R38, R39, R42), and the gap in a frame. -/

namespace Sys2Proof.Machine

section

variable {l : LineInterface} {b : Byte} {bad : Bool} {chars : List Byte}

/-- The Line Interface as a character begins: the idle count at 0, held for the character (R38, log 9: DESIGN CHOICE). -/
def LineInterface.heard (l : LineInterface) : LineInterface := { l with idle := 0, idlePhase := 0, charLeft := 10000 }

/-! ## The read-back (R42) -/

/-- The value of the own frame that is due to be read back. -/
def LineInterface.expected (l : LineInterface) : Option Byte := ((l.frame.map TxFrame.chars).getD [])[l.readCount]?

/-- A framing error or another value than the one sent is a mismatch. -/
theorem LineInterface.readBack_mismatch (h : bad = true ∨ l.expected ≠ some b) :
    l.readBack b bad = { l with readBad := true } := if_pos (by simpa [LineInterface.expected] using h)

/-- The value sent, without framing error, counts as read back. -/
theorem LineInterface.readBack_match (hbad : bad = false) (h : l.expected = some b) :
    l.readBack b bad = { l with readCount := l.readCount + 1 } :=
  if_neg (by simpa [LineInterface.expected, hbad] using h)

/-! ## The frame being assembled (R39) -/

/-- A frame is complete from its length field on, at the length that this field gives. -/
theorem frameComplete_iff : frameComplete chars = true ↔ 5 ≤ chars.length ∧ chars.length = 7 + fieldAt chars 3 2 := by
  simp [frameComplete]

/-- A framing error, and a payload length above 480, discard the frame. -/
theorem LineInterface.takeChar_discard
    (h : bad = true ∨ ((chars ++ [b]).length = 5 ∧ 480 < fieldAt (chars ++ [b]) 3 2)) :
    l.takeChar chars b bad = { l with rx := .hunt } := by
  unfold LineInterface.takeChar
  dsimp only
  rcases h with h | h
  · rw [if_pos h]
  · rw [if_pos h, ite_self]

/-- The last character hands the frame on. -/
theorem LineInterface.takeChar_complete (hbad : bad = false)
    (hlong : ¬((chars ++ [b]).length = 5 ∧ 480 < fieldAt (chars ++ [b]) 3 2)) (h : frameComplete (chars ++ [b]) = true) :
    l.takeChar chars b bad = { l with rx := .hunt, arrived := l.arrived ++ [chars ++ [b]] } := by
  unfold LineInterface.takeChar
  dsimp only
  rw [if_neg (by simp [hbad]), if_neg hlong, if_pos h]

/-- Any other character joins the frame. -/
theorem LineInterface.takeChar_join (hbad : bad = false)
    (hlong : ¬((chars ++ [b]).length = 5 ∧ 480 < fieldAt (chars ++ [b]) 3 2)) (h : ¬frameComplete (chars ++ [b]) = true) :
    l.takeChar chars b bad = { l with rx := .frame (chars ++ [b]) } := by
  unfold LineInterface.takeChar
  dsimp only
  rw [if_neg (by simp [hbad]), if_neg hlong, if_neg h]

/-! ## Who takes a character -/

/-- A station that sends reads its own frame back. -/
theorem LineInterface.char_of_sending (h : l.tx = .sending) : l.char b bad = l.heard.readBack b bad := if_pos h

/-- With the receiver off a character sets the idle count alone. -/
theorem LineInterface.char_of_off (htx : l.tx ≠ .sending) (h : l.rx = .off) : l.char b bad = l.heard := by
  simp [LineInterface.char, LineInterface.heard, htx, h]

/-- The sync byte without framing error begins a frame. -/
theorem huntChar_eq (b : Byte) (bad : Bool) : huntChar b bad = if b = 0xA7 ∧ bad = false then .frame [b] else .hunt := by
  simp [huntChar, lineSync]

/-- In HUNT a character is compared with the sync byte. -/
theorem LineInterface.char_of_hunt (htx : l.tx ≠ .sending) (h : l.rx = .hunt) :
    l.char b bad = { l.heard with rx := huntChar b bad } := by
  simp [LineInterface.char, LineInterface.heard, htx, h]

/-- After a gap of more than 3 byte times the part frame is gone, and the character is hunted. -/
theorem LineInterface.char_of_gap (htx : l.tx ≠ .sending) (h : l.rx = .frame chars) (hgap : 3 < l.idle) :
    l.char b bad = { l.heard with rx := huntChar b bad } := by
  simp [LineInterface.char, LineInterface.heard, htx, h, hgap]

/-- Without such a gap the frame takes the character. -/
theorem LineInterface.char_of_frame (htx : l.tx ≠ .sending) (h : l.rx = .frame chars) (hgap : l.idle ≤ 3) :
    l.char b bad = l.heard.takeChar chars b bad := by
  simp [LineInterface.char, LineInterface.heard, htx, h, Nat.not_lt.2 hgap]

/-- With supply a character reaches the Line Interface. -/
theorem exec_lineCharacterReceived {s : State} (hp : s.startup.powered = true) :
    exec (.lineCharacterReceived b bad) s = .next (s.withLine (s.line.char b bad)) := if_pos hp

/-- A gap of more than 3 byte times discards a part frame. -/
theorem exec_lineFrameGap_of_frame {s : State} (hp : s.startup.powered = true) (h : s.line.rx = .frame chars) (hgap : 3 < s.line.idle) :
    exec .lineFrameGap s = .next (s.withLine { s.line with rx := .hunt }) :=
  if_pos (by simp [hp, h, hgap, LineRx.inFrame])

/-- What a character makes of the Line Interface is what its reception leads to. -/
theorem exec_lineCharacterReceived_of_char {s : State} {l' : LineInterface} (hp : s.startup.powered = true) (h : s.line.char b bad = l') :
    exec (.lineCharacterReceived b bad) s = .next { s with line := l' } := by
  rw [exec_lineCharacterReceived hp, h]
  rfl

end

/-- Settles O53, by who takes the character and what it makes of the frame. -/
theorem lineCharacters : Obligations.LineCharacters := by
  refine ⟨?_, fun s chars hp hrx hgap => exec_lineFrameGap_of_frame hp hrx hgap⟩
  intro s b bad hp l hunted leads
  have of_char {l' : LineInterface} : s.line.char b bad = l' → leads l' := exec_lineCharacterReceived_of_char hp
  have hhunt : huntChar b bad = hunted := huntChar_eq b bad
  refine ⟨fun htx => ?sending, fun htx => ⟨?off, ?hunt, ?frame⟩⟩
  case sending =>
    have read : s.line.char b bad = s.line.heard.readBack b bad := LineInterface.char_of_sending htx
    exact ⟨fun h => of_char (read.trans (LineInterface.readBack_mismatch h)),
      fun hbad h => of_char (read.trans (LineInterface.readBack_match hbad h))⟩
  case off => exact fun hrx => of_char (LineInterface.char_of_off htx hrx)
  case hunt =>
    intro hrx
    rw [← hhunt]
    exact of_char (LineInterface.char_of_hunt htx hrx)
  case frame =>
    intro chars hrx more tooLong complete
    have taken (hgap : s.line.idle ≤ 3) : s.line.char b bad = s.line.heard.takeChar chars b bad :=
      LineInterface.char_of_frame htx hrx hgap
    rw [← hhunt]
    exact ⟨fun hgap => of_char (LineInterface.char_of_gap htx hrx hgap),
      fun hgap h => of_char ((taken hgap).trans (LineInterface.takeChar_discard h)),
      fun hgap hbad hlong h => of_char ((taken hgap).trans
        (LineInterface.takeChar_complete hbad hlong (frameComplete_iff.2 h))),
      fun hgap hbad hlong h => of_char ((taken hgap).trans
        (LineInterface.takeChar_join hbad hlong fun hc => h (frameComplete_iff.1 hc)))⟩

end Sys2Proof.Machine
end

section
/-! The transmitter of the canal line: the attempt and the notice it sends, its ends, the timers, and the comparison with the last-sent
copy (R41 to R49, R83). -/

namespace Sys2Proof.Machine

section

variable {s : State} {r : PlanResults}

/-! ## The attempt (R41, R43, R45) -/

/-- In RUN with results and a pending request an attempt starts. -/
theorem State.tryAttempt_of_asked (hrun : s.running = true) (hr : s.planner.results = some r)
    (hasked : s.line.reachReq = true ∨ s.line.watchReq = true) : s.tryAttempt = s.startAttempt r := by
  simp [State.tryAttempt, hr, hrun, LineInterface.asked, hasked]

/-- The access gap that is reached tries an attempt. -/
theorem exec_accessGapReached_of_reached (htx : s.line.tx = .gap) (h : accessGap s.settings.station.number ≤ s.line.idle) :
    exec .accessGapReached s = .next s.tryAttempt := if_pos ⟨htx, h⟩

/-- The backoff count that is reached tries an attempt. -/
theorem exec_backoffExpiry_of_reached (htx : s.line.tx = .backoff)
    (h : backoffCount s.settings.station.number s.line.attempt ≤ s.line.idle) :
    exec .backoffExpiry s = .next s.tryAttempt := if_pos ⟨htx, h⟩

/-- A pending REACH request sends a REACH notice, which the last-sent copy will hold. -/
theorem State.buildFrame_of_reach (h : s.line.reachReq = true) :
    s.buildFrame r = { chars := lineFrame reachKind s.settings.station.number (s.reachFields r).bytes
                       copy := some { key := (s.reachFields r).key, plan := (s.reachFields r).plan
                                      blocks := (s.reachFields r).blocks } } := if_pos h

/-- Without a REACH request the frame is a WATCH notice. -/
theorem State.buildFrame_of_watch (h : s.line.reachReq = false) :
    s.buildFrame r =
      { chars := lineFrame watchKind s.settings.station.number (watchBytes s.curKey s.neigh.watchEnd), copy := none } :=
  if_neg (by simp [h])

/-! ## The grant blocks (R83) -/

/-- One block for each downstream neighbour. -/
theorem State.length_grantBlocks (s : State) (r : PlanResults) :
    (s.grantBlocks r).length = s.settings.neighbours.downstream.length := by simp [State.grantBlocks]

/-- The block of the downstream neighbour in place j is made of its schedule and its share at offset 0. -/
theorem State.grantBlocks_getElem? {j : Nat} {d : Config.Downstream} (h : s.settings.neighbours.downstream[j]? = some d) :
    (s.grantBlocks r)[j]? = some (grantBlock d.station (s.planner.schedules.getD j [])
      (((r.offsets[0]?.map OffsetPlan.downShare).getD []).getD j ByClass.zero)) := by
  simp [State.grantBlocks, List.getElem?_zipIdx, h]

/-! ## The comparison (R49) -/

/-- A value is far apart from another when one of them is above the other by the threshold. -/
theorem farApart_iff {t a b : Nat} : farApart t a b = true ↔ a + t ≤ b ∨ b + t ≤ a := by simp [farApart]

/-- Two values differ in some class. -/
theorem classesFarApart_iff {t : Nat} {x y : ByClass} :
    classesFarApart t x y = true ↔ ∃ c, farApart t (x.get c) (y.get c) = true := by
  rw [classesFarApart, List.any_eq_true]
  exact ⟨fun ⟨c, _, h⟩ => ⟨c, h⟩, fun ⟨c, h⟩ => ⟨c, by cases c <;> decide, h⟩⟩

/-- An array differs from the one sent at some offset, in the value sent for the same period. -/
theorem arrayChanged_iff {t planKey sentKey : Nat} {now sent : List ByClass} :
    arrayChanged t planKey sentKey now sent = true ↔
      ∃ i x, now[i]? = some x ∧ classesFarApart t x (sentAt sent sentKey planKey i) = true := by
  rw [arrayChanged, List.any_eq_true]
  constructor
  · rintro ⟨⟨x, i⟩, hmem, h⟩
    exact ⟨i, x, List.mem_zipIdx_iff_getElem?.1 hmem, h⟩
  · rintro ⟨i, x, hx, h⟩
    exact ⟨(x, i), List.mem_zipIdx_iff_getElem?.2 hx, h⟩

/-- The value sent for a period is that of the copy from its key on, and 0 before it. -/
theorem sentAt_eq (sent : List ByClass) (sentKey planKey i : Nat) :
    sentAt sent sentKey planKey i = if sentKey ≤ planKey + i then sent.getD (planKey + i - sentKey) ByClass.zero else ByClass.zero := by
  unfold sentAt
  by_cases h : sentKey ≤ planKey + i
  · rw [if_neg (Nat.not_lt.2 h), if_pos h]
  · rw [if_pos (Nat.not_le.1 h), if_neg h]

/-- The comparison reads the settings, the Line Interface and the Planner alone. -/
theorem State.planChanged_congr {u : State} (hset : u.settings = s.settings) (hline : u.line = s.line) (hplan : u.planner = s.planner) :
    u.planChanged r = s.planChanged r := by
  simp only [State.planChanged, State.grantBlocks, hset, hline, hplan]

/-- In RUN a recompute makes its comparison where the plan is written and the line is as it was (R49, R67). -/
theorem State.recompute_compares (hrun : s.running = true) :
    ∃ v : State, v.settings = s.settings ∧ v.startup = s.startup ∧ v.line = s.line ∧ v.planner = s.recompute.planner ∧
      s.recompute.line = (v.comparePlan s.computePlan).line := by
  unfold State.recompute
  rw [if_neg (by simp [hrun])]
  exact ⟨_, by simp, by simp, by simp, by simp, rfl⟩

/-- In RUN a recompute makes a REACH request when the comparison finds a change. -/
theorem State.recompute_line_of_changed (hrun : s.running = true)
    (h : (s.withPlanner s.recompute.planner).planChanged s.computePlan = true) :
    s.recompute.line = if s.line.tx = .quiet ∧ s.line.holdoff = none then { s.line with reachReq := true, tx := .gap }
      else { s.line with reachReq := true } := by
  obtain ⟨v, hset, hstart, hline, hplan, hrec⟩ := State.recompute_compares hrun
  have hchanged : v.planChanged s.computePlan = true := (State.planChanged_congr (s := s.withPlanner s.recompute.planner) hset hline hplan).trans h
  have hvrun : v.running = true := by rw [State.running_iff, hstart, ← State.running_iff, hrun]
  rw [hrec, State.comparePlan, if_pos hchanged, State.requestReach_of_running hvrun, State.withLine_line, hline]

/-- In RUN a recompute leaves the line when the comparison finds none. -/
theorem State.recompute_line_of_not_changed (hrun : s.running = true)
    (h : (s.withPlanner s.recompute.planner).planChanged s.computePlan = false) : s.recompute.line = s.line := by
  obtain ⟨v, hset, _, hline, hplan, hrec⟩ := State.recompute_compares hrun
  have hsame : v.planChanged s.computePlan = false := (State.planChanged_congr (s := s.withPlanner s.recompute.planner) hset hline hplan).trans h
  rw [hrec, State.comparePlan, if_neg (by simp [hsame]), hline]

/-! ## The end of an attempt (R42, R44, R46) -/

/-- While the station sends, COLLISION ends the attempt. -/
theorem exec_collision_of_sending (hrun : s.running = true) (htx : s.line.tx = .sending) :
    exec .collision s = .next s.collide := if_pos (by simp [hrun, htx])

/-- Before the sixth collision the station backs off. -/
theorem State.collide_of_lt (h : s.line.attempt + 1 < 6) :
    s.collide = s.withLine { s.line.returnCarried.endAttempt with attempt := s.line.attempt + 1, tx := .backoff } := if_pos h

/-- At the sixth collision the notice is given up. -/
theorem State.collide_of_ge (h : 6 ≤ s.line.attempt + 1) :
    s.collide = (s.withLine { s.line.returnCarried.endAttempt with attempt := 0, tx := .quiet, holdoff := some s.time.elapsed }).raise
      .lineCongestion := if_neg (Nat.not_lt.2 h)

/-- While the station sends, NOTICE_COMPLETE ends the attempt. -/
theorem exec_noticeComplete_of_sending (hrun : s.running = true) (htx : s.line.tx = .sending) :
    exec .noticeComplete s = .next s.completeNotice := if_pos (by simp [hrun, htx])

/-- A completed REACH notice starts the holdoff and the notice timer, and is the new last-sent copy. -/
theorem State.completeNotice_of_reach {f : TxFrame} {x : SentCopy} (hf : s.line.frame = some f) (hx : f.copy = some x) :
    s.completeNotice = s.withLine { s.line.endAttempt with
      attempt := 0, tx := .quiet, holdoff := some s.time.elapsed, noticeTimer := some s.time.elapsed, lastSent := some x } := by
  simp [State.completeNotice, hf, hx]

/-- A completed WATCH notice starts the holdoff. -/
theorem State.completeNotice_of_watch {f : TxFrame} (hf : s.line.frame = some f) (hx : f.copy = none) :
    s.completeNotice = s.withLine { s.line.endAttempt with attempt := 0, tx := .quiet, holdoff := some s.time.elapsed } := by
  simp [State.completeNotice, hf, hx]

/-! ## The timers (R47, R48) -/

/-- In RUN a quiet transmitter with a pending request and no holdoff wakes (R41). -/
theorem LineInterface.wake_of_running (l : LineInterface) :
    l.wake true = { l with
      tx := if l.tx = .quiet ∧ (l.reachReq = true ∨ l.watchReq = true) ∧ l.holdoff = none then .gap else l.tx } := by
  by_cases hc : l.tx = .quiet ∧ (l.reachReq = true ∨ l.watchReq = true) ∧ l.holdoff = none
  · rw [if_pos hc]
    exact if_pos (by simp [LineInterface.asked, hc])
  · rw [if_neg hc]
    exact if_neg (by simpa [LineInterface.asked, and_assoc] using hc)

/-- The end of the holdoff. -/
theorem exec_holdoffExpiry_of_expired (h : s.expired s.line.holdoff s.settings.line.holdoff = true) :
    exec .holdoffExpiry s = .next (s.withLine ({ s.line with holdoff := none }.wake s.running)) := if_pos h

/-- The notice timer starts again, and a REACH request is made. -/
theorem exec_noticeTimerExpiry_of_expired (h : s.expired s.line.noticeTimer s.settings.line.noticeInterval = true) :
    exec .noticeTimerExpiry s = .next (s.withLine { s.line with noticeTimer := some s.time.elapsed }).requestReach := if_pos h

end

/-- Settles O54, event by event. -/
theorem transmitterEvents : Obligations.TransmitterEvents := by
  refine ⟨?attempt, ?blocks, ?comparison, ?recompute, ?ends, ?timers⟩
  case attempt =>
    intro s r hrun hr hasked own sending
    have start : s.tryAttempt = sending := State.tryAttempt_of_asked hrun hr hasked
    refine ⟨fun htx h => ?_, fun htx h => ?_, fun h => ?_, State.buildFrame_of_watch⟩
    · rw [exec_accessGapReached_of_reached htx h, start]
    · rw [exec_backoffExpiry_of_reached htx h, start]
    · exact ⟨s.reachFields r, State.buildFrame_of_reach h, rfl, rfl, rfl, rfl, rfl, rfl, rfl, rfl⟩
  case blocks => exact fun s r => ⟨s.length_grantBlocks r, fun j d => State.grantBlocks_getElem?⟩
  case comparison =>
    intro s r key sent before apart differs
    have hdiffers (now old : List ByClass) :
        arrayChanged s.settings.line.changeThreshold key sent.key now old = true ↔ differs now old := by
      simp only [arrayChanged_iff, classesFarApart_iff, farApart_iff, sentAt_eq, exists_and_left, differs, apart, before]
    rw [State.planChanged, Bool.or_eq_true, List.any_eq_true]
    exact or_congr (hdiffers _ _) (exists_congr fun b => and_congr_right fun _ => hdiffers _ _)
  case recompute => exact fun s hrun => ⟨State.recompute_line_of_changed hrun, State.recompute_line_of_not_changed hrun⟩
  case ends =>
    intro s hrun htx ended back
    refine ⟨fun h => ?_, fun h => ?_, fun f x hf hx => ?_, fun f hf hx => ?_⟩
    · rw [exec_collision_of_sending hrun htx, State.collide_of_lt h]
      rfl
    · rw [exec_collision_of_sending hrun htx, State.collide_of_ge h]
      rfl
    · rw [exec_noticeComplete_of_sending hrun htx, State.completeNotice_of_reach hf hx]
      rfl
    · rw [exec_noticeComplete_of_sending hrun htx, State.completeNotice_of_watch hf hx]
      rfl
  case timers =>
    intro s x hrun
    have hwork := State.working_of_running hrun
    refine ⟨fun hx hdue => ?_, fun hx hdue => ?_⟩
    · rw [exec_holdoffExpiry_of_expired (State.expired_iff.2 ⟨hwork, x, hx, hdue⟩), hrun, LineInterface.wake_of_running]
      simp [State.withLine]
    · have hrun' : (s.withLine { s.line with noticeTimer := some s.time.elapsed }).running = true := hrun
      rw [exec_noticeTimerExpiry_of_expired (State.expired_iff.2 ⟨hwork, x, hx, hdue⟩), State.requestReach, hrun',
        LineInterface.wake_of_running]
      simp [State.withLine]

end Sys2Proof.Machine
end

section
/-! The layout of a canal-line frame read back: the fields of a list of bytes, arrays of records of one size, grant blocks and closing
pairs, and the walk over the blocks of any payload (R189, R190). -/

namespace Sys2Proof.Machine

/-! ## Fields at an offset -/

section

variable {bs pre rest : List Byte} {offset k n v : Nat}

/-- A field that begins after the first part of the bytes is one of the rest. -/
theorem fieldAt_append (h : pre.length ≤ offset) (bs : List Byte) (n : Nat) :
    fieldAt (pre ++ bs) offset n = fieldAt bs (offset - pre.length) n := by
  rw [fieldAt, fieldAt, List.drop_append, List.drop_of_length_le h, List.nil_append]

/-- A number whose bytes stand first. -/
theorem fieldAt_toBytes (h : v < 256 ^ n) (rest : List Byte) : fieldAt (toBytes n v ++ rest) 0 n = v := by
  rw [fieldAt, List.drop_zero, List.take_left' (length_toBytes n v), ofBytes_toBytes h]

/-- A byte after the first part of the bytes is one of the rest. -/
theorem byteAt_append (h : pre.length ≤ offset) (bs : List Byte) : byteAt (pre ++ bs) offset = byteAt bs (offset - pre.length) := by
  simp [byteAt, List.getElem?_append_right h]

/-- One byte is a field of one byte. -/
theorem byte_eq_toBytes (v : Nat) : byte v = toBytes 1 v := rfl

/-- A byte that stands first. -/
theorem byteAt_toBytes_one (v : Nat) (rest : List Byte) : byteAt (toBytes 1 v ++ rest) 0 = BitVec.ofNat 8 v := rfl

/-- A field of the bytes from an offset on. -/
theorem fieldAt_drop (bs : List Byte) (k offset n : Nat) : fieldAt (bs.drop k) offset n = fieldAt bs (k + offset) n := by
  rw [fieldAt, fieldAt, List.drop_drop]

/-- A byte of the bytes from an offset on. -/
theorem byteAt_drop (bs : List Byte) (k offset : Nat) : byteAt (bs.drop k) offset = byteAt bs (k + offset) := by
  simp [byteAt, List.getElem?_drop]

/-! ## Records of one size -/

/-- The records from the i-th on stand from the i-th multiple of their size on. -/
theorem drop_flatMap_const {α : Type} {f : α → List Byte} (k : Nat) (rest : List Byte) :
    ∀ (xs : List α) (i : Nat), (∀ x ∈ xs, (f x).length = k) → i ≤ xs.length →
      (xs.flatMap f ++ rest).drop (k * i) = (xs.drop i).flatMap f ++ rest
  | _, 0, _, _ => rfl
  | [], i + 1, _, hi => absurd hi (by simp)
  | x :: xs, i + 1, hf, hi => by
    have hx : (f x).length = k := hf x (by simp)
    rw [List.flatMap_cons, List.append_assoc, Nat.mul_succ, Nat.add_comm, ← List.drop_drop, List.drop_left' hx,
      drop_flatMap_const k rest xs i (fun y hy => hf y (by simp [hy])) (by simpa using hi), List.drop_succ_cons]

/-- The i-th record stands at the i-th multiple of the size. -/
theorem drop_flatMap_getElem {α : Type} {f : α → List Byte} {xs : List α} {i : Nat} (rest : List Byte)
    (hf : ∀ x ∈ xs, (f x).length = k) (hi : i < xs.length) :
    (xs.flatMap f ++ rest).drop (k * i) = f xs[i] ++ ((xs.drop (i + 1)).flatMap f ++ rest) := by
  rw [drop_flatMap_const k rest xs i hf (Nat.le_of_lt hi), List.drop_eq_getElem_cons hi, List.flatMap_cons, List.append_assoc]

/-! ## Twelve values of two bytes -/

/-- Every value of a small offset fits 2 bytes. -/
theorem smallClasses.get_lt {x : ByClass} (h : smallClasses x) (c : WaterClass) : x.get c < 65536 := by
  obtain ⟨h1, h2, h3, h4⟩ := h
  cases c <;> assumption

/-- Twelve offsets of one class take 24 bytes. -/
theorem length_classBytes {xs : List ByClass} (hlen : xs.length = 12) (c : WaterClass) : (classBytes xs c).length = 24 := by
  rw [classBytes, length_flatMap_const _ 2 xs fun _ _ => length_toBytes 2 _, hlen]

/-- The twelve values of one class are read back (R189). -/
theorem twelve_classBytes {xs : List ByClass} (h : TwelveSmall xs) (c : WaterClass) (rest : List Byte) :
    twelve (classBytes xs c ++ rest) = xs.map fun x => x.get c := by
  obtain ⟨hlen, hsmall⟩ := h
  refine List.ext_getElem (by simp [twelve, hlen]) fun i _ hi => ?_
  have hi : i < xs.length := by simpa using hi
  simp only [twelve, List.getElem_map, List.getElem_range]
  rw [← Nat.add_zero (2 * i), ← fieldAt_drop, classBytes, drop_flatMap_getElem rest (fun _ _ => length_toBytes 2 _) hi]
  exact fieldAt_toBytes ((hsmall _ (List.getElem_mem hi)).get_lt c) _

/-- Twelve offsets are put together from the twelve values of each class. -/
theorem combine_map_get {xs : List ByClass} (hlen : xs.length = 12) :
    combine (xs.map fun x => x.get .senior) (xs.map fun x => x.get .frost) (xs.map fun x => x.get .standard)
      (xs.map fun x => x.get .surplus) = xs := by
  refine List.ext_getElem (by simp [combine, hlen]) fun i _ hi => ?_
  simp [combine, List.getD_eq_getElem?_getD, hi, ByClass.get]

/-- The four classes of a plan, one after the other. -/
theorem planBytes_eq (xs : List ByClass) :
    planBytes xs = classBytes xs .senior ++ (classBytes xs .frost ++ (classBytes xs .standard ++ classBytes xs .surplus)) := by
  simp [planBytes, classes]

/-- The plan of a payload whose header has 14 bytes (R189). -/
theorem decodePlan_planBytes {xs : List ByClass} (h : TwelveSmall xs) (hpre : pre.length = 14) (rest : List Byte) :
    decodePlan (pre ++ (planBytes xs ++ rest)) = xs := by
  have hlen := length_classBytes h.1
  rw [decodePlan, planBytes_eq]
  simp only [List.append_assoc]
  have h14 (ys : List Byte) : (pre ++ ys).drop 14 = ys := List.drop_left' hpre
  have h24 (c : WaterClass) (ys : List Byte) : (classBytes xs c ++ ys).drop 24 = ys := List.drop_left' (hlen c)
  rw [show 38 = 14 + 24 from rfl, show 62 = 14 + 24 + 24 from rfl, show 86 = 14 + 24 + 24 + 24 from rfl]
  simp only [← List.drop_drop, h14, h24, twelve_classBytes h]
  exact combine_map_get h.1

/-! ## Grant blocks (R190) -/

/-- The bytes of one class of a block: none when every grant of it is 0. -/
def classPart (xs : List ByClass) (c : WaterClass) : List Byte := if classPresent xs c then classBytes xs c else []

/-- A block is its station, its mask and the parts of the four classes. -/
theorem GrantBlock.bytes_eq (b : GrantBlock) :
    b.bytes = BitVec.ofNat 8 b.station :: BitVec.ofNat 8 (bitsOf (classes.map (classPresent b.grants))) ::
      (classPart b.grants .senior ++ (classPart b.grants .frost ++ (classPart b.grants .standard ++ classPart b.grants .surplus))) := by
  have hparts (cs : List WaterClass) :
      (cs.filter (classPresent b.grants)).flatMap (classBytes b.grants) = cs.flatMap (classPart b.grants) := by
    induction cs with
    | nil => rfl
    | cons c cs ih => cases h : classPresent b.grants c <;> simp [classPart, h, ih]
  rw [GrantBlock.bytes, hparts]
  simp [classes, byte]

/-- The mask of four marks, bit by bit, has no bit above bit 3. -/
theorem mask_getLsbD (a b c d : Bool) :
    let mask := BitVec.ofNat 8 (bitsOf [a, b, c, d])
    mask.getLsbD 0 = a ∧ mask.getLsbD 1 = b ∧ mask.getLsbD 2 = c ∧ mask.getLsbD 3 = d ∧ mask.toNat < 16 := by
  revert a b c d; decide

/-- A class of which every grant is 0 is twelve grants of 0. -/
theorem map_get_of_not_present {xs : List ByClass} {c : WaterClass} (hlen : xs.length = 12) (h : classPresent xs c = false) :
    (xs.map fun x => x.get c) = List.replicate 12 0 := by
  refine List.eq_replicate_iff.2 ⟨by simp [hlen], fun v hv => ?_⟩
  obtain ⟨x, hx, rfl⟩ := List.mem_map.1 hv
  simpa using List.any_eq_false.1 h x hx

/-- One class of a block is taken back from its part. -/
theorem takeClass_classPart {xs : List ByClass} {c : WaterClass} {mask : Byte} {bit : Nat} (h : TwelveSmall xs)
    (hbit : mask.getLsbD bit = classPresent xs c) (rest : List Byte) :
    takeClass mask bit (classPart xs c ++ rest) = (xs.map fun x => x.get c, rest) := by
  rw [takeClass, hbit, classPart]
  cases hp : classPresent xs c with
  | true => simp [twelve_classBytes h, List.drop_left' (length_classBytes h.1 c)]
  | false => simp [map_get_of_not_present h.1 hp]

/-- What a class leaves of the bytes. -/
theorem takeClass_snd (mask : Byte) (bit : Nat) (bs : List Byte) :
    (takeClass mask bit bs).2 = bs.drop (24 * (if mask.getLsbD bit then 1 else 0)) := by
  unfold takeClass; split <;> simp

/-- The part of a class takes 24 bytes when the class is present. -/
theorem length_classPart {xs : List ByClass} (hlen : xs.length = 12) (c : WaterClass) :
    (classPart xs c).length = 24 * (if classPresent xs c then 1 else 0) := by
  unfold classPart; split <;> simp [length_classBytes hlen]

/-- The number of classes of a mask, bit by bit. -/
theorem maskCount_eq (mask : Byte) :
    maskCount mask = (if mask.getLsbD 0 then 1 else 0) + ((if mask.getLsbD 1 then 1 else 0) +
      ((if mask.getLsbD 2 then 1 else 0) + ((if mask.getLsbD 3 then 1 else 0) + 0))) := rfl

/-- The number of classes of a mask as a count of bits. -/
theorem maskCount_eq_length (mask : Byte) :
    maskCount mask = ((List.range 4).filter fun bit => mask.getLsbD bit).length := by
  have hsum (bits : List Nat) : sumList (bits.map fun i => if mask.getLsbD i then 1 else 0) =
      (bits.filter fun bit => mask.getLsbD bit).length := by
    induction bits with
    | nil => rfl
    | cons i bits ih => cases h : mask.getLsbD i <;> simp_all [sumList, Nat.add_comm]
  exact hsum _

/-- A block is taken back from its bytes, and what follows remains. -/
theorem takeBlock_bytes {b : GrantBlock} (hstation : b.station < 256) (h : TwelveSmall b.grants) (rest : List Byte) :
    takeBlock (b.bytes ++ rest) = some (b, rest) := by
  obtain ⟨h0, h1, h2, h3, hmask⟩ := mask_getLsbD (classPresent b.grants .senior) (classPresent b.grants .frost)
    (classPresent b.grants .standard) (classPresent b.grants .surplus)
  have hlen := length_classPart h.1
  rw [b.bytes_eq]
  simp only [List.cons_append, List.append_assoc, takeBlock, classes, List.map_cons, List.map_nil]
  rw [if_neg (by simp only [maskCount_eq, h0, h1, h2, h3, List.length_append, hlen]; omega)]
  simp only [takeClass_classPart h h0, takeClass_classPart h h1, takeClass_classPart h h2, takeClass_classPart h h3,
    combine_map_get h.1, BitVec.toNat_ofNat, Nat.mod_eq_of_lt hstation]

/-- The blocks are taken back in order. -/
theorem takeBlocks_flatMap (rest : List Byte) : ∀ {bs : List GrantBlock}, (∀ b ∈ bs, b.station < 256 ∧ TwelveSmall b.grants) →
    takeBlocks bs.length (bs.flatMap GrantBlock.bytes ++ rest) = some (bs, rest)
  | [], _ => rfl
  | b :: bs, h => by
    obtain ⟨hstation, hgrants⟩ := h b (by simp)
    rw [List.flatMap_cons, List.append_assoc, List.length_cons, takeBlocks, takeBlock_bytes hstation hgrants]
    simp only [takeBlocks_flatMap rest fun x hx => h x (List.mem_cons_of_mem b hx), Option.map_some]

end

/-! ## The walk over the blocks of any payload -/

/-- A grant block stands at the head of the bytes: the classes of its mask do not pass the end, and no mask bit is above bit 3. -/
def BlockStands (bs : List Byte) : Prop := 2 + 24 * maskCount (byteAt bs 1) ≤ bs.length ∧ (byteAt bs 1).toNat < 16

/-- A block that stands is taken, and the bytes after its classes remain. -/
theorem takeBlock_of_stands {bs : List Byte} (h : BlockStands bs) :
    ∃ b, takeBlock bs = some (b, bs.drop (2 + 24 * maskCount (byteAt bs 1))) := by
  obtain ⟨hlen, hmask⟩ := h
  match bs with
  | [] => simp at hlen
  | [_] => simp at hlen; omega
  | station :: mask :: rest =>
    have hat : byteAt (station :: mask :: rest) 1 = mask := rfl
    rw [hat] at hlen hmask ⊢
    have hrest : (takeClass mask 3 (takeClass mask 2 (takeClass mask 1 (takeClass mask 0 rest).2).2).2).2 =
        rest.drop (24 * maskCount mask) := by
      simp only [takeClass_snd, List.drop_drop, maskCount_eq]
      congr 1; omega
    rw [takeBlock, if_neg (by simp only [List.length_cons] at hlen; omega), Nat.add_comm 2, List.drop_succ_cons, List.drop_succ_cons]
    exact ⟨_, congrArg some (Prod.ext rfl hrest)⟩

/-- A block that does not stand is refused. -/
theorem takeBlock_of_not_stands {bs : List Byte} (h : ¬BlockStands bs) : takeBlock bs = none := by
  match bs with
  | [] => rfl
  | [_] => rfl
  | station :: mask :: rest =>
    refine if_pos ?_
    have hat : byteAt (station :: mask :: rest) 1 = mask := rfl
    rw [BlockStands, hat, List.length_cons, List.length_cons] at h
    omega

/-- The block starts of a payload: each block follows the one before it and the classes of its mask. -/
def BlockStarts (p : List Byte) (start : Nat → Nat) (n : Nat) : Prop :=
  ∀ j, j < n → start (j + 1) = start j + 2 + 24 * maskCount (byteAt p (start j + 1))

/-- The blocks that begin at the starts stand: none passes the end, and no mask has a bit above bit 3. -/
def BlocksStand (p : List Byte) (start : Nat → Nat) (n : Nat) : Prop :=
  start n ≤ p.length ∧ ∀ j, j < n → (byteAt p (start j + 1)).toNat < 16

section

variable {p : List Byte} {start : Nat → Nat} {n : Nat}

/-- Without the first block the starts are those of the blocks that follow. -/
theorem BlockStarts.tail (h : BlockStarts p start (n + 1)) : BlockStarts p (fun j => start (j + 1)) n :=
  fun j hj => h (j + 1) (by omega)

/-- The starts rise. -/
theorem BlockStarts.le (h : BlockStarts p start n) : start 0 ≤ start n := by
  induction n with
  | zero => exact Nat.le_refl _
  | succ n ih =>
    have := h n (by omega)
    have := ih fun j hj => h j (by omega)
    omega

/-- The first block stands at its start when it ends within the payload and its mask has no bit above bit 3. -/
theorem BlockStarts.stands_iff (h : BlockStarts p start (n + 1)) (h0 : start 0 ≤ p.length) :
    BlockStands (p.drop (start 0)) ↔ start 1 ≤ p.length ∧ (byteAt p (start 0 + 1)).toNat < 16 := by
  have : start 1 = _ := h 0 (by omega)
  rw [BlockStands, byteAt_drop, List.length_drop]
  omega

/-- All blocks stand when the first does and those that follow do. -/
theorem BlockStarts.blocksStand_succ_iff (h : BlockStarts p start (n + 1)) (h0 : start 0 ≤ p.length) :
    BlocksStand p start (n + 1) ↔ BlockStands (p.drop (start 0)) ∧ BlocksStand p (fun j => start (j + 1)) n := by
  rw [h.stands_iff h0]
  constructor
  · rintro ⟨hend, hmask⟩
    exact ⟨⟨Nat.le_trans h.tail.le hend, hmask 0 (by omega)⟩, hend, fun j hj => hmask (j + 1) (by omega)⟩
  · rintro ⟨⟨_, hfirst⟩, hend, hmask⟩
    refine ⟨hend, fun j hj => ?_⟩
    cases j with
    | zero => exact hfirst
    | succ j => exact hmask j (by omega)

/-- What a block leaves is the payload from the next start on. -/
theorem BlockStarts.drop_first (h : BlockStarts p start (n + 1)) :
    (p.drop (start 0)).drop (2 + 24 * maskCount (byteAt (p.drop (start 0)) 1)) = p.drop (start 1) := by
  rw [List.drop_drop, byteAt_drop, h 0 (by omega), Nat.add_assoc]

/-- Blocks that stand are taken, and the payload from the last start on remains. -/
theorem takeBlocks_of_stand (hs : BlockStarts p start n) (h0 : start 0 ≤ p.length) (h : BlocksStand p start n) :
    ∃ bs, takeBlocks n (p.drop (start 0)) = some (bs, p.drop (start n)) := by
  induction n generalizing start with
  | zero => exact ⟨[], rfl⟩
  | succ n ih =>
    obtain ⟨hfirst, hrest⟩ := (hs.blocksStand_succ_iff h0).1 h
    obtain ⟨b, hb⟩ := takeBlock_of_stands hfirst
    obtain ⟨bs, hbs⟩ := ih hs.tail ((hs.stands_iff h0).1 hfirst).1 hrest
    rw [hs.drop_first] at hb
    exact ⟨b :: bs, by simp only [takeBlocks, hb]; rw [hbs]; rfl⟩

/-- Blocks of which one does not stand are refused. -/
theorem takeBlocks_of_not_stand (hs : BlockStarts p start n) (h0 : start 0 ≤ p.length) (h : ¬BlocksStand p start n) :
    takeBlocks n (p.drop (start 0)) = none := by
  induction n generalizing start with
  | zero => exact absurd ⟨h0, by simp⟩ h
  | succ n ih =>
    by_cases hfirst : BlockStands (p.drop (start 0))
    · have hrest := mt (fun hr => (hs.blocksStand_succ_iff h0).2 ⟨hfirst, hr⟩) h
      have hnone := ih hs.tail ((hs.stands_iff h0).1 hfirst).1 hrest
      obtain ⟨b, hb⟩ := takeBlock_of_stands hfirst
      rw [hs.drop_first] at hb
      simp only [takeBlocks, hb]
      rw [hnone]; rfl
    · simp only [takeBlocks, takeBlock_of_not_stands hfirst]

/-- A REACH payload is refused exactly when its length, its counts or a mask is not one of R190. -/
theorem decodeReach_eq_none_iff (h0 : start 0 = 110) (hs : BlockStarts p start (fieldAt p 12 1)) :
    decodeReach p = none ↔ p.length < 110 ∨ 3 < fieldAt p 12 1 ∨ 2 < fieldAt p 13 1 ∨
      (∃ j, j < fieldAt p 12 1 ∧ 16 ≤ (byteAt p (start j + 1)).toNat) ∨
      p.length ≠ start (fieldAt p 12 1) + 9 * fieldAt p 13 1 := by
  by_cases hhead : p.length < 110 ∨ 3 < fieldAt p 12 1 ∨ 2 < fieldAt p 13 1
  · refine iff_of_true (if_pos hhead) ?_
    rcases hhead with h | h | h <;> simp [h]
  obtain ⟨hlen, hblocks, hpairs⟩ : 110 ≤ p.length ∧ fieldAt p 12 1 ≤ 3 ∧ fieldAt p 13 1 ≤ 2 := by omega
  have hfirst : start 0 ≤ p.length := h0 ▸ hlen
  rw [decodeReach, if_neg hhead, ← h0]
  by_cases hstand : BlocksStand p start (fieldAt p 12 1)
  · obtain ⟨bs, hbs⟩ := takeBlocks_of_stand hs hfirst hstand
    obtain ⟨hend, hmask⟩ := hstand
    have hgood : ¬∃ j, j < fieldAt p 12 1 ∧ 16 ≤ (byteAt p (start j + 1)).toNat :=
      fun ⟨j, hj, h16⟩ => absurd (hmask j hj) (Nat.not_lt.2 h16)
    have hlast : (p.drop (start (fieldAt p 12 1))).length ≠ 9 * fieldAt p 13 1 ↔
        p.length ≠ start (fieldAt p 12 1) + 9 * fieldAt p 13 1 := by rw [List.length_drop]; omega
    rw [hbs, or_iff_right (Nat.not_lt.2 hfirst), or_iff_right (Nat.not_lt.2 hblocks), or_iff_right (Nat.not_lt.2 hpairs),
      or_iff_right hgood, ← hlast]
    dsimp only
    split
    next h => exact iff_of_true rfl h
    next h => exact iff_of_false (Option.some_ne_none _) h
  · rw [takeBlocks_of_not_stand hs hfirst hstand]
    refine iff_of_true rfl ?_
    by_cases hend : start (fieldAt p 12 1) ≤ p.length
    · have hmask : ∃ j, j < fieldAt p 12 1 ∧ 16 ≤ (byteAt p (start j + 1)).toNat := Classical.byContradiction fun hno =>
        hstand ⟨hend, fun j hj => Nat.lt_of_not_le fun h16 => hno ⟨j, hj, h16⟩⟩
      exact .inr (.inr (.inr (.inl hmask)))
    · exact .inr (.inr (.inr (.inr (by omega))))

end

/-! ## Closing pairs and the header (R189) -/

/-- A closing pair takes 9 bytes. -/
theorem ClosingPair.length_bytes (p : ClosingPair) : p.bytes.length = 9 := by simp [ClosingPair.bytes]

/-- A mark is read back from its byte. -/
theorem markByte_ne_zero (b : Bool) : ((if b then 1#8 else 0#8) != 0#8) = b := by cases b <;> rfl

/-- A closing pair is read back from the bytes that begin with its own (R189, R190). -/
theorem ClosingPair.eq_of_bytes {p : ClosingPair} (hkey : p.key < 2 ^ 32) (hlitres : p.litres < 2 ^ 32) (rest : List Byte) :
    { key := fieldAt (p.bytes ++ rest) 0 4, litres := fieldAt (p.bytes ++ rest) 4 4
      estimated := byteAt (p.bytes ++ rest) 8 != 0 : ClosingPair } = p := by
  have hmark : byteAt (markByte p.estimated ++ rest) 0 = if p.estimated then 1 else 0 := rfl
  simp [ClosingPair.bytes, fieldAt_append, byteAt_append, fieldAt_toBytes (n := 4) hkey, fieldAt_toBytes (n := 4) hlitres, hmark,
    markByte_ne_zero]

/-- The closing pairs are read back. -/
theorem takePairs_flatMap {ps : List ClosingPair} (h : ∀ p ∈ ps, p.key < 2 ^ 32 ∧ p.litres < 2 ^ 32) :
    takePairs ps.length (ps.flatMap ClosingPair.bytes) = ps := by
  refine List.ext_getElem (by simp [takePairs]) fun i _ hi => ?_
  obtain ⟨hkey, hlitres⟩ := h _ (List.getElem_mem hi)
  have hdrop := drop_flatMap_getElem [] (fun p _ => ClosingPair.length_bytes p) hi
  rw [List.append_nil] at hdrop
  simp only [takePairs, List.getElem_map, List.getElem_range]
  rw [← Nat.add_zero (9 * i), Nat.add_assoc, Nat.add_assoc, ← fieldAt_drop, ← fieldAt_drop, ← byteAt_drop, hdrop]
  exact ClosingPair.eq_of_bytes hkey hlitres _

/-- The quality is read back from its code. -/
theorem qualityOf_code (q : Config.Quality) : qualityOf (BitVec.ofNat 8 (qualityCode q)) = q := by cases q <;> rfl

/-- The status flags are read back from their code. -/
theorem statusOf_code (f : StatusFlags) : statusOf (BitVec.ofNat 8 f.code) = f := by
  obtain ⟨a, b, c, d, e, g⟩ := f
  revert a b c d e g; decide

/-- The 14 bytes before the plan. -/
def ReachFields.header (f : ReachFields) : List Byte :=
  toBytes 4 f.key ++ byte (qualityCode f.quality) ++ byte f.flags.code ++ toBytes 2 f.level ++ toBytes 4 f.watchEnd ++
    byte f.blocks.length ++ byte f.pairs.length

/-- The header has 14 bytes. -/
theorem ReachFields.length_header (f : ReachFields) : f.header.length = 14 := by simp [ReachFields.header]

/-- A REACH payload is its header, its plan, its blocks and its pairs. -/
theorem ReachFields.bytes_eq (f : ReachFields) :
    f.bytes = f.header ++ (planBytes f.plan ++ (f.blocks.flatMap GrantBlock.bytes ++ f.pairs.flatMap ClosingPair.bytes)) := by
  simp [ReachFields.bytes, ReachFields.header]

/-- The fields of the header are read back. -/
theorem ReachFields.header_fields {f : ReachFields} (h : f.WellFormed) :
    fieldAt f.bytes 0 4 = f.key ∧ qualityOf (byteAt f.bytes 4) = f.quality ∧ statusOf (byteAt f.bytes 5) = f.flags ∧
      fieldAt f.bytes 6 2 = f.level ∧ fieldAt f.bytes 8 4 = f.watchEnd ∧ fieldAt f.bytes 12 1 = f.blocks.length ∧
      fieldAt f.bytes 13 1 = f.pairs.length := by
  obtain ⟨hkey, hlevel, hwatch, -, hblocks, hpairs, -, -⟩ := h
  rw [f.bytes_eq, ReachFields.header]
  simp only [byte_eq_toBytes, List.append_assoc]
  refine ⟨fieldAt_toBytes hkey _, ?_, ?_, ?_, ?_, ?_, ?_⟩
  · simp [byteAt_append, byteAt_toBytes_one, qualityOf_code]
  · simp [byteAt_append, byteAt_toBytes_one, statusOf_code]
  · simp [fieldAt_append, fieldAt_toBytes (n := 2) hlevel]
  · simp [fieldAt_append, fieldAt_toBytes (n := 4) hwatch]
  · simp [fieldAt_append, fieldAt_toBytes (n := 1) (show f.blocks.length < 256 ^ 1 by omega)]
  · simp [fieldAt_append, fieldAt_toBytes (n := 1) (show f.pairs.length < 256 ^ 1 by omega)]

/-- Header and plan take 110 bytes. -/
theorem ReachFields.length_header_plan {f : ReachFields} (hlen : f.plan.length = 12) :
    (f.header ++ planBytes f.plan).length = 110 := by
  simp [f.length_header, planBytes_eq, length_classBytes hlen]

/-- A grant block takes at most 98 bytes. -/
theorem GrantBlock.length_bytes_le {b : GrantBlock} (hlen : b.grants.length = 12) : b.bytes.length ≤ 98 := by
  have hpart (c : WaterClass) : (classPart b.grants c).length ≤ 24 := by
    rw [length_classPart hlen]; split <;> simp
  have h1 := hpart .senior
  have h2 := hpart .frost
  have h3 := hpart .standard
  have h4 := hpart .surplus
  simp only [b.bytes_eq, List.length_cons, List.length_append]
  omega

/-- Grant blocks take at most 98 bytes each. -/
theorem length_blocks_le : ∀ {bs : List GrantBlock}, (∀ b ∈ bs, b.grants.length = 12) →
    (bs.flatMap GrantBlock.bytes).length ≤ 98 * bs.length
  | [], _ => Nat.le_refl _
  | b :: bs, h => by
    have hb := GrantBlock.length_bytes_le (h b (by simp))
    have hbs := length_blocks_le fun x hx => h x (List.mem_cons_of_mem b hx)
    simp only [List.flatMap_cons, List.length_append, List.length_cons]
    omega

/-- A REACH payload fits a frame. -/
theorem ReachFields.length_bytes_le {f : ReachFields} (h : f.WellFormed) : f.bytes.length ≤ 480 := by
  obtain ⟨-, -, -, ⟨hplan, -⟩, hblocks, hpairs, hgrants, -⟩ := h
  have h1 := length_blocks_le fun b hb => (hgrants b hb).2.1
  have h2 := length_flatMap_const ClosingPair.bytes 9 f.pairs fun p _ => p.length_bytes
  have h3 := f.length_header_plan hplan
  rw [f.bytes_eq, ← List.append_assoc, List.length_append, h3, List.length_append, h2]
  omega

/-- A REACH payload gives its fields back (R189, R190). -/
theorem decodeReach_bytes {f : ReachFields} (h : f.WellFormed) : decodeReach f.bytes = some f := by
  obtain ⟨hkey, hquality, hflags, hlevel, hwatch, hblockCount, hpairCount⟩ := f.header_fields h
  obtain ⟨-, -, -, hplan, hblocks, hpairs, hgrants, hpairsFit⟩ := h
  have hhead := f.length_header_plan hplan.1
  have hbytes := f.bytes_eq
  have hplanAt : decodePlan f.bytes = f.plan := by rw [hbytes, decodePlan_planBytes hplan f.length_header]
  rw [← List.append_assoc] at hbytes
  have hdrop : f.bytes.drop 110 = f.blocks.flatMap GrantBlock.bytes ++ f.pairs.flatMap ClosingPair.bytes := by
    rw [hbytes, List.drop_left' hhead]
  have hlen : 110 ≤ f.bytes.length := by rw [hbytes, List.length_append, hhead]; omega
  have hrest := length_flatMap_const ClosingPair.bytes 9 f.pairs fun p _ => p.length_bytes
  rw [decodeReach, hblockCount, hpairCount, if_neg (by omega), hdrop, takeBlocks_flatMap _ hgrants]
  dsimp only
  rw [if_neg (by omega), hkey, hquality, hflags, hlevel, hwatch, hplanAt, takePairs_flatMap hpairsFit]

/-! ## The checks of R40 -/

/-- Bytes that are no frame of at most 480 payload bytes are refused. -/
theorem decodeFrame_of_no_frame {own : Nat} {frame : List Byte}
    (h : byteAt frame 0 ≠ lineSync ∨ frame.length ≠ 7 + fieldAt frame 3 2 ∨ 480 < fieldAt frame 3 2) :
    decodeFrame own frame = none := by
  refine if_pos ?_
  rw [List.length_take, List.length_drop]
  rcases h with h | h
  · exact .inr (.inl h)
  · omega

/-- A frame is refused when its check differs, its sender is 0, above 250 or the own number, its kind is neither, or its payload is none of
its kind. -/
theorem decodeFrame_eq_none_iff {own n : Nat} {frame : List Byte} (hsync : byteAt frame 0 = lineSync) (hn : fieldAt frame 3 2 = n)
    (hlen : frame.length = 7 + n) (hmax : n ≤ 480) :
    decodeFrame own frame = none ↔
      crcBytes ((frame.drop 1).take (n + 4)) ≠ frame.drop (n + 5) ∨ (fieldAt frame 2 1 = 0 ∨ 250 < fieldAt frame 2 1) ∨
      fieldAt frame 2 1 = own ∨ (byteAt frame 1 ≠ reachKind ∧ byteAt frame 1 ≠ watchKind) ∨ (byteAt frame 1 = watchKind ∧ n ≠ 8) ∨
      (byteAt frame 1 = reachKind ∧ decodeReach ((frame.drop 5).take n) = none) := by
  have hpay : ((frame.drop 5).take n).length = n := by rw [List.length_take, List.length_drop]; omega
  have hframe : ¬(frame.length < 7 ∨ byteAt frame 0 ≠ lineSync ∨ fieldAt frame 3 2 ≠ ((frame.drop 5).take n).length ∨
      480 < ((frame.drop 5).take n).length) := by
    rw [hpay]
    rintro (h | h | h | h)
    · omega
    · exact h hsync
    · exact h hn
    · omega
  unfold decodeFrame
  rw [show frame.length - 3 = n + 4 by omega, show frame.length - 7 = n by omega, show frame.length - 2 = n + 5 by omega]
  dsimp only
  rw [if_neg hframe]
  simp only [ite_eq_left_iff, ← Decidable.or_iff_not_imp_left, hpay]
  refine or_congr_right (or_congr_right (or_congr_right ?_))
  have hkinds : reachKind ≠ watchKind := by decide
  by_cases hreach : byteAt frame 1 = reachKind
  · simp [hreach, hkinds]
  · by_cases hwatch : byteAt frame 1 = watchKind
    · simp [hwatch, hkinds.symm]
    · simp [hreach, hwatch]

/-- The frame of a REACH notice gives its fields to another station. -/
theorem decodeFrame_reach {own sender : Nat} {f : ReachFields} (h1 : 1 ≤ sender) (h250 : sender ≤ 250) (hne : sender ≠ own)
    (h : f.WellFormed) : decodeFrame own (lineFrame reachKind sender f.bytes) = some (.reach sender f) := by
  rw [decodeFrame_lineFrame reachKind h1 h250 hne (f.length_bytes_le h), if_pos rfl, decodeReach_bytes h, Option.map_some]

/-- The frame of a WATCH notice gives its keys to another station. -/
theorem decodeFrame_watch {own sender key watchEnd : Nat} (h1 : 1 ≤ sender) (h250 : sender ≤ 250) (hne : sender ≠ own)
    (hkey : key < 2 ^ 32) (hwatch : watchEnd < 2 ^ 32) :
    decodeFrame own (lineFrame watchKind sender (watchBytes key watchEnd)) = some (.watch sender key watchEnd) := by
  have hlen : (watchBytes key watchEnd).length = 8 := by simp [watchBytes]
  have hkeyAt : fieldAt (watchBytes key watchEnd) 0 4 = key := fieldAt_toBytes hkey _
  have hwatchAt : fieldAt (watchBytes key watchEnd) 4 4 = watchEnd := by
    simpa [watchBytes, fieldAt_append] using fieldAt_toBytes (n := 4) hwatch []
  rw [decodeFrame_lineFrame watchKind h1 h250 hne (by omega), if_neg (by decide), if_pos rfl, if_pos hlen, hkeyAt, hwatchAt]

/-! ## The layout in the words of R189 and R190 -/

/-- A class is sent when some grant of it is not 0. -/
theorem classPresent_eq (xs : List ByClass) (c : WaterClass) : classPresent xs c = xs.any fun x => decide (x.get c ≠ 0) := by
  have hne (v : Nat) : (v != 0) = decide (v ≠ 0) := by cases v <;> rfl
  simp only [classPresent, hne]

/-- The byte of a mark is the number 1 or 0. -/
theorem markByte_eq (b : Bool) : markByte b = byte (if b then 1 else 0) := by cases b <;> rfl

/-- Settles O12: the layout, the two round trips, and the refusals check by check. -/
theorem canalNoticeRoundTrip : Obligations.CanalNoticeRoundTrip := by
  refine ⟨fun _ _ _ => rfl, ?layout, fun _ _ _ => decodeFrame_reach, fun _ _ _ _ => decodeFrame_watch, ?refused⟩
  case layout =>
    intro f each array block
    have hblock : GrantBlock.bytes = block := by
      funext b
      simp only [GrantBlock.bytes, funext (classPresent_eq b.grants)]
      rfl
    have hpair : ClosingPair.bytes = fun p => toBytes 4 p.key ++ toBytes 4 p.litres ++ byte (if p.estimated then 1 else 0) := by
      funext p
      rw [ClosingPair.bytes, markByte_eq]
    rw [ReachFields.bytes, hblock, hpair]
    rfl
  case refused =>
    intro own frame start n sender payload blocks pairs mask present hstart hwalk
    by_cases hframe : byteAt frame 0 ≠ 0xA7 ∨ frame.length ≠ 7 + n ∨ 480 < n
    · refine iff_of_true (decodeFrame_of_no_frame hframe) ?_
      rcases hframe with h | h | h
      · exact .inl h
      · exact .inr (.inl h)
      · exact .inr (.inr (.inl h))
    · simp only [not_or, Decidable.not_not, Nat.not_lt] at hframe
      obtain ⟨hsync, hlen, hmax⟩ := hframe
      have hpay : payload.length = n := by rw [List.length_take, List.length_drop]; omega
      have hstarts : BlockStarts payload start blocks := fun j hj => by rw [hwalk j hj, maskCount_eq_length]
      have hreach := decodeReach_eq_none_iff hstart hstarts
      rw [hpay] at hreach
      rw [or_iff_right (Decidable.not_not.2 hsync), or_iff_right (Decidable.not_not.2 hlen), or_iff_right (Nat.not_lt.2 hmax),
        decodeFrame_eq_none_iff hsync rfl hlen hmax, hreach, or_assoc]
      exact Iff.rfl

end Sys2Proof.Machine
end

section
/-! The frost watch: a request to send it, a rise of the watch end key, and WATCH_DECLARE (R50, R62 to R65). -/

namespace Sys2Proof.Machine

section

variable {s : State} {key : Nat}

/-! ## The WATCH request (R50) -/

/-- A WATCH request in RUN: a transmitter that is quiet with no holdoff wakes (R41, R47). -/
theorem State.requestWatch_of_running (h : s.running = true) :
    s.requestWatch = s.withLine
      (if s.line.tx = .quiet ∧ s.line.holdoff = none then { s.line with watchReq := true, tx := .gap }
       else { s.line with watchReq := true }) := by
  simp [State.requestWatch, State.working_of_running h, LineInterface.wake, LineInterface.asked, h, Option.isNone_iff_eq_none]

/-- A WATCH request in WAIT_TIME waits for RUN. -/
theorem State.requestWatch_of_waiting (hw : s.working = true) (h : s.running = false) :
    s.requestWatch = s.withLine { s.line with watchReq := true } := by
  simp [State.requestWatch, hw, LineInterface.wake, h]

/-! ## The rise of the watch end key (R62, R65) -/

/-- A value that is not greater changes nothing. -/
theorem State.raiseWatch_of_le (h : key ≤ s.neigh.watchEnd) : s.raiseWatch key = s := if_neg (Nat.not_lt.2 h)

/-- A greater value becomes the watch end key, with the alert and the request. -/
theorem State.raiseWatch_of_lt (h : s.neigh.watchEnd < key) :
    s.raiseWatch key = ((s.withNeigh { s.neigh with watchEnd := key }).raise .watchChanged).requestWatch := if_pos h

/-- The watch end key after a rise is the greater of the two. -/
theorem State.raiseWatch_watchEnd (s : State) (key : Nat) : (s.raiseWatch key).neigh.watchEnd = max s.neigh.watchEnd key := by
  rcases Nat.lt_or_ge s.neigh.watchEnd key with h | h
  · simp [State.raiseWatch_of_lt h, Nat.max_eq_right (Nat.le_of_lt h)]
  · simp [State.raiseWatch_of_le h, Nat.max_eq_left h]

/-- A rise in RUN, block by block. -/
theorem State.raiseWatch_of_running (h : s.neigh.watchEnd < key) (hrun : s.running = true) :
    s.raiseWatch key = { s with
      neigh := { s.neigh with watchEnd := key }
      alerts := s.alerts.raise .watchChanged
      line := if s.line.tx = .quiet ∧ s.line.holdoff = none then { s.line with watchReq := true, tx := .gap }
        else { s.line with watchReq := true } } := by
  have hrun' : ((s.withNeigh { s.neigh with watchEnd := key }).raise .watchChanged).running = true := hrun
  rw [State.raiseWatch_of_lt h, State.requestWatch_of_running hrun']
  rfl

/-- A rise in WAIT_TIME, block by block. -/
theorem State.raiseWatch_of_waiting (h : s.neigh.watchEnd < key) (hw : s.working = true) (hrun : s.running = false) :
    s.raiseWatch key = { s with
      neigh := { s.neigh with watchEnd := key }
      alerts := s.alerts.raise .watchChanged
      line := { s.line with watchReq := true } } := by
  have hw' : ((s.withNeigh { s.neigh with watchEnd := key }).raise .watchChanged).working = true := hw
  rw [State.raiseWatch_of_lt h, State.requestWatch_of_waiting hw' hrun]
  rfl

/-! ## WATCH_DECLARE (R63) -/

/-- WATCH_DECLARE in RUN is answered with what the Neighbour Table makes of it. -/
theorem exec_watchDeclare (key : Nat) (h : s.running = true) :
    exec (.watchDeclare key) s = .next ((s.declareWatch key).state.answer 0x13 (s.declareWatch key).result (s.declareWatch key).data
      ((s.declareWatch key).state.atHead (.watchDeclare key))) :=
  congrArg _ (State.serve_run _ _ _ h)

/-- An end key below the current key is refused. -/
theorem State.declareWatch_of_lt (h : key < s.curKey) : s.declareWatch key = s.refuse .badValue := if_pos h

/-- Any other end key is clamped and raises the watch end key; the reply carries the key in force. -/
theorem State.declareWatch_of_ge (h : s.curKey ≤ key) :
    s.declareWatch key = (s.raiseWatch (clampWatch s.settings.periodLength s.curKey key)).accept
      (toBytes 4 (s.raiseWatch (clampWatch s.settings.periodLength s.curKey key)).neigh.watchEnd) := if_neg (Nat.not_lt.2 h)

end

/-- Settles O28: a key that has passed is refused, and any other is a rise of the watch end key by the clamped key. -/
theorem watchDeclare : Obligations.WatchDeclare := by
  intro s key hrun c v line
  have hexec := exec_watchDeclare key hrun
  refine ⟨fun hpast => ?refused, fun hnow hrise => ?raised, fun hnow hkept => ?kept⟩
  case refused =>
    rw [hexec, State.declareWatch_of_lt hpast]
    rfl
  case raised =>
    rw [hexec, State.declareWatch_of_ge hnow, State.raiseWatch_of_running (key := clampWatch _ _ key) hrise hrun]
    rfl
  case kept =>
    rw [hexec, State.declareWatch_of_ge hnow, State.raiseWatch_of_le (key := clampWatch _ _ key) hkept]
    rfl

end Sys2Proof.Machine
end

section
/-! The Neighbour Table and the reach balance: the queue that closing pairs fill (R137 to R140), the notices that are taken (R40, R54 to R58),
and the loss of a silent neighbour (R59). -/

namespace Sys2Proof.Machine

section

variable {s : State}

/-! ## The closing pairs offered to the queue (R137) -/

/-- A pair fills the empty slot of its neighbour in the entry of its key. -/
theorem BalanceEntry.offer_of_empty {k : Nat} {p : ClosingPair} {e : BalanceEntry} (hkey : e.key = p.key)
    (h : e.slots[k]? = some none) : BalanceEntry.offer k p e =
      { e with slots := e.slots.set k (some (p.litres, p.estimated)), estimated := e.estimated || p.estimated } := if_pos ⟨hkey, h⟩

/-- A pair of another key, and one whose slot is filled or is none of the entry's, changes nothing. -/
theorem BalanceEntry.offer_of_not_empty {k : Nat} {p : ClosingPair} {e : BalanceEntry}
    (h : e.key ≠ p.key ∨ e.slots[k]? ≠ some none) : BalanceEntry.offer k p e = e := if_neg fun hc => h.elim (· hc.1) (· hc.2)

/-- Offering pairs to a queue one after the other is offering them to each of its entries. -/
theorem foldl_map_offer (k : Nat) (pairs : List ClosingPair) (queue : List BalanceEntry) :
    pairs.foldl (fun q p => q.map (BalanceEntry.offer k p)) queue =
      queue.map fun e => pairs.foldl (fun e p => BalanceEntry.offer k p e) e := by
  induction pairs generalizing queue with
  | nil => simp
  | cons p pairs ih => simp [ih]

/-! ## The evaluation of an entry (R139, R140) -/

/-- The unit with an evaluation recorded, the consecutive-loss count and the status. -/
def CloseUnit.evaluated (u : CloseUnit) (e : BalanceEntry) (r : BalanceResult) (count : Nat) (status : Bool) : CloseUnit :=
  { u with
    lastEval := some { key := e.key, unaccounted := e.unaccounted, result := r, estimated := e.estimated }
    lossCount := count, reachLoss := status }

section

variable {tolerance : Nat} {u : CloseUnit} {e : BalanceEntry}

/-- Without a storage change the entry is not judged, and the count and the status stay. -/
theorem CloseUnit.evaluate_unjudged (h : e.storage = none) :
    u.evaluate tolerance e = u.evaluated e .unjudged u.lossCount u.reachLoss := by
  have hresult : e.result tolerance = .unjudged := by simp only [BalanceEntry.result, h, Option.isNone_none, if_true]
  simp only [CloseUnit.evaluate, hresult]
  rfl

/-- Above the tolerance the count rises, and its third in a row sets the status. -/
theorem CloseUnit.evaluate_out {d : Int} (h : e.storage = some d) (hlost : tolerance < e.unaccounted.natAbs) :
    u.evaluate tolerance e =
      u.evaluated e .out (min (u.lossCount + 1) 255) (u.reachLoss || decide (u.lossCount + 1 = 3)) := by
  have hresult : e.result tolerance = .out := by
    simp only [BalanceEntry.result, h, Option.isNone_some, Bool.false_eq_true, if_false, hlost, if_true]
  simp only [CloseUnit.evaluate, hresult]
  rfl

/-- Within the tolerance the count and the status are cleared. -/
theorem CloseUnit.evaluate_within {d : Int} (h : e.storage = some d) (hlost : e.unaccounted.natAbs ≤ tolerance) :
    u.evaluate tolerance e = u.evaluated e .within 0 false := by
  have hresult : e.result tolerance = .within := by
    simp only [BalanceEntry.result, h, Option.isNone_some, Bool.false_eq_true, Nat.not_lt.2 hlost, if_false]
  simp only [CloseUnit.evaluate, hresult]
  rfl

/-- An evaluation leaves the queue. -/
@[simp] theorem CloseUnit.evaluate_queue (tolerance : Nat) (u : CloseUnit) (e : BalanceEntry) :
    (u.evaluate tolerance e).queue = u.queue := by
  simp only [CloseUnit.evaluate]; split <;> rfl

end

/-! ## The evaluation of the queue (R138) -/

/-- An entry is complete when none of its slots is empty. -/
theorem BalanceEntry.complete_iff (e : BalanceEntry) : e.complete = true ↔ ∀ x ∈ e.slots, x ≠ none := by
  simp [BalanceEntry.complete, List.all_eq_true, Option.isSome_iff_ne_none]

/-- A queue whose oldest entry is incomplete, or that is empty, is left. -/
theorem CloseUnit.drain_of_incomplete {u : CloseUnit} (tolerance n : Nat) (h : ∀ e, u.queue.head? = some e → e.complete = false) :
    u.drain tolerance n = (u, false) := by
  cases n with
  | zero => rfl
  | succ n =>
    rw [CloseUnit.drain]
    split
    · rfl
    · rename_i e rest hq
      simp [h e (by rw [hq]; rfl)]

/-- A complete entry at the oldest end is evaluated and leaves, and the rest of the queue follows. -/
theorem CloseUnit.drain_of_complete {u : CloseUnit} {e : BalanceEntry} {rest : List BalanceEntry} (tolerance n : Nat)
    (hq : u.queue = e :: rest) (h : e.complete = true) :
    let v := CloseUnit.evaluate tolerance { u with queue := rest } e
    u.drain tolerance (n + 1) = ((v.drain tolerance n).1, (v.reachLoss && !u.reachLoss) || (v.drain tolerance n).2) := by
  rw [CloseUnit.drain]
  simp [hq, h]

/-- With nothing complete at the oldest end the evaluation changes nothing. -/
theorem State.drainQueue_of_incomplete (h : ∀ e, s.close.queue.head? = some e → e.complete = false) : s.drainQueue = s := by
  simp only [State.drainQueue, CloseUnit.drain_of_incomplete _ _ h]
  rfl

/-- A cause raised twice is raised once. -/
theorem Alerts.raise_raise (a : Alerts) (c : Cause) : (a.raise c).raise c = a.raise c := by
  simp [Alerts.raise, BitVec.or_assoc]

/-- A cause raised on two conditions, with the Period Close Unit replaced before or between. -/
theorem State.raiseIf_or (s : State) (v w : CloseUnit) (a b : Bool) (c : Cause) :
    (s.withClose w).raiseIf (a || b) c = (((s.withClose v).raiseIf a c).withClose w).raiseIf b c := by
  cases a <;> cases b <;> simp [State.raiseIf, State.raise, State.withAlerts, State.withClose, Alerts.raise_raise]

/-- A complete entry at the oldest end is evaluated and leaves; REACH_LOSS is raised when its status comes into force; and the rest follows. -/
theorem State.drainQueue_of_complete {e : BalanceEntry} {rest : List BalanceEntry} (h : e.complete = true) :
    let v := CloseUnit.evaluate s.settings.reach.lossTolerance { s.close with queue := rest } e
    (s.withClose { s.close with queue := e :: rest }).drainQueue =
      ((s.withClose v).raiseIf (v.reachLoss && !s.close.reachLoss) .reachLoss).drainQueue := by
  intro v
  have hdrain := CloseUnit.drain_of_complete (u := { s.close with queue := e :: rest }) s.settings.reach.lossTolerance rest.length rfl h
  have hq : v.queue = rest := by simp [v]
  simp only [State.drainQueue, State.withClose_close, State.withClose_settings, List.length_cons, hdrain, State.raiseIf_frame, hq]
  exact State.raiseIf_or s v _ _ _ .reachLoss

/-! ## A frame on the canal line (R40, R54) -/

/-- The part with a complete frame taken from the receiver. -/
def State.frameTaken (s : State) (frame : List Byte) : State := s.withLine { s.line with arrived := dropHead s.line.arrived frame }

section

variable {frame : List Byte}

/-- A part that does not listen discards the frame. -/
theorem exec_lineFrameReceived_of_deaf (h : s.listening = false) :
    exec (.lineFrameReceived frame) s = .next (s.frameTaken frame) := if_neg (Bool.eq_false_iff.1 h)

/-- A frame that fails a check is discarded. -/
theorem exec_lineFrameReceived_of_none (h : decodeFrame s.settings.station.number frame = none) :
    exec (.lineFrameReceived frame) s = .next (s.frameTaken frame) := by
  change execLineFrameReceived frame s = _
  simp [execLineFrameReceived, State.frameTaken, h]

/-- A part that listens hands the notice of a good frame to the Neighbour Table. -/
theorem exec_lineFrameReceived_of_some {n : Notice} (h : s.listening = true)
    (hn : decodeFrame s.settings.station.number frame = some n) :
    exec (.lineFrameReceived frame) s = .next ((s.frameTaken frame).takeNotice n) := by
  have hl : (s.frameTaken frame).listening = true := h
  change execLineFrameReceived frame s = _
  simp only [State.frameTaken] at hl
  simp [execLineFrameReceived, State.frameTaken, hn, hl]

/-- The part listens in a working start state while it does not send. -/
theorem State.listening_iff : s.listening = true ↔ s.working = true ∧ s.line.tx ≠ .sending := by
  simp [State.listening]

end

/-! ## The notice sorted (R54, R55, R64) -/

/-- The keys of a notice in step differ by 1 or less. -/
theorem inStep_iff {key current : Nat} : inStep key current = true ↔ key ≤ current + 1 ∧ current ≤ key + 1 := by
  simp [inStep]

section

variable {sender key watchEnd i : Nat} {f : ReachFields} {e : Entry}

/-- Outside RUN a WATCH notice merges the watch, whatever its key. -/
theorem State.takeNotice_watch_of_not_run (h : s.startup.state ≠ .run) :
    s.takeNotice (.watch sender key watchEnd) = s.mergeWatch watchEnd := if_neg fun hc => h hc.1

/-- Outside RUN a REACH notice merges the watch alone. -/
theorem State.takeNotice_reach_of_not_run (h : s.startup.state ≠ .run) :
    s.takeNotice (.reach sender f) = s.mergeWatch f.watchEnd := if_neg h

/-- A WATCH notice in step merges the watch. -/
theorem State.takeNotice_watch_of_inStep (h : inStep key s.curKey = true) :
    s.takeNotice (.watch sender key watchEnd) = s.mergeWatch watchEnd := if_neg (by simp [h])

/-- In RUN a WATCH notice out of step is discarded. -/
theorem State.takeNotice_watch_of_outOfStep (hrun : s.startup.state = .run) (h : inStep key s.curKey = false) :
    s.takeNotice (.watch sender key watchEnd) = s := if_pos ⟨hrun, by simp [h]⟩

/-- No entry has the station's number. -/
theorem NeighbourTable.indexOf_of_none {n : NeighbourTable} (h : ∀ e ∈ n.entries, e.station ≠ sender) : n.indexOf sender = none := by
  simpa [NeighbourTable.indexOf, List.findIdx?_eq_none_iff] using h

/-- The first entry that has it. -/
theorem NeighbourTable.indexOf_of_first {n : NeighbourTable} (he : n.entries[i]? = some e) (hs : e.station = sender)
    (h : ∀ j d, j < i → n.entries[j]? = some d → d.station ≠ sender) : n.indexOf sender = some i := by
  obtain ⟨hi, hget⟩ := List.getElem?_eq_some_iff.1 he
  rw [NeighbourTable.indexOf, List.findIdx?_eq_some_iff_getElem]
  refine ⟨hi, by simpa [hget] using hs, fun j hj => ?_⟩
  simpa using h j _ hj (List.getElem?_eq_getElem (Nat.lt_trans hj hi))

/-- A REACH notice of a station that is no neighbour: in step it merges the watch. -/
theorem State.takeNotice_reach_of_stranger (hrun : s.startup.state = .run) (h : s.neigh.indexOf sender = none) :
    s.takeNotice (.reach sender f) = if inStep f.key s.curKey then s.mergeWatch f.watchEnd else s := by
  simp [State.takeNotice, hrun, h]

/-- A REACH notice of a neighbour: in step it is accepted and merges the watch, out of step it marks the entry. -/
theorem State.takeNotice_reach_of_neighbour (hrun : s.startup.state = .run) (he : s.neigh.entries[i]? = some e)
    (h : s.neigh.indexOf sender = some i) :
    s.takeNotice (.reach sender f) = if inStep f.key s.curKey then (s.acceptNotice i e f).mergeWatch f.watchEnd
      else s.putEntry i { e with outOfStep := true } := by
  cases hstep : inStep f.key s.curKey <;> simp [State.takeNotice, hrun, h, he, hstep]

/-! ## The acceptance (R56 to R58) -/

/-- The entry after an acceptance, field by field. -/
theorem Entry.accept_eq (own now : Nat) (f : ReachFields) (e : Entry) :
    e.accept own now f = { e with
      state := .fresh
      content := some { senderKey := f.key, quality := f.quality, flags := f.flags, level := f.level, plan := f.plan
                        grant := if e.role = .upstream then grantFor own f.blocks else none, pairs := f.pairs }
      receipt := some now, outOfStep := false
      mismatch := decide (e.role = .upstream ∧ grantFor own f.blocks = none) } := by
  have hnone : (grantFor own f.blocks).isNone = decide (grantFor own f.blocks = none) := by
    cases grantFor own f.blocks <;> rfl
  rw [Entry.accept, hnone, ← Bool.decide_and]
  rfl

/-- An acceptance changes the entry in its state, its content or its mismatch mark. -/
theorem Entry.changed_iff {old new : Entry} :
    Entry.changed old new = true ↔ old.state ≠ new.state ∨ old.content ≠ new.content ∨ old.mismatch ≠ new.mismatch := by
  simp [Entry.changed, or_assoc]

/-- The closing pairs of an accepted notice handed on by the role of its entry (R58). -/
def State.handPairs (s : State) (role : Role) (f : ReachFields) : State :=
  match role with
  | .upstream => s
  | .downstream j => s.offerPairs (j - 1) f.pairs

/-- An acceptance: the entry put, NEIGHBOUR_BACK unless it was FRESH, the pairs handed on, and a recompute on a change. -/
theorem State.acceptNotice_eq (s : State) (i : Nat) (e : Entry) (f : ReachFields) :
    let e' := e.accept s.settings.station.number s.time.elapsed f
    let v := if e.state = .fresh then s.putEntry i e' else (s.putEntry i e').raise .neighbourBack
    s.acceptNotice i e f = if Entry.changed e e' then (v.handPairs e.role f).recompute else v.handPairs e.role f := by
  intro e' v
  have hv : (s.putEntry i e').raiseIf (e.state != .fresh) .neighbourBack = v := by
    cases h : e.state <;> simp [v, State.raiseIf, h]
  rw [State.acceptNotice, hv]
  rfl

end

/-! ## Hold expiry (R59) -/

/-- A FRESH entry at its hold time is lost. -/
theorem exec_holdExpiry_of_due {i : Nat} (hrun : s.running = true) (h : s.holdDue i = true) :
    exec (.holdExpiry i) s = .next (s.loseEntry i) := if_pos (by simp [hrun, h])

/-- The hold time of a FRESH entry runs from its receipt. -/
theorem State.holdDue_of_fresh {i x : Nat} {e : Entry} (he : s.neigh.entries[i]? = some e) (hf : e.state = .fresh)
    (hr : e.receipt = some x) (h : x + s.settings.neighbours.holdTime * 1000 ≤ s.time.elapsed) : s.holdDue i = true := by
  simp [State.holdDue, he, hf, hr, timerDue, h]

/-- A lost entry: LOST, the alert, and a recompute. -/
theorem State.loseEntry_of_some {i : Nat} {e : Entry} (he : s.neigh.entries[i]? = some e) :
    s.loseEntry i = ((s.putEntry i { e with state := .lost }).raise .neighbourLost).recompute := by
  simp [State.loseEntry, he]

end

/-- Settles O52: the frame by the start state and its notice, the merge, the hold expiry, and the balance queue. -/
theorem noticesReceived : Obligations.NoticesReceived := by
  refine ⟨?frame, ?merge, ?hold, ?pairs, ?queue, ?evaluation⟩
  case frame =>
    intro s frame hp c u own near
    have hstep (key : Nat) : inStep key u.curKey = true ↔ near key := inStep_iff
    have hfar {key : Nat} (h : ¬near key) : inStep key u.curKey = false := Bool.eq_false_iff.2 fun h' => h ((hstep key).1 h')
    refine ⟨fun h => ?discarded, fun hstate htx => ?waiting, fun hstate htx => ?running⟩
    case discarded =>
      rcases h with h | h | h | h
      · exact exec_lineFrameReceived_of_deaf (by simp [State.listening, State.working, h])
      · exact exec_lineFrameReceived_of_deaf (by simp [State.listening, State.working, h])
      · exact exec_lineFrameReceived_of_deaf (by simp [State.listening, h])
      · exact exec_lineFrameReceived_of_none h
    case waiting =>
      have hl : s.listening = true := State.listening_iff.2 ⟨State.working_iff.2 ⟨hp, .inl hstate⟩, htx⟩
      have hnot : u.startup.state ≠ .run := by rw [show u.startup.state = _ from hstate]; decide
      refine ⟨fun sender key w hn => ?_, fun sender f hn => ?_⟩
      · rw [exec_lineFrameReceived_of_some hl hn]
        exact congrArg _ (State.takeNotice_watch_of_not_run hnot)
      · rw [exec_lineFrameReceived_of_some hl hn]
        exact congrArg _ (State.takeNotice_reach_of_not_run hnot)
    case running =>
      have hl : s.listening = true := State.listening_iff.2 ⟨State.working_iff.2 ⟨hp, .inr hstate⟩, htx⟩
      have hrun : u.startup.state = .run := hstate
      have hexec {n : Notice} (hn : decodeFrame own frame = some n) : exec c s = .next (u.takeNotice n) :=
        exec_lineFrameReceived_of_some hl hn
      refine ⟨fun sender key w hn => ⟨fun h => ?_, fun h => ?_⟩, fun sender f hn => ⟨fun hstranger => ?_, ?neighbour⟩⟩
      · rw [hexec hn, State.takeNotice_watch_of_inStep ((hstep key).2 h)]
      · rw [hexec hn, State.takeNotice_watch_of_outOfStep hrun (hfar h)]
      · rw [hexec hn, State.takeNotice_reach_of_stranger hrun (NeighbourTable.indexOf_of_none hstranger)]
        exact ⟨fun h => by rw [if_pos ((hstep _).2 h)], fun h => by rw [hfar h]; rfl⟩
      case neighbour =>
        intro i e he hs hfirst block e' put
        rw [hexec hn, State.takeNotice_reach_of_neighbour hrun he (NeighbourTable.indexOf_of_first he hs hfirst)]
        refine ⟨fun h => by rw [hfar h]; rfl, fun h => ?_⟩
        have hrecord : e.accept u.settings.station.number u.time.elapsed f = e' := Entry.accept_eq own s.time.elapsed f e
        rw [if_pos ((hstep _).2 h), State.acceptNotice_eq, hrecord]
        let v : State := if e.state = .fresh then put e' else (put e').raise .neighbourBack
        refine ⟨v, v.handPairs e.role f, _, rfl, rfl, fun hr => ?_, fun j hr => ?_, ?_⟩
        · rw [hr]; rfl
        · rw [hr]; rfl
        · simp only [Entry.changed_iff]; rfl
  case merge =>
    exact fun s key => ⟨State.raiseWatch_of_le, State.raiseWatch_of_running, State.raiseWatch_of_waiting⟩
  case hold =>
    intro s i e x hrun he hf hr hdue
    rw [exec_holdExpiry_of_due hrun (State.holdDue_of_fresh he hf hr hdue), State.loseEntry_of_some he]
    rfl
  case pairs =>
    intro s k pairs filled
    refine ⟨?_, fun p e => ⟨BalanceEntry.offer_of_empty, BalanceEntry.offer_of_not_empty⟩⟩
    rw [State.offerPairs, foldl_map_offer]
  case queue =>
    intro s tolerance
    refine ⟨fun h => State.drainQueue_of_incomplete fun e he => ?_, fun e rest h => ?_⟩
    · obtain ⟨x, hx, hnone⟩ := h e he
      exact Bool.eq_false_iff.2 fun hc => e.complete_iff.1 hc x hx hnone
    · intro full v
      rw [show full.drainQueue = _ from State.drainQueue_of_complete (e.complete_iff.2 h)]
      simp only [State.raiseIf, Bool.and_eq_true, Bool.not_eq_true']
      rfl
  case evaluation =>
    exact fun tolerance u e => ⟨CloseUnit.evaluate_unjudged, fun d => CloseUnit.evaluate_out, fun d => CloseUnit.evaluate_within⟩

end Sys2Proof.Machine
end

section
/-! The watch end key over a step (R62): most commands leave the Neighbour Table, the notices and WATCH_DECLARE raise the key, and only a cold
start brings it down. -/

namespace Sys2Proof.Machine

variable {s : State}

/-! ## What the owners of the link commands leave of the Neighbour Table -/

@[simp] theorem State.read_state (data : Option (List Byte)) (r : ResultCode) : (s.read data r).state = s := by
  cases data <;> rfl

theorem State.takeSupply_neigh (flow : Nat) : (s.takeSupply flow).state.neigh = s.neigh := by
  unfold State.takeSupply; split <;> simp

theorem State.takeTarget_neigh (level : Nat) : (s.takeTarget level).state.neigh = s.neigh := by
  unfold State.takeTarget; split
  · rfl
  · split <;> rfl

theorem State.takeOrder_neigh (r : OrderRequest) : (s.takeOrder r).state.neigh = s.neigh := by
  unfold State.takeOrder; split
  · rfl
  · split <;> simp

theorem State.takeCancel_neigh (number : Nat) : (s.takeCancel number).state.neigh = s.neigh := by
  unfold State.takeCancel; split
  · rfl
  · split <;> simp

theorem State.takeShutoff_neigh (number : Nat) : (s.takeShutoff number).state.neigh = s.neigh := by
  unfold State.takeShutoff; split
  · rfl
  · split <;> simp

theorem State.takeAccount_neigh (index allotment limit state : Nat) :
    (s.takeAccount index allotment limit state).state.neigh = s.neigh := by
  unfold State.takeAccount; dsimp only; split
  · rfl
  · split
    · rfl
    · split <;> rfl

theorem State.takeRates_neigh (table : RateTable) : (s.takeRates table).state.neigh = s.neigh := by
  unfold State.takeRates; split <;> rfl

theorem State.takeRelease_neigh (count : Nat) : (s.takeRelease count).state.neigh = s.neigh := by simp [State.takeRelease]

theorem State.takeSeasonClose_neigh : s.takeSeasonClose.state.neigh = s.neigh := by
  unfold State.takeSeasonClose; split
  · rfl
  · split <;> simp

theorem State.takeAck_neigh (marks : BitVec 24) : (s.takeAck marks).state.neigh = s.neigh := by
  unfold State.takeAck; split <;> simp

theorem State.takeMask_neigh (marks : BitVec 24) : (s.takeMask marks).state.neigh = s.neigh := by
  unfold State.takeMask; split <;> rfl

theorem State.takeGateMode_neigh (mode opening : Nat) : (s.takeGateMode mode opening).state.neigh = s.neigh := by
  unfold State.takeGateMode; split <;> rfl

theorem State.takeTripClear_neigh : s.takeTripClear.state.neigh = s.neigh := by
  unfold State.takeTripClear; dsimp only; split <;> rfl

theorem State.firstTime_neigh (t : DistrictTime) : (s.firstTime t).neigh = s.neigh := by simp [State.firstTime]

theorem State.takeTimeSet_neigh (t : DistrictTime) : (s.takeTimeSet t).state.neigh = s.neigh := by
  unfold State.takeTimeSet; split
  · rfl
  · split
    · exact State.firstTime_neigh t
    · split <;> simp

theorem State.takeTimeTrim_neigh (x : Int) : (s.takeTimeTrim x).state.neigh = s.neigh := by
  unfold State.takeTimeTrim; split <;> simp

theorem State.takeService_neigh (i direction : Nat) : (s.takeService i direction).state.neigh = s.neigh := by
  unfold State.takeService
  repeat' split
  all_goals simp

theorem State.takeTurnoutAck_neigh (i : Nat) (marks : Byte) : (s.takeTurnoutAck i marks).state.neigh = s.neigh := by
  unfold State.takeTurnoutAck; split
  · rfl
  · split <;> rfl

theorem State.loadBytes_neigh (offset : Nat) (bytes : List Byte) : (s.loadBytes offset bytes).state.neigh = s.neigh := by
  unfold State.loadBytes; dsimp only; split
  · rfl
  · split
    · rfl
    · split <;> rfl

/-! ## What each command leaves of the Neighbour Table -/

/-- The answer of a step leaves the Neighbour Table of a state. -/
def LeavesNeigh (s : State) (o : Out) : Prop := ∀ t, o = .next t → t.neigh = s.neigh

/-- A next state with the same Neighbour Table. -/
theorem leavesNeigh_next {t : State} (h : t.neigh = s.neigh) : LeavesNeigh s (.next t) := by
  rintro _ ⟨⟩; exact h

/-- Two answers that a condition chooses between. -/
theorem leavesNeigh_if {p : Prop} [Decidable p] {a b : Out} (ha : LeavesNeigh s a) (hb : LeavesNeigh s b) :
    LeavesNeigh s (if p then a else b) := by
  split
  · exact ha
  · exact hb

/-- An event row: under its condition it leaves the Neighbour Table, and otherwise the whole state. -/
theorem leavesNeigh_ite {p : Prop} [Decidable p] {t : State} (h : t.neigh = s.neigh) :
    LeavesNeigh s (if p then .next t else .next s) := leavesNeigh_if (leavesNeigh_next h) (leavesNeigh_next rfl)

/-- A command leaves the Neighbour Table that its owner leaves; refused by the start state, or without supply, the one it found. -/
theorem State.serve_neigh (c : Instr) (kind : Byte) (k : Service) (body : Served) :
    (s.serve c kind k body).neigh =
      if s.startup.powered = true ∧ k.refusal s.startup.state = none then body.state.neigh else s.neigh := by
  cases hp : s.startup.powered with
  | false => simp [State.serve_of_unpowered c kind k body hp]
  | true =>
    cases hk : k.refusal s.startup.state with
    | none => simp [State.serve_of_served c kind k body hp hk]
    | some r => simp [State.serve_of_refused c kind k body hp hk]

/-- A served command leaves the Neighbour Table when its owner does. -/
theorem leavesNeigh_serve {c : Instr} {kind : Byte} {k : Service} {body : Served} (h : body.state.neigh = s.neigh) :
    LeavesNeigh s (.next (s.serve c kind k body)) :=
  leavesNeigh_next (by rw [State.serve_neigh, h, ite_self])

/-- The commands that may write the Neighbour Table: those of the reset, the supply, the start and the reply to RESTART, and its own. -/
def mayWriteNeigh : Instr → Bool
  | .resetRelease _ _ _ | .supplyLoss | .imageReadComplete _ | .configEnd | .replySent
  | .lineFrameReceived _ | .holdExpiry _ | .watchDeclare _ => true
  | _ => false

/-- Every other command leaves the Neighbour Table. -/
theorem exec_leavesNeigh (c : Instr) (s : State) (hc : mayWriteNeigh c = false) : LeavesNeigh s (exec c s) := by
  cases c with
  | resetRelease _ _ _ | supplyLoss | imageReadComplete _ | configEnd | replySent | lineFrameReceived _ | holdExpiry _
  | watchDeclare _ => cases hc
  -- the Time Base
  | catchUp => exact leavesNeigh_next (by simp)
  | periodBoundary => exact leavesNeigh_ite (by simp)
  | crystalStop =>
    exact leavesNeigh_if (leavesNeigh_next rfl) (leavesNeigh_if (leavesNeigh_next rfl) (leavesNeigh_next rfl))
  | crystalRunning => exact leavesNeigh_if (leavesNeigh_next rfl) (leavesNeigh_next rfl)
  | timeSet _ _ _ _ => exact leavesNeigh_serve (State.takeTimeSet_neigh _)
  | timeTrim x => exact leavesNeigh_serve (State.takeTimeTrim_neigh x)
  -- the period events
  | planPeriodChange | gatePeriodBoundary | meterPeriodClose | periodClose | billingDayClose =>
    simp only [exec, execPlanPeriodChange, execGatePeriodBoundary, execMeterPeriodClose, execPeriodClose, execBillingDayClose]
    split
    · exact leavesNeigh_ite (by simp)
    · exact leavesNeigh_next rfl
  -- the Line Interface
  | lineCharacterReceived _ _ => exact leavesNeigh_ite (by simp)
  | lineFrameGap => exact leavesNeigh_ite (by simp)
  | accessGapReached => exact leavesNeigh_ite (by simp)
  | collision => exact leavesNeigh_ite (by simp)
  | backoffExpiry => exact leavesNeigh_ite (by simp)
  | noticeComplete => exact leavesNeigh_ite (by simp)
  | holdoffExpiry => exact leavesNeigh_ite (by simp)
  | noticeTimerExpiry => exact leavesNeigh_ite (by simp)
  | noticeNow => exact leavesNeigh_serve (by simp)
  -- the Gate Controller
  | levelSample record =>
    refine leavesNeigh_if ?_ (leavesNeigh_next rfl)
    split <;> exact leavesNeigh_next (by simp)
  | sampleWatchExpiry => exact leavesNeigh_ite (by simp)
  | encoderStep _ => exact leavesNeigh_ite (by simp)
  | limitInputChange _ _ =>
    exact leavesNeigh_if (leavesNeigh_next rfl)
      (leavesNeigh_if (leavesNeigh_next rfl) (leavesNeigh_if (leavesNeigh_next (by simp)) (leavesNeigh_next rfl)))
  | restExpiry => exact leavesNeigh_ite (by simp)
  | stallExpiry => exact leavesNeigh_ite (by simp)
  | supplyLowChange _ =>
    exact leavesNeigh_if (leavesNeigh_next rfl) (leavesNeigh_if (leavesNeigh_next rfl) (leavesNeigh_next rfl))
  | tripInputChange _ =>
    exact leavesNeigh_if (leavesNeigh_next rfl) (leavesNeigh_if (leavesNeigh_next (by simp)) (leavesNeigh_next rfl))
  | tripWaitExpiry => exact leavesNeigh_ite (by simp)
  | gateMode _ _ => exact leavesNeigh_serve (State.takeGateMode_neigh _ _)
  | tripClear => exact leavesNeigh_serve State.takeTripClear_neigh
  -- the Meter Unit
  | meterPulse _ => exact leavesNeigh_ite (by simp)
  | noFlowExpiry _ => exact leavesNeigh_ite (by simp)
  | turnoutService _ _ => exact leavesNeigh_serve (State.takeService_neigh _ _)
  | turnoutAck _ _ => exact leavesNeigh_serve (State.takeTurnoutAck_neigh _ _)
  -- the Station Link and the alerts
  | linkCharacterReceived _ _ => exact leavesNeigh_ite (by simp)
  | linkFrameReceived _ _ => exact leavesNeigh_ite (by simp)
  | linkFrameGap => exact leavesNeigh_ite (by simp)
  | check _ | unknownCommand _ => exact leavesNeigh_serve rfl
  | alertAck marks => exact leavesNeigh_serve (State.takeAck_neigh marks)
  | alertMask marks => exact leavesNeigh_serve (State.takeMask_neigh marks)
  | moderationExpiry => exact leavesNeigh_ite (by simp)
  -- the reads
  | statusRead _ | planRead _ | orderQuery _ | accountQuery _ | turnoutQuery _ => exact leavesNeigh_serve (by rw [State.read_state])
  | bookList | logRead _ | alertRead => exact leavesNeigh_serve rfl
  -- the Order Book and the Planner
  | orderPlace r => exact leavesNeigh_serve (State.takeOrder_neigh r)
  | orderCancel _ => exact leavesNeigh_serve (State.takeCancel_neigh _)
  | orderShutoff _ => exact leavesNeigh_serve (State.takeShutoff_neigh _)
  | supplySet _ => exact leavesNeigh_serve (State.takeSupply_neigh _)
  | targetStage _ => exact leavesNeigh_serve (State.takeTarget_neigh _)
  -- the Billing Unit
  | accountSet _ _ _ _ => exact leavesNeigh_serve (State.takeAccount_neigh _ _ _ _)
  | ratesStage _ => exact leavesNeigh_serve (State.takeRates_neigh _)
  | logRelease _ => exact leavesNeigh_serve (State.takeRelease_neigh _)
  | seasonClose => exact leavesNeigh_serve State.takeSeasonClose_neigh
  -- the Start-up Controller
  | configData _ _ => exact leavesNeigh_serve (State.loadBytes_neigh _ _)
  | restart => exact leavesNeigh_serve rfl

/-! ## The commands that write the Neighbour Table -/

/-- A merge of the watch raises the key or leaves it (R64). -/
theorem State.le_mergeWatch_watchEnd (s : State) (key : Nat) : s.neigh.watchEnd ≤ (s.mergeWatch key).neigh.watchEnd := by
  rw [State.mergeWatch, State.raiseWatch_watchEnd]
  exact Nat.le_max_left _ _

/-- An acceptance writes the entries alone. -/
@[simp] theorem State.acceptNotice_watchEnd (i : Nat) (e : Entry) (f : ReachFields) :
    (s.acceptNotice i e f).neigh.watchEnd = s.neigh.watchEnd := by
  simp [State.acceptNotice, State.putEntry]

/-- An index that a station has is that of an entry. -/
theorem NeighbourTable.getElem?_of_indexOf {n : NeighbourTable} {station i : Nat} (h : n.indexOf station = some i) :
    ∃ e, n.entries[i]? = some e := by
  obtain ⟨hi, -⟩ := List.findIdx?_eq_some_iff_getElem.1 h
  exact ⟨_, List.getElem?_eq_getElem hi⟩

/-- A WATCH notice raises the key or leaves it. -/
theorem State.le_takeNotice_watch_watchEnd (s : State) (sender key watchEnd : Nat) :
    s.neigh.watchEnd ≤ (s.takeNotice (.watch sender key watchEnd)).neigh.watchEnd := by
  unfold State.takeNotice
  dsimp only
  split
  · exact Nat.le_refl _
  · exact s.le_mergeWatch_watchEnd watchEnd

/-- A REACH notice raises the key or leaves it, whatever it makes of its sender's entry. -/
theorem State.le_takeNotice_reach_watchEnd (s : State) (sender : Nat) (f : ReachFields) :
    s.neigh.watchEnd ≤ (s.takeNotice (.reach sender f)).neigh.watchEnd := by
  by_cases hrun : s.startup.state = .run
  · cases hi : s.neigh.indexOf sender with
    | none =>
      rw [State.takeNotice_reach_of_stranger hrun hi]
      split
      · exact s.le_mergeWatch_watchEnd _
      · exact Nat.le_refl _
    | some i =>
      obtain ⟨e, he⟩ := NeighbourTable.getElem?_of_indexOf hi
      rw [State.takeNotice_reach_of_neighbour hrun he hi]
      split
      · exact Nat.le_trans (Nat.le_of_eq (State.acceptNotice_watchEnd i e f).symm) (State.le_mergeWatch_watchEnd _ _)
      · exact Nat.le_refl _
  · rw [State.takeNotice_reach_of_not_run hrun]
    exact s.le_mergeWatch_watchEnd _

/-- A lost entry leaves the key. -/
theorem State.loseEntry_watchEnd (i : Nat) : (s.loseEntry i).neigh.watchEnd = s.neigh.watchEnd := by
  unfold State.loseEntry; split <;> simp [State.putEntry]

/-- WATCH_DECLARE raises the key or leaves it (R63). -/
theorem State.le_declareWatch_watchEnd (s : State) (key : Nat) : s.neigh.watchEnd ≤ (s.declareWatch key).state.neigh.watchEnd := by
  rcases Nat.lt_or_ge key s.curKey with h | h
  · exact Nat.le_of_eq (by rw [State.declareWatch_of_lt h, State.refuse_state])
  · rw [State.declareWatch_of_ge h, State.accept_state, State.raiseWatch_watchEnd]
    exact Nat.le_max_left _ _

/-- The part as a cold start leaves it: the watch end key 0, in WAIT_TIME (R62, R184). -/
def State.ColdStarted (t : State) : Prop :=
  t.neigh.watchEnd = 0 ∧ t.startup.state = .waitTime ∧ t.startup.lastStart = some .cold

/-- Both kinds of start form the entries and leave the key. -/
@[simp] theorem State.startBlocks_watchEnd (c : Config.Settings) (kind : StartKind) (planKey : Nat) :
    (s.startBlocks c kind planKey).neigh.watchEnd = s.neigh.watchEnd := by
  simp [State.startBlocks]

theorem State.coldStart_coldStarted (s : State) (m : Image) : (s.coldStart m).ColdStarted := by
  refine ⟨?_, rfl, rfl⟩
  simp [State.coldStart, State.markCold, State.coldBlocks]

theorem State.warmStart_watchEnd (m : Image) : (s.warmStart m).neigh.watchEnd = s.neigh.watchEnd := by
  simp [State.warmStart]

/-- A start leaves the key, or is a cold one. -/
theorem State.startWith_watchEnd (s : State) (m : Image) :
    (s.startWith m).neigh.watchEnd = s.neigh.watchEnd ∨ (s.startWith m).ColdStarted := by
  unfold State.startWith
  split
  · exact .inr (s.coldStart_coldStarted m)
  · exact .inl (State.warmStart_watchEnd m)

theorem State.takeMemoryImage_watchEnd (s : State) (image : List Byte) :
    (s.takeMemoryImage image).neigh.watchEnd = s.neigh.watchEnd ∨ (s.takeMemoryImage image).ColdStarted := by
  unfold State.takeMemoryImage
  split
  · exact s.startWith_watchEnd _
  · split <;> exact .inl rfl

theorem State.takeLinkImage_watchEnd (s : State) (image : List Byte) :
    (s.takeLinkImage image).neigh.watchEnd = s.neigh.watchEnd ∨ (s.takeLinkImage image).ColdStarted := by
  unfold State.takeLinkImage
  split
  · exact s.startWith_watchEnd _
  · exact .inl rfl

/-- The end of a load leaves the key, or is a cold start. -/
theorem State.endLoad_watchEnd (s : State) :
    s.endLoad.state.neigh.watchEnd = s.neigh.watchEnd ∨ s.endLoad.state.ColdStarted := by
  unfold State.endLoad
  split
  · exact .inl rfl
  · exact s.takeLinkImage_watchEnd _

/-! ## The rule of R62 -/

/-- Between two states the key falls at most by a cold start out of LOADING or CONFIG_FAULT (R62). -/
def WatchRule (s t : State) : Prop :=
  s.neigh.watchEnd ≤ t.neigh.watchEnd ∨
    (t.ColdStarted ∧ s.startup.powered = true ∧ (s.startup.state = .loading ∨ s.startup.state = .configFault))

section

variable {t : State}

/-- The image is read in LOADING, and may lead to a cold start. -/
theorem exec_imageReadComplete_watchRule (image : List Byte) (h : exec (.imageReadComplete image) s = .next t) : WatchRule s t := by
  change execImageReadComplete image s = .next t at h
  unfold execImageReadComplete at h
  split at h
  · rename_i hc
    simp only [Bool.and_eq_true, beq_iff_eq] at hc
    obtain ⟨⟨hp, hs⟩, -⟩ := hc
    cases h
    rcases s.takeMemoryImage_watchEnd (image.take (headerLength image)) with h | h
    · exact .inl (Nat.le_of_eq h.symm)
    · exact .inr ⟨h, hp, .inl hs⟩
  · cases h
    exact .inl (Nat.le_refl _)

/-- CONFIG_END is served in LOADING and CONFIG_FAULT, and may lead to a cold start. -/
theorem exec_configEnd_watchRule (h : exec .configEnd s = .next t) : WatchRule s t := by
  cases h
  by_cases hserved : s.startup.powered = true ∧ Service.load.refusal s.startup.state = none
  · obtain ⟨hp, hk⟩ := hserved
    have hs : s.startup.state = .loading ∨ s.startup.state = .configFault := by
      revert hk; cases s.startup.state <;> simp [Service.refusal]
    rw [State.serve_of_served _ _ _ _ hp hk]
    rcases s.endLoad_watchEnd with h | h
    · exact .inl (Nat.le_of_eq h.symm)
    · exact .inr ⟨h, hp, hs⟩
  · refine .inl (Nat.le_of_eq ?_)
    rw [State.serve_neigh, if_neg hserved]

/-- The reply to RESTART leads to LOADING, which keeps the key (R179). -/
theorem exec_replySent_watchEnd (h : exec .replySent s = .next t) : t.neigh.watchEnd = s.neigh.watchEnd := by
  change execReplySent s = .next t at h
  unfold execReplySent at h
  split at h
  · cases h; rfl
  · dsimp only at h
    split at h <;> cases h <;> rfl

/-- A frame on the canal line raises the key or leaves it. -/
theorem exec_lineFrameReceived_le_watchEnd (frame : List Byte) (h : exec (.lineFrameReceived frame) s = .next t) :
    s.neigh.watchEnd ≤ t.neigh.watchEnd := by
  cases hl : s.listening with
  | false =>
    rw [exec_lineFrameReceived_of_deaf hl] at h
    cases h; exact Nat.le_refl _
  | true =>
    cases hn : decodeFrame s.settings.station.number frame with
    | none =>
      rw [exec_lineFrameReceived_of_none hn] at h
      cases h; exact Nat.le_refl _
    | some n =>
      rw [exec_lineFrameReceived_of_some hl hn] at h
      cases h
      cases n with
      | watch sender key watchEnd => exact (s.frameTaken frame).le_takeNotice_watch_watchEnd sender key watchEnd
      | reach sender f => exact (s.frameTaken frame).le_takeNotice_reach_watchEnd sender f

/-- A hold expiry leaves the key. -/
theorem exec_holdExpiry_watchEnd (i : Nat) (h : exec (.holdExpiry i) s = .next t) : t.neigh.watchEnd = s.neigh.watchEnd := by
  change execHoldExpiry i s = .next t at h
  unfold execHoldExpiry at h
  split at h <;> cases h
  · exact State.loseEntry_watchEnd i
  · rfl

/-- WATCH_DECLARE, served or refused, raises the key or leaves it. -/
theorem exec_watchDeclare_le_watchEnd (key : Nat) (h : exec (.watchDeclare key) s = .next t) :
    s.neigh.watchEnd ≤ t.neigh.watchEnd := by
  cases h
  rw [State.serve_neigh]
  split
  · exact s.le_declareWatch_watchEnd key
  · exact Nat.le_refl _

end

/-- Every command keeps the rule: most leave the Neighbour Table, and the others are taken one by one. -/
theorem exec_watchRule (c : Instr) (s t : State) (h : exec c s = .next t) : WatchRule s t := by
  cases hc : mayWriteNeigh c with
  | false => exact .inl (Nat.le_of_eq (congrArg _ (exec_leavesNeigh c s hc t h).symm))
  | true =>
    cases c with
    | resetRelease _ _ _ | supplyLoss => cases h; exact .inl (Nat.le_refl _)
    | replySent => exact .inl (Nat.le_of_eq (exec_replySent_watchEnd h).symm)
    | imageReadComplete image => exact exec_imageReadComplete_watchRule image h
    | configEnd => exact exec_configEnd_watchRule h
    | lineFrameReceived frame => exact .inl (exec_lineFrameReceived_le_watchEnd frame h)
    | holdExpiry i => exact .inl (Nat.le_of_eq (exec_holdExpiry_watchEnd i h).symm)
    | watchDeclare key => exact .inl (exec_watchDeclare_le_watchEnd key h)
    | _ => cases hc

/-- A step keeps the rule: the queue and the passing of time leave the key. -/
theorem step_watchRule (s t : State) (h : step s = .next t) : WatchRule s t := by
  unfold step at h
  split at h
  · rename_i c rest _
    exact exec_watchRule c (s.withPending rest) t h
  · split at h
    · exact exec_watchRule _ s t h
    · cases h
      exact .inl (Nat.le_of_eq (by simp))

/-- Settles O10, by the rule for every command. -/
theorem watchEndNeverFalls : Obligations.WatchEndNeverFalls := by
  intro s t h
  rcases step_watchRule s t h with h | ⟨⟨hkey, hstate, hkind⟩, hp, hs⟩
  · exact .inl h
  · exact .inr ⟨hkey, hstate, hkind, hp, hs⟩

end Sys2Proof.Machine
end

section
/-! The planning of one offset (R60, R61, R70 to R79) and the release target (R84): demand by class, the supply of each source, and the shares
that no pool falls short of. -/

namespace Sys2Proof

open Sys2Proof.Machine (WaterClass)

/-! ## Values by class -/

@[simp] theorem ByClass.get_zip (f : Nat → Nat → Nat) (x y : ByClass) (k : WaterClass) :
    (ByClass.zip f x y).get k = f (x.get k) (y.get k) := by cases k <;> rfl

@[simp] theorem ByClass.get_of (f : WaterClass → Nat) (k : WaterClass) : (ByClass.of f).get k = f k := by cases k <;> rfl

@[simp] theorem ByClass.get_zero (k : WaterClass) : ByClass.zero.get k = 0 := by cases k <;> rfl

/-- The first class raised. -/
theorem ByClass.get_add_c1 (x : ByClass) (v : Nat) (k : WaterClass) :
    ({ x with c1 := x.c1 + v } : ByClass).get k = x.get k + if k = .senior then v else 0 := by cases k <;> rfl

/-- The total is the sum over the classes. -/
theorem ByClass.total_eq_get (x : ByClass) : x.total = x.get .senior + x.get .frost + x.get .standard + x.get .surplus := rfl

end Sys2Proof

namespace Sys2Proof.Machine

/-- A sum of lists of values by class is the sum of each class. -/
theorem get_sumClasses (xs : List ByClass) (k : WaterClass) : (sumClasses xs).get k = sumList (xs.map fun x => x.get k) := by
  induction xs with
  | nil => exact ByClass.get_zero k
  | cons x xs ih =>
    change (ByClass.zip (· + ·) x (sumClasses xs)).get k = x.get k + sumList (xs.map fun x => x.get k)
    rw [ByClass.get_zip, ih]

/-! ## The pro-rata shares of a pool (R78) -/

/-- The shares of two demands together are no more than the share of both. -/
theorem proRata_add_le (g dsum a b : Nat) : proRata g dsum a + proRata g dsum b ≤ proRata g dsum (a + b) := by
  unfold proRata
  split
  · exact Nat.le_refl _
  · split
    · exact Nat.le_refl _
    · rw [Nat.add_mul]
      exact Nat.div_add_div_le_add_div

/-- The share of the whole demand is in the pool. -/
theorem proRata_self_le (g d : Nat) : proRata g d d ≤ g := by
  unfold proRata
  split
  · exact Nat.zero_le g
  · split
    · assumption
    · refine Nat.div_le_of_le_mul ?_
      calc d * (g * 1024 / d) ≤ g * 1024 := Nat.mul_div_le _ _
        _ = 1024 * g := Nat.mul_comm _ _

/-- The shares of a list of values, each by its own demand, are no more than the share of their sum. -/
theorem sumList_proRata_le {α : Type} (g dsum : Nat) (demand : α → Nat) (xs : List α) :
    sumList (xs.map fun x => proRata g dsum (demand x)) ≤ proRata g dsum (sumList (xs.map demand)) := by
  induction xs with
  | nil => exact Nat.zero_le _
  | cons x xs ih =>
    calc proRata g dsum (demand x) + sumList (xs.map fun x => proRata g dsum (demand x))
        ≤ proRata g dsum (demand x) + proRata g dsum (sumList (xs.map demand)) := Nat.add_le_add_left ih _
      _ ≤ proRata g dsum (demand x + sumList (xs.map demand)) := proRata_add_le _ _ _ _

/-! ## The slots of one class (R72, R79) -/

/-- The sum over the slots of a class, when each slot has its value. -/
theorem ownSum_map (slots : List (Option Order)) (value : Option Order → Nat) (k : WaterClass) :
    ownSum slots (slots.map value) k = sumList (slots.map fun x => if slotHasClass x k then value x else 0) := by
  induction slots with
  | nil => rfl
  | cons x slots ih => exact congrArg (_ + ·) ih

/-- The sum over all slots is the sum over the classes, when a FREE slot counts nothing. -/
theorem sumList_eq_total_ownSum (slots : List (Option Order)) {value : Option Order → Nat} (hfree : value none = 0) :
    sumList (slots.map value) = (ByClass.of (ownSum slots (slots.map value))).total := by
  simp only [ByClass.total_eq_get, ByClass.get_of, ownSum_map]
  induction slots with
  | nil => rfl
  | cons x slots ih =>
    simp only [sumList, List.map_cons, List.foldr_cons] at ih ⊢
    have hx : value x = (if slotHasClass x .senior then value x else 0) + (if slotHasClass x .frost then value x else 0) +
        (if slotHasClass x .standard then value x else 0) + (if slotHasClass x .surplus then value x else 0) := by
      cases x with
      | none => simp [hfree]
      | some o => cases h : o.cls <;> simp [slotHasClass, h]
    omega

/-- The shares of the slots of a class are no more than the share of their demand. -/
theorem ownSum_slotShare_le (pool sums : ByClass) (slots : List (Option Order)) (demand : Option Order → Nat) (k : WaterClass) :
    ownSum slots (slots.map fun x => slotShare pool sums x (demand x)) k ≤
      proRata (pool.get k) (sums.get k) (ownSum slots (slots.map demand) k) := by
  rw [ownSum_map, ownSum_map]
  refine Nat.le_trans (Nat.le_of_eq ?_) (sumList_proRata_le _ _ _ slots)
  refine congrArg sumList (List.map_congr_left fun x _ => ?_)
  have hzero : proRata (pool.get k) (sums.get k) 0 = 0 := Nat.le_zero.1 (proRata_le _ _ 0)
  cases x with
  | none => simp [slotHasClass, hzero]
  | some o => by_cases h : o.cls = k <;> simp [slotHasClass, slotShare, h, hzero]

/-! ## The views of the Neighbour Table (R60, R61) -/

/-- A FRESH entry with content is read by the index of R60. -/
theorem Entry.demand_of_fresh {e : Entry} {x : Content} (hs : e.state = .fresh) (hx : e.content = some x) (planKey i : Nat) :
    e.demand planKey i = x.plan.getD (min 11 (planKey + i + e.tau - x.senderKey)) ByClass.zero := by
  simp [Entry.demand, Entry.usable, hs, hx, readArray, readIndex]

/-- Any other entry has its lost-neighbour flow in class 3. -/
theorem Entry.demand_of_not_usable {e : Entry} (h : e.state ≠ .fresh ∨ e.content = none) (planKey i : Nat) :
    e.demand planKey i = { c1 := 0, c2 := 0, c3 := e.lostFlow, c4 := 0 } := by
  have hu : e.usable = none := by rcases h with h | h <;> simp [Entry.usable, h]
  simp [Entry.demand, hu, ByClass.zero]

/-- The upstream entry grants these values in this content: it is FRESH with UPSTREAM_MISMATCH clear, and the notice had a block for this
station. -/
def NeighbourTable.Granted (n : NeighbourTable) (x : Content) (g : List ByClass) : Prop :=
  ∃ e, n.upstream = some e ∧ e.state = .fresh ∧ e.content = some x ∧ e.mismatch = false ∧ x.grant = some g

section

variable {n : NeighbourTable} {x : Content} {g : List ByClass}

/-- A grant that is given is the upstream grant view, with its sender's key. -/
theorem NeighbourTable.upstreamGrant_of_granted (h : n.Granted x g) : n.upstreamGrant = some (x.senderKey, g) := by
  obtain ⟨e, he, hs, hx, hm, hg⟩ := h
  simp [NeighbourTable.upstreamGrant, he, Entry.usable, hs, hx, hm, hg]

/-- An upstream grant view is of a grant that is given. -/
theorem NeighbourTable.granted_of_upstreamGrant {sender : Nat} (h : n.upstreamGrant = some (sender, g)) : ∃ x, n.Granted x g := by
  simp only [NeighbourTable.upstreamGrant, Entry.usable] at h
  split at h
  · cases h
  · rename_i e he
    split at h
    · cases h
    · rename_i x hu
      split at h
      · cases h
      · rename_i hm
        split at hu
        · rename_i hs
          obtain ⟨g', hg, hp⟩ := Option.map_eq_some_iff.1 h
          cases hp
          exact ⟨x, e, he, hs, hu, Bool.eq_false_iff.2 hm, hg⟩
        · cases hu

/-- With no grant given there is no upstream grant view. -/
theorem NeighbourTable.upstreamGrant_of_not_granted (h : ∀ x g, ¬n.Granted x g) : n.upstreamGrant = none := by
  cases hv : n.upstreamGrant with
  | none => rfl
  | some p =>
    obtain ⟨x, hx⟩ := NeighbourTable.granted_of_upstreamGrant (g := p.2) hv
    exact absurd hx (h x p.2)

end

/-! ## The supply of each source (R74, R76) -/

section

variable {s : State}

/-- A head station has the supply S. -/
theorem State.supply_of_head (h : s.settings.neighbours.upstream = 0) (i : Nat) (announced : ByClass) :
    s.supplySource = .head ∧ s.supplyAt i announced = classAllocation s.planner.headSupply announced := by
  simp [State.supplySource, State.supplyAt, isHead, h]

/-- With a grant the supply of a class is the grant clamped to the announced demand. -/
theorem State.supply_of_granted (h : s.settings.neighbours.upstream ≠ 0) {x : Content} {g : List ByClass}
    (hg : s.neigh.Granted x g) (i : Nat) (announced : ByClass) :
    s.supplySource = .upstream ∧ s.supplyAt i announced =
      ByClass.zip min (g.getD (min 11 (s.planner.planKey + i + 0 - x.senderKey)) ByClass.zero) announced := by
  simp [State.supplySource, State.supplyAt, isHead, h, NeighbourTable.upstreamGrant_of_granted hg, readArray, readIndex]

/-- Without one it is the fallback supply. -/
theorem State.supply_of_not_granted (h : s.settings.neighbours.upstream ≠ 0) (hg : ∀ x g, ¬s.neigh.Granted x g) (i : Nat)
    (announced : ByClass) :
    s.supplySource = .fallback ∧ s.supplyAt i announced = classAllocation s.settings.reach.fallback announced := by
  simp [State.supplySource, State.supplyAt, isHead, h, NeighbourTable.upstreamGrant_of_not_granted hg]

/-- No class is supplied above its announced demand, whatever the source. -/
theorem State.supplyAt_le (s : State) (i : Nat) (announced : ByClass) (k : WaterClass) :
    (s.supplyAt i announced).get k ≤ announced.get k := by
  unfold State.supplyAt
  split
  · exact classAllocation_le _ _ k
  · split
    · rw [ByClass.get_zip]; exact Nat.min_le_right _ _
    · exact classAllocation_le _ _ k

/-- No class is announced above its raw demand. -/
theorem announcedOf_le (c : Config.Settings) (raw : ByClass) (k : WaterClass) : (announcedOf c raw).get k ≤ raw.get k := by
  unfold announcedOf
  split
  · exact Nat.le_refl _
  · exact classAllocation_le _ _ k

end

/-! ## The results at an offset -/

section

variable (s : State) (i : Nat)

/-- The demand of the consumers by class: the orders of the slots and the downstream neighbours (R70 to R72). -/
def State.consumers : ByClass :=
  ByClass.zip (· + ·) (ByClass.of (ownSum s.book.slots (s.book.slots.map (ownDemand s.settings s.planner.planKey i))))
    (sumClasses (s.neigh.downstream.map fun e => e.demand s.planner.planKey i))

/-- Each slot has its own demand. -/
theorem State.planOffset_ownDemand :
    (s.planOffset i).ownDemand = s.book.slots.map (ownDemand s.settings s.planner.planKey i) := rfl

/-- Each slot has its share of the pool of its class. -/
theorem State.planOffset_ownShare :
    (s.planOffset i).ownShare = s.book.slots.map fun x =>
      slotShare (s.planOffset i).pool (s.consumers i) x (ownDemand s.settings s.planner.planKey i x) := by
  have hzip : (s.planOffset i).ownShare = List.zipWith (slotShare (s.planOffset i).pool (s.consumers i)) s.book.slots
      (s.book.slots.map (ownDemand s.settings s.planner.planKey i)) := rfl
  rw [hzip, List.zipWith_map_right, List.zipWith_self]

/-- Each downstream neighbour has its demand. -/
theorem State.planOffset_downDemand :
    (s.planOffset i).downDemand = s.neigh.downstream.map fun e => e.demand s.planner.planKey i := rfl

/-- Each downstream neighbour has its share of each pool. -/
theorem State.planOffset_downShare :
    (s.planOffset i).downShare = (s.planOffset i).downDemand.map fun d => ByClass.of fun k =>
      proRata ((s.planOffset i).pool.get k) ((s.consumers i).get k) (d.get k) := rfl

/-- The demand of a class is that of its slots and of the downstream neighbours. -/
theorem State.consumers_get (k : WaterClass) : (s.consumers i).get k =
    ownSum s.book.slots (s.planOffset i).ownDemand k + (sumClasses (s.planOffset i).downDemand).get k := by
  rw [State.consumers, ByClass.get_zip, ByClass.get_of]
  rfl

/-- The loss allowance joins the demand of class 1 (R72). -/
theorem State.planOffset_raw (k : WaterClass) :
    (s.planOffset i).raw.get k = (s.consumers i).get k + if k = .senior then s.settings.reach.loss else 0 :=
  ByClass.get_add_c1 (s.consumers i) _ k

/-- The supply is that of the source, for the announced demand (R74, R76). -/
theorem State.planOffset_supply : (s.planOffset i).supply = s.supplyAt i (s.planOffset i).announced := rfl

/-- The loss served leaves the pool of class 1 (R77). -/
theorem State.planOffset_pool :
    (s.planOffset i).lossServed = min s.settings.reach.loss (s.planOffset i).supply.c1 ∧
      (s.planOffset i).pool =
        { (s.planOffset i).supply with c1 := (s.planOffset i).supply.c1 - (s.planOffset i).lossServed } := ⟨rfl, rfl⟩

/-- The pools and the loss served are the supply. -/
theorem State.planOffset_pool_total : (s.planOffset i).pool.total + (s.planOffset i).lossServed = (s.planOffset i).supply.total := by
  obtain ⟨hloss, hpool⟩ := s.planOffset_pool i
  have hle : (s.planOffset i).lossServed ≤ (s.planOffset i).supply.c1 := hloss ▸ Nat.min_le_right _ _
  rw [hpool]
  simp only [ByClass.total]
  omega

/-- The shares of a class are in its pool. -/
theorem State.planOffset_class_le (k : WaterClass) :
    ownSum s.book.slots (s.planOffset i).ownShare k + (sumClasses (s.planOffset i).downShare).get k ≤ (s.planOffset i).pool.get k := by
  generalize hg : (s.planOffset i).pool.get k = g
  have hown := ownSum_slotShare_le (s.planOffset i).pool (s.consumers i) s.book.slots
    (ownDemand s.settings s.planner.planKey i) k
  rw [← State.planOffset_ownShare, ← State.planOffset_ownDemand, hg] at hown
  have hdown : (sumClasses (s.planOffset i).downShare).get k ≤
      proRata g ((s.consumers i).get k) ((sumClasses (s.planOffset i).downDemand).get k) := by
    rw [get_sumClasses, get_sumClasses, State.planOffset_downShare, List.map_map]
    simpa [Function.comp_def, hg] using sumList_proRata_le g ((s.consumers i).get k) (fun d => d.get k) (s.planOffset i).downDemand
  calc ownSum s.book.slots (s.planOffset i).ownShare k + (sumClasses (s.planOffset i).downShare).get k
      ≤ proRata g ((s.consumers i).get k) (ownSum s.book.slots (s.planOffset i).ownDemand k) +
          proRata g ((s.consumers i).get k) ((sumClasses (s.planOffset i).downDemand).get k) := Nat.add_le_add hown hdown
    _ ≤ proRata g ((s.consumers i).get k)
          (ownSum s.book.slots (s.planOffset i).ownDemand k + (sumClasses (s.planOffset i).downDemand).get k) :=
        proRata_add_le _ _ _ _
    _ = proRata g ((s.consumers i).get k) ((s.consumers i).get k) := by rw [← State.consumers_get]
    _ ≤ g := proRata_self_le _ _

/-- All shares are in the pools. -/
theorem State.planOffset_shares_le :
    sumList (s.planOffset i).ownShare + (sumClasses (s.planOffset i).downShare).total ≤ (s.planOffset i).pool.total := by
  have hfree : slotShare (s.planOffset i).pool (s.consumers i) none (ownDemand s.settings s.planner.planKey i none) = 0 := rfl
  have hown : sumList (s.planOffset i).ownShare = (ByClass.of (ownSum s.book.slots (s.planOffset i).ownShare)).total := by
    rw [State.planOffset_ownShare]
    exact sumList_eq_total_ownSum s.book.slots (value := fun x => slotShare _ _ x (ownDemand _ _ i x)) hfree
  have hsenior := s.planOffset_class_le i .senior
  have hfrost := s.planOffset_class_le i .frost
  have hstandard := s.planOffset_class_le i .standard
  have hsurplus := s.planOffset_class_le i .surplus
  rw [hown]
  simp only [ByClass.total_eq_get, ByClass.get_of]
  omega

/-- The shares, the loss served and the margin are the supply. -/
theorem State.planOffset_supply_total :
    (s.planOffset i).margin + (sumList (s.planOffset i).ownShare + (sumClasses (s.planOffset i).downShare).total) +
      (s.planOffset i).lossServed = (s.planOffset i).supply.total := by
  have hmargin : (s.planOffset i).margin =
    (s.planOffset i).pool.total - (sumList (s.planOffset i).ownShare + (sumClasses (s.planOffset i).downShare).total) := rfl
  have hshares := s.planOffset_shares_le i
  have hpool := s.planOffset_pool_total i
  omega

end

/-! ## The slots one by one -/

section

variable {s : State} {slot : Nat} {o : Order}

/-- An order's own demand is its requested rate while it is PENDING or ACTIVE and its window holds the period (R70). -/
theorem ownDemand_some (c : Config.Settings) (planKey i : Nat) (o : Order) :
    ownDemand c planKey i (some o) =
      if (o.state = .pending ∨ o.state = .active) ∧ o.startKey ≤ planKey + i + tauOf c o.turnout ∧
        planKey + i + tauOf c o.turnout ≤ o.endKey then o.rate else 0 := by
  simp [ownDemand, Order.demands, Order.windowHas]

/-- A live order stands in the list of slots. -/
theorem OrderBook.getElem?_of_at? {b : OrderBook} (h : b.at? slot = some o) : b.slots[slot]? = some (some o) :=
  Option.join_eq_some_iff.1 h

/-- A FREE slot stands in the list of slots. -/
theorem OrderBook.getElem?_of_free {b : OrderBook} (hs : slot < b.slots.length) (h : b.at? slot = none) :
    b.slots[slot]? = some none := by
  rw [List.getElem?_eq_getElem hs]
  simpa [OrderBook.at?, List.getElem?_eq_getElem hs] using h

/-- What a slot demands and what it gets. -/
theorem State.planOffset_slot (i : Nat) {x : Option Order} (h : s.book.slots[slot]? = some x) :
    (s.planOffset i).ownDemand[slot]? = some (ownDemand s.settings s.planner.planKey i x) ∧
      (s.planOffset i).ownShare[slot]? = some (slotShare (s.planOffset i).pool (s.consumers i) x
        (ownDemand s.settings s.planner.planKey i x)) := by
  rw [State.planOffset_ownDemand, State.planOffset_ownShare, List.getElem?_map, List.getElem?_map, h]
  exact ⟨rfl, rfl⟩

/-- The demand of a class over the slots, slot by slot. -/
theorem State.ownSum_eq_sumList_range (s : State) (i : Nat) (k : WaterClass) {value : Nat → Nat}
    (hlive : ∀ slot o, s.book.at? slot = some o → value slot = if o.cls = k then (s.planOffset i).ownDemand.getD slot 0 else 0)
    (hfree : ∀ slot, s.book.at? slot = none → value slot = 0) :
    sumList ((List.range s.book.slots.length).map value) = ownSum s.book.slots (s.planOffset i).ownDemand k := by
  rw [State.planOffset_ownDemand, ownSum_map]
  refine congrArg sumList (List.ext_getElem (by simp) fun slot hs hs' => ?_)
  have hslot : slot < s.book.slots.length := by simpa using hs
  simp only [List.getElem_map, List.getElem_range]
  cases hx : s.book.slots[slot] with
  | none => rw [hfree slot (by simp [OrderBook.at?, hslot, hx])]; rfl
  | some o =>
    have hget : s.book.slots[slot]? = some (some o) := by simp [hslot, hx]
    rw [hlive slot o (by simp [OrderBook.at?, hget]), List.getD_eq_getElem?_getD, (State.planOffset_slot i hget).1]
    simp [slotHasClass]

end

/-! ## The release target (R84) -/

/-- A value clamped to 0 and to a limit. -/
theorem toNat_clampInt_cases (limit : Nat) (x : Int) :
    let t := (clampInt 0 limit x).toNat
    t ≤ limit ∧ (x ≤ 0 → t = 0) ∧ (0 ≤ x → x ≤ limit → (t : Int) = x) ∧ ((limit : Int) < x → t = limit) := by
  simp only [clampInt]
  omega

/-- Settles O17: the results field by field, the order among shares, supply and demand, and the clamp of the release target. -/
theorem sharesAndReleaseTarget : Obligations.SharesAndReleaseTarget := by
  refine ⟨?offset, ?release⟩
  case release =>
    intro s r p shares sum
    obtain ⟨hle, hlow, hmid, hhigh⟩ := toNat_clampInt_cases (min s.settings.reach.cap p.supply.total) sum
    refine ⟨rfl, rfl, Nat.le_trans hle (Nat.min_le_left _ _), Nat.le_trans hle (Nat.min_le_right _ _), hlow, ?_, hhigh⟩
    exact fun hpos hcap hsupply => hmid hpos (by omega)
  case offset =>
    intro s i p c key n index own demand upstream neighbours granted
    have hneighbours : neighbours = s.neigh.downstream := List.filter_congr fun _ _ => decide_not
    have hdemand (k : WaterClass) : demand k = (s.consumers i).get k := by
      have hown : own k = ownSum s.book.slots p.ownDemand k :=
        s.ownSum_eq_sumList_range i k (fun slot o h => by simp only [h]; rfl) (fun slot h => by simp only [h])
      rw [State.consumers_get, get_sumClasses, ← hown]
    rw [hneighbours]
    refine ⟨?ownLength, ?shareLength, ?live, ?free, ?downLength, ?downShareLength, ?neighbour, ?raw,
      fun h => State.supply_of_head h i p.announced, ?below, rfl, rfl, ?within, ?ordered, s.planOffset_supply_total i⟩
    case ownLength => rw [State.planOffset_ownDemand, List.length_map]
    case shareLength => rw [State.planOffset_ownShare, List.length_map]
    case downLength => rw [State.planOffset_downDemand, List.length_map]
    case downShareLength => rw [State.planOffset_downShare, State.planOffset_downDemand, List.length_map, List.length_map]
    case live =>
      intro slot o h period
      obtain ⟨hown, hshare⟩ := State.planOffset_slot i (OrderBook.getElem?_of_at? h)
      rw [hdemand, List.getD_eq_getElem?_getD, hown, hshare]
      exact ⟨congrArg some (ownDemand_some c key i o), rfl⟩
    case free =>
      intro slot hslot h
      exact State.planOffset_slot i (OrderBook.getElem?_of_free hslot h)
    case neighbour =>
      intro j e he
      have hd : p.downDemand[j]? = some (e.demand key i) := by
        rw [State.planOffset_downDemand, List.getElem?_map, he]; rfl
      refine ⟨_, _, hd, by rw [State.planOffset_downShare, List.getElem?_map, hd]; rfl,
        fun x hs hx => Entry.demand_of_fresh hs hx key i, fun h => Entry.demand_of_not_usable h key i, fun k => ?_⟩
      rw [hdemand, ByClass.get_of]
    case raw =>
      intro k
      rw [hdemand, State.planOffset_raw]
    case below =>
      intro h
      refine ⟨fun x g hg => ?_, fun hg => State.supply_of_not_granted h hg i p.announced⟩
      obtain ⟨hsource, hsupply⟩ := State.supply_of_granted h hg i p.announced
      refine ⟨hsource, fun k => ?_⟩
      rw [State.planOffset_supply, hsupply, ByClass.get_zip]
    case within =>
      rw [← s.planOffset_supply_total i]
      exact Nat.add_le_add_right (Nat.le_add_left _ _) _
    case ordered => exact fun k => ⟨s.supplyAt_le i p.announced k, announcedOf_le c p.raw k⟩

end Sys2Proof.Machine
end

section
/-! Class allocation and the pro-rata share: the classes served in order, and shares that stay within their pool (R72 to R78). -/

namespace Sys2Proof.Machine

/-! ## Class allocation (R73) -/

/-- Each class is served after the ones before it, and the allocations sum to the lesser of the limit and the demands. -/
theorem classAllocation_in_order (x : Nat) (d : ByClass) :
    let a := classAllocation x d
    a.total = min x d.total ∧ (0 < a.c2 → a.c1 = d.c1) ∧ (0 < a.c3 → a.c1 = d.c1 ∧ a.c2 = d.c2) ∧
      (0 < a.c4 → a.c1 = d.c1 ∧ a.c2 = d.c2 ∧ a.c3 = d.c3) := by
  simp only [classAllocation, ByClass.total]
  omega

/-- The announced demand at an offset is made of its raw demand (R72). -/
theorem State.planOffset_announced (s : State) (i : Nat) :
    (s.planOffset i).announced = announcedOf s.settings (s.planOffset i).raw := rfl

/-- Without an upstream grant view no grant is given. -/
theorem NeighbourTable.not_granted_of_upstreamGrant {n : NeighbourTable} (h : n.upstreamGrant = none) (x : Content)
    (g : List ByClass) : ¬n.Granted x g := fun hg => by
  simp [NeighbourTable.upstreamGrant_of_granted hg] at h

/-- Settles O15: the four allocations one after the other, and the limits Cap, S and F under which they are made. -/
theorem classAllocationInOrder : Obligations.ClassAllocationInOrder := by
  refine ⟨?allocation, ?offset⟩
  case allocation =>
    intro x d a
    exact ⟨rfl, rfl, rfl, rfl, classAllocation_in_order x d⟩
  case offset =>
    intro s i p
    refine ⟨fun h => ?above, fun h => ?within, fun h => ?head, fun h hnone => ?fallback⟩
    case above => exact (s.planOffset_announced i).trans (if_neg (Nat.not_le.2 h))
    case within => exact (s.planOffset_announced i).trans (if_pos h)
    case head => exact (State.supply_of_head h i p.announced).2
    case fallback =>
      exact (State.supply_of_not_granted h (NeighbourTable.not_granted_of_upstreamGrant hnone) i p.announced).2

/-! ## The pro-rata share (R78) -/

/-- When the pool is short the factor is below 1 024. -/
theorem proRata_factor_le {g dsum : Nat} (h : g < dsum) : g * 1024 / dsum ≤ 1023 :=
  Nat.le_of_lt_succ (Nat.div_lt_of_lt_mul (Nat.mul_lt_mul_of_pos_right h (by decide)))

/-- When the pool is short a share is the demand times the factor. -/
theorem proRata_of_short {g dsum : Nat} (h : g < dsum) (d : Nat) : proRata g dsum d = d * (g * 1024 / dsum) / 1024 := by
  rw [proRata, if_neg (Nat.ne_of_gt (Nat.zero_lt_of_lt h)), if_neg (Nat.not_le.2 h)]

/-- When the pool is not short a share is the demand. -/
theorem proRata_of_enough {g dsum : Nat} (hpos : 0 < dsum) (h : dsum ≤ g) (d : Nat) : proRata g dsum d = d := by
  rw [proRata, if_neg (Nat.ne_of_gt hpos), if_pos h]

/-- Settles O16: the three cases, and the shares of a list within the share of their sum. -/
theorem proRataShares : Obligations.ProRataShares := by
  refine ⟨fun g d => if_pos rfl, fun g dsum d hpos h => proRata_of_enough hpos h d,
    fun g dsum d h => ⟨proRata_of_short h d, proRata_le g dsum d, proRata_factor_le h⟩, fun g ds => ?list⟩
  case list =>
    have hshares : sumList (ds.map (proRata g (sumList ds))) ≤ proRata g (sumList ds) (sumList ds) := by
      simpa using sumList_proRata_le g (sumList ds) id ds
    exact Nat.le_trans hshares (Nat.le_min.2 ⟨proRata_self_le _ _, proRata_le _ _ _⟩)

end Sys2Proof.Machine
end

section
/-! The settings that the station processor sets by command: SUPPLY_SET, TARGET_STAGE, RATES_STAGE and ACCOUNT_SET
(R75, R86, R148, R145). -/

namespace Sys2Proof.Machine

section

variable {s : State}

/-! ## Replies and refusals (R169, R171) -/

/-- A command served in RUN only that its owner accepts. -/
theorem State.serve_run_accept {c : Instr} {kind : Byte} {body : Served} {u : State} {data : List Byte} (hrun : s.running = true)
    (h : body = u.accept data) : (.next (s.serve c kind .run body) : Out) = u.replies c kind data := by
  rw [State.serve_run _ _ _ hrun, h]
  rfl

/-- A command served in RUN only that its owner refuses. -/
theorem State.serve_run_refuse {c : Instr} {kind : Byte} {body : Served} {r : ResultCode} (hrun : s.running = true)
    (h : body = s.refuse r) : (.next (s.serve c kind .run body) : Out) = s.refuses c kind r := by
  rw [State.serve_run _ _ _ hrun, h]
  rfl

/-- A command served in RUN only, in the other start states. -/
theorem State.serve_run_notReady {c : Instr} {kind : Byte} {body : Served} (hp : s.startup.powered = true)
    (h : s.startup.state ≠ .run) : (.next (s.serve c kind .run body) : Out) = s.refuses c kind .notReady := by
  have hrefusal : Service.run.refusal s.startup.state = some .notReady := by
    cases hs : s.startup.state with
    | run => exact absurd hs h
    | loading => rfl
    | configFault => rfl
    | waitTime => rfl
  rw [State.serve_of_refused _ _ _ _ hp hrefusal]
  rfl

/-! ## SUPPLY_SET (R75) -/

/-- A recompute leaves the head supply S. -/
@[simp] theorem State.recompute_headSupply (s : State) : s.recompute.planner.headSupply = s.planner.headSupply := by
  unfold State.recompute
  split <;> simp

/-- At a head station the clamped value becomes S, and the reply carries it. -/
theorem State.takeSupply_of_head (h : s.settings.neighbours.upstream = 0) (flow : Nat) :
    s.takeSupply flow =
      (s.withPlanner { s.planner with headSupply := min flow 32000 }).recompute.accept (toBytes 2 (min flow 32000)) := by
  simp [State.takeSupply, isHead, h, flowMax]

/-- Elsewhere there is no head supply to set. -/
theorem State.takeSupply_of_not_head (h : s.settings.neighbours.upstream ≠ 0) (flow : Nat) :
    s.takeSupply flow = s.refuse .role := by simp [State.takeSupply, isHead, h]

/-! ## TARGET_STAGE (R86) -/

theorem State.takeTarget_of_tail (h : isTail s.settings = true) (level : Nat) : s.takeTarget level = s.refuse .role := if_pos h

theorem State.takeTarget_of_out (h : isTail s.settings = false) {level : Nat} (hout : 4000 < level) :
    s.takeTarget level = s.refuse .badValue := by simp [State.takeTarget, h, levelMax, hout]

theorem State.takeTarget_of_in (h : isTail s.settings = false) {level : Nat} (hin : level ≤ 4000) :
    s.takeTarget level = (s.withPlanner { s.planner with staged := some level }).accept [] := by
  simp [State.takeTarget, h, levelMax, Nat.not_lt.2 hin]

/-! ## RATES_STAGE (R148) -/

/-- The check of the fees. -/
theorem feesGood_iff (table : RateTable) : feesGood table = true ↔ table.callOut ≤ 1000000 ∧ table.lateCancel ≤ 1000000 := by
  simp only [feesGood, within, Bool.and_eq_true, decide_eq_true_eq, Nat.zero_le, true_and]
  rfl

theorem State.takeRates_of_good {table : RateTable} (h : feesGood table = true) :
    s.takeRates table = (s.withBilling { s.billing with staged := some table }).accept [] := if_pos h

theorem State.takeRates_of_bad {table : RateTable} (h : ¬feesGood table = true) : s.takeRates table = s.refuse .badValue := if_neg h

/-! ## ACCOUNT_SET (R145) -/

/-- The state of an account is read back from its code. -/
theorem accountStateOf?_code (x : AccountState) : accountStateOf? x.code = some x := by cases x <;> rfl

/-- A number above 2 is the code of no state. -/
theorem accountStateOf?_of_lt {code : Nat} (h : 2 < code) : accountStateOf? code = none := by
  obtain ⟨n, rfl⟩ := Nat.exists_eq_add_of_lt h
  rw [Nat.add_right_comm, Nat.add_comm]
  rfl

section

variable {index allotment limit state : Nat}

theorem State.takeAccount_of_absent (h : (s.billing.account index).number = 0) :
    s.takeAccount index allotment limit state = s.refuse .notFound := if_pos h

theorem State.takeAccount_of_out (h : (s.billing.account index).number ≠ 0) (hout : 4000000 < allotment ∨ 2 < state) :
    s.takeAccount index allotment limit state = s.refuse .badValue := by
  unfold State.takeAccount
  rw [if_neg h]
  rcases Nat.lt_or_ge 4000000 allotment with ha | ha
  · exact if_pos ha
  · have hstate : 2 < state := hout.resolve_left (Nat.not_lt.2 ha)
    rw [if_neg (show ¬allotmentMax < allotment from Nat.not_lt.2 ha), accountStateOf?_of_lt hstate]

theorem State.takeAccount_of_in {x : AccountState} (h : (s.billing.account index).number ≠ 0) (ha : allotment ≤ 4000000) :
    s.takeAccount index allotment limit x.code =
      let a := { s.billing.account index with allotment := allotment, limit := limit, state := x }
      (s.withBilling { s.billing with accounts := s.billing.accounts.set index a }).accept a.bytes := by
  unfold State.takeAccount
  rw [if_neg h, if_neg (show ¬allotmentMax < allotment from Nat.not_lt.2 ha), accountStateOf?_code]

end

end

/-- Settles O27, by the role of the station and the start state. -/
theorem supplySet : Obligations.SupplySet := by
  intro s flow hp c
  refine ⟨fun hstate hhead => ?head, fun hstate hbelow => ?elsewhere, State.serve_run_notReady hp⟩
  case head => exact State.serve_run_accept (State.running_iff.2 ⟨hp, hstate⟩) (State.takeSupply_of_head hhead flow)
  case elsewhere => exact State.serve_run_refuse (State.running_iff.2 ⟨hp, hstate⟩) (State.takeSupply_of_not_head hbelow flow)

/-- Settles O29, command by command. -/
theorem stagedSettings : Obligations.StagedSettings := by
  intro s hrun
  refine ⟨?target, ?rates, ?account⟩
  case target =>
    intro level c
    exact ⟨fun htail => State.serve_run_refuse hrun (State.takeTarget_of_tail htail level),
      fun htail hout => State.serve_run_refuse hrun (State.takeTarget_of_out htail hout),
      fun htail hin => State.serve_run_accept hrun (State.takeTarget_of_in htail hin)⟩
  case rates =>
    intro table c
    refine ⟨fun hcall hlate => ?_, fun hout => ?_⟩
    · exact State.serve_run_accept hrun (State.takeRates_of_good ((feesGood_iff table).2 ⟨hcall, hlate⟩))
    · refine State.serve_run_refuse hrun (State.takeRates_of_bad fun hgood => ?_)
      obtain ⟨hcall, hlate⟩ := (feesGood_iff table).1 hgood
      omega
  case account =>
    intro index allotment limit state c a
    refine ⟨fun x hnumber hin hcode => ?_, fun habsent => ?_, fun hnumber hout => ?_⟩
    · subst hcode
      exact State.serve_run_accept hrun (State.takeAccount_of_in hnumber hin)
    · exact State.serve_run_refuse hrun (State.takeAccount_of_absent habsent)
    · exact State.serve_run_refuse hrun (State.takeAccount_of_out hnumber hout)

end Sys2Proof.Machine
end

section
/-! A recompute of the Release Planner: what it writes into the orders and the downstream schedules, what it hands to the gate, and what
it leaves (R31 to R33, R67, R80, R81, R84, R101). -/

namespace Sys2Proof.Machine

/-! ## A list of numbered writes -/

section

variable {σ τ β : Type} {write : σ → β × Nat → σ} {view : σ → τ}

/-- Writes that each leave a view leave it together. -/
theorem view_foldl_of_keeps {l : List (β × Nat)} (h : ∀ p ∈ l, ∀ x, view (write x p) = view x) (x : σ) :
    view (l.foldl write x) = view x := by
  induction l generalizing x with
  | nil => rfl
  | cons p l ih =>
    rw [List.foldl_cons, ih fun q hq => h q (List.mem_cons_of_mem p hq)]
    exact h p List.mem_cons_self x

/-- When of the numbered writes only one touches a view, the view after all of them is the view after that one, made where the view is
as it was at first. -/
theorem view_foldl_of_one {v : β} {n k i : Nat} {l : List β} (hk : l[k]? = some v) (hi : n + k = i)
    (h : ∀ w j x, j ≠ i → view (write x (w, j)) = view x) (x : σ) :
    ∃ y, view y = view x ∧ view ((l.zipIdx n).foldl write x) = view (write y (v, i)) := by
  induction l generalizing n k x with
  | nil => simp at hk
  | cons w l ih =>
    rw [List.zipIdx_cons, List.foldl_cons]
    cases k with
    | zero =>
      obtain rfl : w = v := by simpa using hk
      obtain rfl : n = i := hi
      refine ⟨x, rfl, view_foldl_of_keeps (fun p hp y => h _ _ _ ?_) _⟩
      have hlater := List.le_snd_of_mem_zipIdx hp
      omega
    | succ k =>
      obtain ⟨y, hy, hlast⟩ := ih (n := n + 1) (k := k) (by simpa using hk) (by omega) (write x (w, n))
      exact ⟨y, hy.trans (h w n x (by omega)), hlast⟩

end

/-! ## One grant write (R31, R32) -/

section

variable {b key rate i : Nat} {o : Order} {e : GrantEntry}

/-- A write to an open entry of an order that is not CLOSED_UNBILLED. -/
theorem Order.writeGrant_of_open (hs : o.state ≠ .closedUnbilled) (he : o.grants[i]? = some e) (hopen : e.frozen = false)
    (hkey : key = b + i) (rate : Nat) :
    o.writeGrant b key rate = { o with
      grants := o.grants.set i { e with rate := rate }
      floor := if i = 0 ∧ rate ≠ e.rate then min o.floor rate else o.floor } := by
  subst hkey
  have htaken : ¬(!o.planned || decide (b + i < b)) = true := by
    simp only [Order.planned, bne_iff_ne.2 hs, decide_eq_false (Nat.not_lt.2 (Nat.le_add_right b i)), Bool.not_true, Bool.or_false,
      Bool.false_eq_true, not_false_eq_true]
  rw [Order.writeGrant, if_neg htaken]
  simp only [Nat.add_sub_cancel_left, he, hopen, Bool.false_eq_true, if_false, Nat.add_eq_left]

/-- A grant write is discarded, or it is to an open entry of an order that is not CLOSED_UNBILLED. -/
theorem Order.writeGrant_cases (b key rate : Nat) (o : Order) :
    o.writeGrant b key rate = o ∨
      ∃ i e, key = b + i ∧ o.state ≠ .closedUnbilled ∧ o.grants[i]? = some e ∧ e.frozen = false := by
  by_cases hs : o.state = .closedUnbilled
  · exact .inl (Order.writeGrant_closed b key rate hs)
  rcases Nat.lt_or_ge key b with hb | hb
  · exact .inl (by simp [Order.writeGrant, hb])
  obtain ⟨i, rfl⟩ := Nat.exists_eq_add_of_le hb
  cases he : o.grants[i]? with
  | none => exact .inl (by simp [Order.writeGrant, he])
  | some e =>
    cases hopen : e.frozen with
    | true => exact .inl (by simp [Order.writeGrant, he, hopen])
    | false => exact .inr ⟨i, e, rfl, hs, he, hopen⟩

/-- A write for another period leaves an entry. -/
theorem Order.getElem?_writeGrant_of_ne (h : key ≠ b + i) (rate : Nat) (o : Order) :
    (o.writeGrant b key rate).grants[i]? = o.grants[i]? := by
  rcases Order.writeGrant_cases b key rate o with hsame | ⟨i', e, hkey, hs, he, hopen⟩
  · rw [hsame]
  · rw [Order.writeGrant_of_open hs he hopen hkey]
    exact List.getElem?_set_ne fun h' => h (hkey.trans (congrArg (b + ·) h'))

/-- A frozen entry stays. -/
theorem Order.getElem?_writeGrant_of_frozen (he : o.grants[i]? = some e) (hfrozen : e.frozen = true) (b key rate : Nat) :
    (o.writeGrant b key rate).grants[i]? = some e := by
  rcases Order.writeGrant_cases b key rate o with hsame | ⟨i', e', hkey, hs, he', hopen⟩
  · rw [hsame, he]
  · rw [Order.writeGrant_of_open hs he' hopen hkey, List.getElem?_set_ne fun h => ?_, he]
    subst h
    simp_all

/-- The number of entries stays. -/
theorem Order.length_writeGrant (b key rate : Nat) (o : Order) : (o.writeGrant b key rate).grants.length = o.grants.length := by
  rcases Order.writeGrant_cases b key rate o with hsame | ⟨i, e, hkey, hs, he, hopen⟩
  · rw [hsame]
  · rw [Order.writeGrant_of_open hs he hopen hkey, List.length_set]

/-- The period floor grant after a write: lowered to entry 0 when that has changed. -/
theorem Order.writeGrant_floor (b key rate : Nat) (o : Order) :
    (o.writeGrant b key rate).floor =
      if (o.writeGrant b key rate).entry0 = o.entry0 then o.floor else min o.floor (o.writeGrant b key rate).entry0 := by
  rcases Order.writeGrant_cases b key rate o with hsame | ⟨i, e, hkey, hs, he, hopen⟩
  · rw [hsame, if_pos rfl]
  · rw [Order.writeGrant_of_open hs he hopen hkey]
    cases i with
    | zero =>
      obtain ⟨hlt, rfl⟩ := List.getElem?_eq_some_iff.1 he
      by_cases hrate : rate = o.grants[0].rate <;> simp [Order.entry0, hlt, hrate]
    | succ i => simp [Order.entry0]

/-- A write for a later or an earlier period leaves entry 0 and the period floor grant. -/
theorem Order.writeGrant_of_ne (h : key ≠ b) (rate : Nat) (o : Order) :
    (o.writeGrant b key rate).entry0 = o.entry0 ∧ (o.writeGrant b key rate).floor = o.floor := by
  have hentry : (o.writeGrant b key rate).entry0 = o.entry0 := by
    simp only [Order.entry0, List.getD_eq_getElem?_getD, Order.getElem?_writeGrant_of_ne (i := 0) h]
  exact ⟨hentry, (Order.writeGrant_floor b key rate o).trans (if_pos hentry)⟩

end

/-! ## The grant writes of a recompute (R80) -/

/-- What grant writes leave of an order: every field but the schedule and the period floor grant, the number of entries, the frozen entries,
and a CLOSED_UNBILLED order whole; the floor is not raised (R31, R32). -/
structure Order.GrantsWritten (o o' : Order) : Prop where
  fields : o' = { o with grants := o'.grants, floor := o'.floor }
  length : o'.grants.length = o.grants.length
  floor : o'.floor ≤ o.floor
  closed : o.state = .closedUnbilled → o' = o
  frozen : ∀ (i : Nat) (e : GrantEntry), o.grants[i]? = some e → e.frozen = true → o'.grants[i]? = some e

/-- An order as it was. -/
theorem Order.GrantsWritten.refl (o : Order) : o.GrantsWritten o where
  fields := rfl
  length := rfl
  floor := Nat.le_refl _
  closed _ := rfl
  frozen _ _ he _ := he

/-- Writes after writes. -/
theorem Order.GrantsWritten.trans {o o' o'' : Order} (h : o.GrantsWritten o') (h' : o'.GrantsWritten o'') : o.GrantsWritten o'' where
  fields := h'.fields.trans (congrArg (fun x : Order => { x with grants := o''.grants, floor := o''.floor }) h.fields)
  length := h'.length.trans h.length
  floor := Nat.le_trans h'.floor h.floor
  closed hs := by
    have ho' := h.closed hs
    rw [h'.closed (ho' ▸ hs), ho']
  frozen i e he hfrozen := h'.frozen i e (h.frozen i e he hfrozen) hfrozen

/-- One grant write. -/
theorem Order.grantsWritten_writeGrant (b key rate : Nat) (o : Order) : o.GrantsWritten (o.writeGrant b key rate) where
  fields := Order.writeGrant_eq b key rate o
  length := Order.length_writeGrant b key rate o
  floor := Order.writeGrant_floor_le b key rate o
  closed hs := Order.writeGrant_closed b key rate hs
  frozen _ _ he hfrozen := Order.getElem?_writeGrant_of_frozen he hfrozen b key rate

section

variable {c : Config.Settings} {b planKey k i : Nat} {shares : List Nat} {o : Order}

/-- The grant writes of a recompute into one order. -/
theorem grantsWritten_writeShares (c : Config.Settings) (b planKey : Nat) (shares : List Nat) (o : Order) :
    o.GrantsWritten (writeShares c b planKey shares o) :=
  List.foldlRecOn shares.zipIdx _ (Order.GrantsWritten.refl o) fun x hx p _ =>
    hx.trans (Order.grantsWritten_writeGrant b _ p.1 x)

/-- The write of the share at one offset, with the share's number in the list. -/
def Order.writeShare (b planKey tau : Nat) (o : Order) (p : Nat × Nat) : Order := o.writeGrant b (planKey + p.2 + tau) p.1

/-- The write of a share leaves the state and the turnout. -/
theorem Order.writeShare_fields (b planKey tau : Nat) (o : Order) (p : Nat × Nat) :
    (o.writeShare b planKey tau p).state = o.state ∧ (o.writeShare b planKey tau p).turnout = o.turnout := by
  rw [Order.writeShare.eq_def, Order.writeGrant_eq]
  exact ⟨rfl, rfl⟩

/-- The writes are for periods that the order's turnout gives, which no write changes. -/
theorem writeShares_eq_foldl (c : Config.Settings) (b planKey : Nat) (shares : List Nat) (o : Order) :
    writeShares c b planKey shares o = shares.zipIdx.foldl (Order.writeShare b planKey (tauOf c o.turnout)) o := by
  have hfold : ∀ (l : List (Nat × Nat)) (x : Order), x.turnout = o.turnout →
      l.foldl (fun x p => x.writeGrant b (planKey + p.2 + tauOf c x.turnout) p.1) x =
        l.foldl (Order.writeShare b planKey (tauOf c o.turnout)) x := by
    intro l
    induction l with
    | nil => exact fun _ _ => rfl
    | cons p l ih =>
      intro x hx
      rw [List.foldl_cons, List.foldl_cons, hx]
      exact ih _ ((Order.writeShare_fields b planKey (tauOf c o.turnout) x p).2.trans hx)
  exact hfold _ o rfl

/-- The open entry for a planned period takes the share of its offset. -/
theorem getElem?_writeShares_of_open {rate : Nat} {e : GrantEntry} (hk : shares[k]? = some rate)
    (hperiod : planKey + k + tauOf c o.turnout = b + i) (hs : o.state ≠ .closedUnbilled) (he : o.grants[i]? = some e)
    (hopen : e.frozen = false) : (writeShares c b planKey shares o).grants[i]? = some { e with rate := rate } := by
  rw [writeShares_eq_foldl]
  obtain ⟨x, hx, hlast⟩ := view_foldl_of_one (view := fun x : Order => (x.state, x.grants[i]?)) hk (Nat.zero_add k)
    (write := Order.writeShare b planKey (tauOf c o.turnout))
    (fun w j x hj => Prod.ext_iff.2 ⟨(Order.writeShare_fields ..).1, Order.getElem?_writeGrant_of_ne (by dsimp only; omega) w x⟩) o
  obtain ⟨hstate, hentry⟩ := Prod.ext_iff.1 hx
  dsimp only at hstate hentry
  rw [he] at hentry
  have hlt : i < x.grants.length := (List.getElem?_eq_some_iff.1 hentry).1
  refine (congrArg Prod.snd hlast).trans ?_
  rw [Order.writeShare.eq_def, Order.writeGrant_of_open (hstate ▸ hs) hentry hopen hperiod]
  exact List.getElem?_set_self hlt

/-- The entry of a period that is not planned stays. -/
theorem getElem?_writeShares_of_ne (h : ∀ k, k < shares.length → planKey + k + tauOf c o.turnout ≠ b + i) :
    (writeShares c b planKey shares o).grants[i]? = o.grants[i]? := by
  rw [writeShares_eq_foldl]
  refine view_foldl_of_keeps (view := fun x : Order => x.grants[i]?) (fun p hp x => ?_) o
  have hlt := List.snd_lt_of_mem_zipIdx hp
  exact Order.getElem?_writeGrant_of_ne (h p.2 (by simpa using hlt)) _ _

/-- The period floor grant after the writes: lowered to entry 0 when that has changed. -/
theorem writeShares_floor (c : Config.Settings) (b planKey : Nat) (shares : List Nat) (o : Order) :
    (writeShares c b planKey shares o).floor =
      if (writeShares c b planKey shares o).entry0 = o.entry0 then o.floor
      else min o.floor (writeShares c b planKey shares o).entry0 := by
  rw [writeShares_eq_foldl]
  by_cases hnow : ∃ k, k < shares.length ∧ planKey + k + tauOf c o.turnout = b
  · obtain ⟨k, hk, hperiod⟩ := hnow
    obtain ⟨x, hx, hlast⟩ := view_foldl_of_one (view := fun x : Order => (x.entry0, x.floor)) (List.getElem?_eq_getElem hk)
      (Nat.zero_add k) (write := Order.writeShare b planKey (tauOf c o.turnout))
      (fun w j x hj => Prod.ext_iff.2 (Order.writeGrant_of_ne (by dsimp only; omega) w x)) o
    obtain ⟨hentry, hfloor⟩ := Prod.ext_iff.1 hx
    obtain ⟨hentry', hfloor'⟩ := Prod.ext_iff.1 hlast
    dsimp only at hentry hfloor hentry' hfloor'
    rw [hentry', hfloor', ← hentry, ← hfloor]
    exact Order.writeGrant_floor _ _ _ x
  · obtain ⟨hentry, hfloor⟩ := Prod.ext_iff.1 (view_foldl_of_keeps (view := fun x : Order => (x.entry0, x.floor))
      (write := Order.writeShare b planKey (tauOf c o.turnout)) (l := shares.zipIdx) (fun p hp x => by
        have hlt := List.snd_lt_of_mem_zipIdx hp
        exact Prod.ext_iff.2 (Order.writeGrant_of_ne (fun h => hnow ⟨p.2, by simpa using hlt, h⟩) _ x)) o)
    rw [if_pos hentry]
    exact hfloor

end

/-! ## The downstream schedules (R81) -/

section

variable {i index : Nat} {es : List DownEntry} {e : DownEntry}

/-- A write to an open entry. -/
theorem writeDown_of_open (he : es[i]? = some e) (hopen : e.frozen = false) (v : ByClass) :
    writeDown es i v = es.set i { e with value := some v } := by simp [writeDown, he, hopen]

/-- A write to a frozen entry is discarded. -/
theorem writeDown_of_frozen (he : es[i]? = some e) (hfrozen : e.frozen = true) (v : ByClass) : writeDown es i v = es := by
  simp [writeDown, he, hfrozen]

/-- The number of entries stays. -/
theorem length_writeDown (es : List DownEntry) (index : Nat) (v : ByClass) : (writeDown es index v).length = es.length := by
  unfold writeDown
  split
  · rfl
  · split
    · rfl
    · exact List.length_set

/-- A write to another entry leaves an entry. -/
theorem getElem?_writeDown_of_ne (h : index ≠ i) (es : List DownEntry) (v : ByClass) : (writeDown es index v)[i]? = es[i]? := by
  unfold writeDown
  split
  · rfl
  · split
    · rfl
    · exact List.getElem?_set_ne h

/-- A frozen entry stays. -/
theorem getElem?_writeDown_of_frozen (he : es[i]? = some e) (hfrozen : e.frozen = true) (index : Nat) (v : ByClass) :
    (writeDown es index v)[i]? = some e := by
  by_cases h : index = i
  · rw [h, writeDown_of_frozen he hfrozen, he]
  · rw [getElem?_writeDown_of_ne h, he]

end

section

variable {r : PlanResults} {tau n k i : Nat} {es : List DownEntry} {e : DownEntry}

/-- The number of entries stays. -/
theorem length_writeSchedule (r : PlanResults) (tau n : Nat) (es : List DownEntry) :
    (writeSchedule r tau n es).length = es.length :=
  view_foldl_of_keeps (view := List.length) (fun _ _ x => length_writeDown x _ _) es

/-- A frozen entry stays. -/
theorem getElem?_writeSchedule_of_frozen (he : es[i]? = some e) (hfrozen : e.frozen = true) :
    (writeSchedule r tau n es)[i]? = some e :=
  List.foldlRecOn (motive := fun x : List DownEntry => x[i]? = some e) _ _ he fun _ hx _ _ =>
    getElem?_writeDown_of_frozen hx hfrozen _ _

/-- An open entry at travel time and offset takes the shares of that offset. -/
theorem getElem?_writeSchedule_of_open {p : OffsetPlan} (hk : r.offsets[k]? = some p) (he : es[k + tau]? = some e)
    (hopen : e.frozen = false) :
    (writeSchedule r tau n es)[k + tau]? = some { e with value := some (p.downShare.getD n ByClass.zero) } := by
  obtain ⟨x, hx, hlast⟩ := view_foldl_of_one (view := fun x : List DownEntry => x[k + tau]?)
    (write := fun x p => writeDown x (p.2 + tau) (p.1.downShare.getD n ByClass.zero)) hk (Nat.zero_add k)
    (fun w j x hj => getElem?_writeDown_of_ne (by dsimp only; omega) x _) es
  refine hlast.trans ?_
  dsimp only
  rw [writeDown_of_open (hx.trans he) hopen]
  exact List.getElem?_set_self (List.getElem?_eq_some_iff.1 (hx.trans he)).1

/-- An entry below the travel time or past the last offset stays. -/
theorem getElem?_writeSchedule_of_ne (h : i < tau ∨ tau + r.offsets.length ≤ i) : (writeSchedule r tau n es)[i]? = es[i]? := by
  refine view_foldl_of_keeps (view := fun x : List DownEntry => x[i]?) (fun p hp x => ?_) es
  have hlt := List.snd_lt_of_mem_zipIdx hp
  exact getElem?_writeDown_of_ne (by omega) x _

end

/-! ## GRANT_CHANGED (R33) -/

/-- The test of GRANT_CHANGED: an ACTIVE order of the first list stands in the second with another entry 0. -/
theorem entry0Changed_iff {old new : List (Option Order)} :
    entry0Changed old new = true ↔
      ∃ (slot : Nat) (o o' : Order), old[slot]? = some (some o) ∧ new[slot]? = some (some o') ∧ o.state = .active ∧
        o.entry0 ≠ o'.entry0 := by
  simp only [entry0Changed, List.any_eq_true, List.mem_iff_getElem?, List.getElem?_zip_eq_some, Prod.exists]
  constructor
  · rintro ⟨x, y, ⟨slot, hx, hy⟩, h⟩
    cases x with
    | none => cases h
    | some o =>
      cases y with
      | none => cases h
      | some o' => exact ⟨slot, o, o', hx, hy, by simpa using h⟩
  · rintro ⟨slot, o, o', ho, ho', h⟩
    exact ⟨some o, some o', ⟨slot, ho, ho'⟩, by simpa using h⟩

/-! ## The release target in the gate (R84, R101) -/

/-- A computation of the opening target writes that target and the release target last used. -/
theorem Gate.computeTarget_eq (c : Config.Settings) (g : Gate) :
    g.computeTarget c = { g with target := (g.computeTarget c).target, lastUsed := (g.computeTarget c).lastUsed } := by
  unfold Gate.computeTarget
  split
  · rfl
  · split
    · rfl
    · split <;> rfl

/-- The start rule leaves the gate or enters a drive state. -/
theorem Gate.startRule_cases (c : Config.Settings) (now : Nat) (g : Gate) :
    g.startRule c now = g ∨ ∃ d, g.startRule c now = g.enter now d := by
  unfold Gate.startRule
  dsimp only
  split
  · exact .inl rfl
  split
  · exact .inl rfl
  split
  · exact .inl rfl
  split
  · exact .inr ⟨_, rfl⟩
  split
  · exact .inr ⟨_, rfl⟩
  · exact .inl rfl

/-- Acting on a new target leaves the gate or enters a drive state. -/
theorem Gate.onTarget_cases (c : Config.Settings) (now : Nat) (g : Gate) :
    g.onTarget c now = g ∨ ∃ d, g.onTarget c now = g.enter now d := by
  cases hdrive : g.drive with
  | stopped =>
    simp only [Gate.onTarget, hdrive]
    exact Gate.startRule_cases c now g
  | opening | closing =>
    simp only [Gate.onTarget, hdrive]
    split
    · exact .inr ⟨_, rfl⟩
    · exact .inl rfl
  | resting | tripped | fault => exact .inl (by simp only [Gate.onTarget, hdrive])

/-- Acting on a new target leaves all but the drive, its timers and the time of the last stop. -/
theorem Gate.onTarget_eq (c : Config.Settings) (now : Nat) (g : Gate) :
    g.onTarget c now = { g with
      drive := (g.onTarget c now).drive, restStart := (g.onTarget c now).restStart
      stallStart := (g.onTarget c now).stallStart, lastOff := (g.onTarget c now).lastOff } := by
  rcases Gate.onTarget_cases c now g with h | ⟨d, h⟩
  · rw [h]
  · rw [h, Gate.enter]

/-- A release target leads to a computation in AUTO, and only when none has been used or it is far from the one last used. -/
def Gate.ActsOn (c : Config.Settings) (release : Nat) (g : Gate) : Prop :=
  g.mode = .auto ∧ ∀ used, g.lastUsed = some used →
    used + c.line.changeThreshold ≤ release ∨ release + c.line.changeThreshold ≤ used

section

variable {c : Config.Settings} {now release : Nat} {g : Gate}

/-- A release target that is acted on. -/
theorem Gate.handTarget_of_acts (h : g.ActsOn c release) :
    g.handTarget c now release = (({ g with inHand := some release } : Gate).computeTarget c).onTarget c now := by
  obtain ⟨hmode, hfar⟩ := h
  refine if_pos ⟨hmode, ?_⟩
  cases hused : g.lastUsed with
  | none => rfl
  | some used => simpa [hused] using hfar used hused

/-- A release target that is kept in hand. -/
theorem Gate.handTarget_of_not_acts (h : ¬g.ActsOn c release) :
    g.handTarget c now release = { g with inHand := some release } := by
  refine if_neg fun hacts => h ⟨hacts.1, fun used hused => ?_⟩
  simpa [hused] using hacts.2

/-- A release target changes of the gate what a computation and the drive change. -/
theorem Gate.handTarget_eq (c : Config.Settings) (now release : Nat) (g : Gate) :
    g.handTarget c now release = { g with
      inHand := some release, target := (g.handTarget c now release).target, lastUsed := (g.handTarget c now release).lastUsed
      drive := (g.handTarget c now release).drive, restStart := (g.handTarget c now release).restStart
      stallStart := (g.handTarget c now release).stallStart, lastOff := (g.handTarget c now release).lastOff } := by
  by_cases h : g.ActsOn c release
  · rw [Gate.handTarget_of_acts h, Gate.onTarget_eq, Gate.computeTarget_eq]
  · rw [Gate.handTarget_of_not_acts h]

end

/-! ## The blocks after a recompute (R67) -/

section

variable {s : State}

/-- Outside RUN a recompute does nothing. -/
theorem State.recompute_of_not_running (h : s.running = false) : s.recompute = s := by simp [State.recompute, h]

/-- The Order Book after a recompute in RUN. -/
theorem State.recompute_book (h : s.running = true) : s.recompute.book =
    { s.book with slots := grantedSlots s.settings s.book.bookKey s.computePlan s.book.slots } := by simp [State.recompute, h]

/-- The Planner after a recompute in RUN. -/
theorem State.recompute_planner (h : s.running = true) : s.recompute.planner =
    { s.planner with results := some s.computePlan, source := s.supplySource, schedules := s.grantedSchedules s.computePlan } := by
  simp [State.recompute, h]

/-- The gate after a recompute in RUN. -/
theorem State.recompute_gate (h : s.running = true) :
    s.recompute.gate = s.gate.handTarget s.settings s.time.elapsed s.computePlan.release.target := by simp [State.recompute, h]

/-- The alerts after a recompute in RUN. -/
theorem State.recompute_alerts (h : s.running = true) : s.recompute.alerts =
    (s.raiseIf (entry0Changed s.book.slots s.recompute.book.slots) .grantChanged).alerts := by
  rw [State.recompute_book h]
  simp only [State.recompute, h, Bool.not_true, Bool.false_eq_true, if_false, State.withGate_alerts, State.comparePlan_frame]
  unfold State.raiseIf
  split <;> rfl

/-- A recompute changes of the line the REACH request and the transmitter's state. -/
theorem State.recompute_line (h : s.running = true) :
    s.recompute.line = { s.line with reachReq := s.recompute.line.reachReq, tx := s.recompute.line.tx } := by
  cases hchanged : (s.withPlanner s.recompute.planner).planChanged s.computePlan with
  | true =>
    rw [State.recompute_line_of_changed h hchanged]
    split <;> rfl
  | false => rw [State.recompute_line_of_not_changed h hchanged]

/-- The share of a slot at an offset of the results. -/
theorem State.getElem?_sharesOf (s : State) (slot : Nat) {k : Nat} (hk : k < 12) :
    (s.computePlan.sharesOf slot)[k]? = some ((s.planOffset k).ownShare.getD slot 0) := by
  simp [PlanResults.sharesOf, State.computePlan, hk]

/-- A slot after a recompute in RUN: its order after the grant writes. -/
theorem State.recompute_at? (h : s.running = true) (slot : Nat) : s.recompute.book.at? slot =
    (s.book.at? slot).map (writeShares s.settings s.book.bookKey s.planner.planKey (s.computePlan.sharesOf slot)) := by
  rw [State.recompute_book h]
  simp only [OrderBook.at?, grantedSlots, List.getElem?_map, List.getElem?_zipIdx, Nat.zero_add]
  cases hx : s.book.slots[slot]? <;> rfl

/-- A downstream schedule after a recompute in RUN. -/
theorem State.recompute_schedules (h : s.running = true) {j : Nat} {es : List DownEntry} (hes : s.planner.schedules[j]? = some es) :
    s.recompute.planner.schedules[j]? =
      some (writeSchedule s.computePlan (s.settings.neighbours.downstream.getD j default).tau j es) := by
  simp [State.recompute_planner h, State.grantedSchedules, List.getElem?_zipIdx, hes]

/-- GRANT_CHANGED is raised by another entry 0 of an ACTIVE order. -/
theorem State.entry0Changed_recompute_iff (s : State) :
    entry0Changed s.book.slots s.recompute.book.slots = true ↔
      ∃ slot o o', s.book.at? slot = some o ∧ s.recompute.book.at? slot = some o' ∧ o.state = .active ∧ o.entry0 ≠ o'.entry0 := by
  simp only [entry0Changed_iff, OrderBook.at?, Option.join_eq_some_iff]

end

/-- Settles O18: the orders, the schedules, and the other blocks one by one. -/
theorem recompute : Obligations.Recompute := by
  refine ⟨?orders, ?schedules, fun s => State.recompute_of_not_running, ?blocks⟩
  case orders =>
    intro s slot o ho
    cases hrun : s.running with
    | false =>
      rw [State.recompute_of_not_running hrun]
      exact ⟨o, ho, rfl, rfl, Nat.le_refl _, (if_pos rfl).symm, fun _ => rfl,
        fun i e he => ⟨fun _ => he, fun _ h => absurd h (by decide), fun _ => he⟩⟩
    | true =>
      refine ⟨writeShares s.settings s.book.bookKey s.planner.planKey (s.computePlan.sharesOf slot) o,
        by rw [State.recompute_at? hrun, ho]; rfl, ?_⟩
      have hwritten := grantsWritten_writeShares s.settings s.book.bookKey s.planner.planKey (s.computePlan.sharesOf slot) o
      refine ⟨hwritten.fields, hwritten.length, hwritten.floor, writeShares_floor _ _ _ _ o, hwritten.closed, fun i e he => ?_⟩
      refine ⟨hwritten.frozen i e he, fun k _ hs hopen hk hperiod => ?_, fun hnone => ?_⟩
      · exact getElem?_writeShares_of_open (s.getElem?_sharesOf slot hk) hperiod hs he hopen
      · exact (getElem?_writeShares_of_ne fun k hk => hnone k (by simpa [PlanResults.sharesOf, State.computePlan] using hk)).trans he
  case schedules =>
    intro s j i es e hes he tau
    cases hrun : s.running with
    | false =>
      rw [State.recompute_of_not_running hrun]
      exact ⟨es, e, hes, rfl, he, fun _ => rfl, fun h => absurd h (by decide), fun _ => rfl⟩
    | true =>
      obtain ⟨e', he'⟩ : ∃ e', (writeSchedule s.computePlan tau j es)[i]? = some e' :=
        ⟨_, List.getElem?_eq_getElem ((length_writeSchedule _ _ _ es).symm ▸ (List.getElem?_eq_some_iff.1 he).1)⟩
      refine ⟨_, e', State.recompute_schedules hrun hes, length_writeSchedule _ _ _ es, he', fun hfrozen => ?_,
        fun _ hopen hlow hhigh => ?_, fun hout => ?_⟩
      · exact Option.some.inj (he'.symm.trans (getElem?_writeSchedule_of_frozen he hfrozen))
      · obtain ⟨k, rfl⟩ := Nat.exists_eq_add_of_le' hlow
        have hk : s.computePlan.offsets[k]? = some (s.planOffset k) := by
          simp [State.computePlan, show k < 12 by omega]
        rw [Nat.add_sub_cancel]
        exact Option.some.inj (he'.symm.trans (getElem?_writeSchedule_of_open hk he hopen))
      · have hsame : (writeSchedule s.computePlan tau j es)[i]? = es[i]? :=
          getElem?_writeSchedule_of_ne (by simpa [State.computePlan] using hout)
        exact Option.some.inj (he'.symm.trans (hsame.trans he))
  case blocks =>
    intro s hrun t
    obtain ⟨hpending, hstartup, hsettings, htime, hinbox, hneigh, hmeters, hclose, hbilling, hlink⟩ := s.recompute_frame
    have hgate : t.gate = s.gate.handTarget s.settings s.time.elapsed s.computePlan.release.target := State.recompute_gate hrun
    have halerts := State.recompute_alerts hrun
    refine ⟨hstartup, hsettings, htime, hinbox, hneigh, hmeters, hclose, hbilling, hlink, hpending, ?bookKey, ?slots, ?free,
      ?planner, ?others, ?granted, ?alerts, State.recompute_line hrun, fun hacts => ?acts, fun hkeeps => ?keeps, ?gate⟩
    case bookKey => exact (congrArg OrderBook.bookKey (State.recompute_book hrun)).trans rfl
    case slots => simp [t, State.recompute_book hrun, grantedSlots]
    case free => exact fun slot hfree => (State.recompute_at? hrun slot).trans (by rw [hfree]; rfl)
    case planner => simp only [t, State.recompute_planner hrun]
    case others => exact fun c hc => by simp [t, halerts, hasCause_raiseIf, hc]
    case granted => simp [t, halerts, hasCause_raiseIf, State.entry0Changed_recompute_iff]
    case alerts => exact halerts ▸ State.raiseIf_alerts _ _ _
    case acts => exact hgate.trans (Gate.handTarget_of_acts hacts)
    case keeps => exact hgate.trans (Gate.handTarget_of_not_acts hkeeps)
    case gate => exact hgate ▸ Gate.handTarget_eq _ _ _ _

end Sys2Proof.Machine
end

section
/-! The period change of the Release Planner: the staged target, the level correction, the guard cut and the downstream schedules (R68, R82,
R85 to R87). -/

namespace Sys2Proof.Machine

/-! ## The downstream schedules (R82) -/

section

variable {n i : Nat} {es : List DownEntry}

/-- The entry that is shifted into a place of twenty: a valueless open one where the schedule held none. -/
theorem getElem?_shift (hlen : es.length = 20) (hi : i < 20) :
    (es.drop n ++ List.replicate (min n 20) ({ value := none, frozen := false } : DownEntry))[i]? =
      some ((es[i + n]?).getD { value := none, frozen := false }) := by
  rcases Nat.lt_or_ge (i + n) 20 with h | h
  · have hlt : i + n < es.length := hlen ▸ h
    rw [List.getElem?_append_left (by simp; omega), List.getElem?_drop, Nat.add_comm n i, List.getElem?_eq_getElem hlt]
    rfl
  · rw [List.getElem?_append_right (by simp; omega), List.getElem?_eq_none (hlen ▸ h : es.length ≤ i + n),
      List.getElem?_replicate, if_pos (by simp; omega)]
    rfl

/-- A schedule after the shift and the freeze, entry by entry. -/
theorem getElem?_shiftSchedule (hlen : es.length = 20) (hi : i < 20) (tau : Nat) :
    (shiftSchedule n tau es)[i]? = some
      { value := (es[i + n]?).bind DownEntry.value
        frozen := ((es[i + n]?).map DownEntry.frozen).getD false || decide (i < tau) } := by
  simp only [shiftSchedule, List.getElem?_map, List.getElem?_zipIdx, Nat.zero_add, getElem?_shift hlen hi, Option.map_some]
  by_cases htau : i < tau <;> cases es[i + n]? <;> simp [htau]

end

/-! ## The staged target (R86) and the level correction (R85) -/

/-- The target level after the staged one has taken effect. -/
theorem Planner.applyStaged_eq (p : Planner) : p.applyStaged = { p with target := p.staged.getD p.target, staged := none } := by
  unfold Planner.applyStaged
  split <;> rename_i h
  · rw [h]; rfl
  · obtain ⟨⟩ := p
    cases h
    rfl

section

variable {s : State}

/-- No correction at a tail station or without a controlled level. -/
theorem State.levelCorrection_of_none (h : isTail s.settings = true ∨ s.neigh.controlledLevel = none) : s.levelCorrection = 0 := by
  unfold State.levelCorrection
  split
  · rfl
  · rename_i htail
    rw [h.resolve_left htail]

/-- The correction for a controlled level. -/
theorem State.levelCorrection_of_some (h : isTail s.settings = false) {level target : Nat}
    (hlevel : s.neigh.controlledLevel = some level) (htarget : s.planner.target = target) :
    let error := (target : Int) - level
    s.levelCorrection =
      if error.natAbs ≤ s.settings.levels.deadZone then 0
      else clampInt (-s.settings.levels.correctionLimit) s.settings.levels.correctionLimit
        ((s.settings.levels.gain * error).tdiv 10) := by
  simp [State.levelCorrection, h, hlevel, htarget]

end

/-! ## The guard cut (R87) -/

section

variable {c : Config.Settings} {h cut : Nat}

theorem guardAfter_of_low (hlow : h < c.levels.minimum) :
    guardAfter c (some h) cut = min (cut + c.levels.guardStep) 32000 := if_pos hlow

theorem guardAfter_of_between (hmin : c.levels.minimum ≤ h) (hmax : h ≤ c.levels.minimum + c.levels.hysteresis) :
    guardAfter c (some h) cut = cut := (if_neg (Nat.not_lt.2 hmin)).trans (if_neg (Nat.not_lt.2 hmax))

theorem guardAfter_of_high (hhigh : c.levels.minimum + c.levels.hysteresis < h) :
    guardAfter c (some h) cut = cut - c.levels.guardStep := (if_neg (by omega)).trans (if_pos hhigh)

end

/-! ## The handling of a new key (R68) -/

/-- The part after the Planner has gone over to a new key, before it recomputes. -/
def State.plannedAt (s : State) (key : Nat) : State :=
  s.withPlanner { s.planner with
    planKey := key
    target := s.planner.staged.getD s.planner.target
    staged := none
    correction := (s.withPlanner s.planner.applyStaged).levelCorrection
    guardCut := guardAfter s.settings s.gate.hU s.planner.guardCut
    schedules := s.planner.schedules.zipIdx.map fun p =>
      shiftSchedule (key - s.planner.planKey) (s.settings.neighbours.downstream.getD p.2 default).tau p.1 }

section

variable {s : State} {key : Nat}

/-- A key that is not above the plan key is discarded. -/
theorem State.planPeriodChange_of_le (h : key ≤ s.planner.planKey) : s.planPeriodChange key = s := if_pos h

/-- A key above the plan key: the Planner goes over to it and recomputes. -/
theorem State.planPeriodChange_of_lt (h : s.planner.planKey < key) : s.planPeriodChange key = (s.plannedAt key).recompute := by
  rw [State.planPeriodChange, if_neg (Nat.not_le.2 h)]
  simp only [State.plannedAt, Planner.applyStaged_eq]
  rfl

/-- A downstream schedule at the new key. -/
theorem State.plannedAt_schedules {j : Nat} {es : List DownEntry} (h : s.planner.schedules[j]? = some es) :
    (s.plannedAt key).planner.schedules[j]? =
      some (shiftSchedule (key - s.planner.planKey) (s.settings.neighbours.downstream.getD j default).tau es) := by
  simp [State.plannedAt, List.getElem?_zipIdx, h]

/-- PLAN_PERIOD_CHANGE in RUN takes the oldest event. -/
theorem exec_planPeriodChange {e : PeriodEvent} {rest : List PeriodEvent} (hrun : s.running = true) (h : s.inbox.planner = e :: rest) :
    exec .planPeriodChange s = .next ((s.withInbox { s.inbox with planner := rest }).planPeriodChange e.newKey) := by
  change execPlanPeriodChange s = _
  simp only [execPlanPeriodChange, h]
  exact if_pos hrun

end

/-- Settles O48: an old key is discarded, and a new one is the recompute of the Planner that has gone over to it. -/
theorem planPeriodChange : Obligations.PlanPeriodChange := by
  intro s e rest hrun hinbox u p lv target err
  have hexec : exec .planPeriodChange s = .next (u.planPeriodChange e.newKey) := exec_planPeriodChange hrun hinbox
  refine ⟨fun hold => ?discarded, fun hnew => ?taken⟩
  case discarded => rw [hexec, State.planPeriodChange_of_le (s := u) hold]
  case taken =>
    rw [State.planPeriodChange_of_lt (s := u) hnew] at hexec
    refine ⟨_, u.plannedAt e.newKey, hexec, rfl, rfl, rfl, ?results, fun hnone => ?uncorrected,
      fun level htail hlevel => ?corrected, fun hnone => ?unguarded, fun h hsome => ?guarded, fun j i es hes hlen hi => ?schedule⟩
    case results => exact (State.recompute_of_running (s := u.plannedAt e.newKey) hrun).1
    case uncorrected => exact State.levelCorrection_of_none hnone
    case corrected =>
      have hcorrection := State.levelCorrection_of_some (s := u.withPlanner p.applyStaged) htail hlevel
        (congrArg Planner.target (Planner.applyStaged_eq p))
      exact ⟨fun hdead => hcorrection.trans (if_pos hdead), fun hfar => hcorrection.trans (if_neg (Nat.not_le.2 hfar))⟩
    case unguarded => exact congrArg (guardAfter s.settings · p.guardCut) hnone
    case guarded =>
      have hguard : (u.plannedAt e.newKey).planner.guardCut = guardAfter s.settings (some h) p.guardCut :=
        congrArg (guardAfter s.settings · p.guardCut) hsome
      rw [hguard]
      exact ⟨guardAfter_of_low, guardAfter_of_between, guardAfter_of_high⟩
    case schedule => exact ⟨_, State.plannedAt_schedules hes, getElem?_shiftSchedule hlen hi _⟩

end Sys2Proof.Machine
end

section
/-! The reads of a turnout and of the alerts, TURNOUT_QUERY and ALERT_READ (R127, R175), with the two answers of the Order Book about a
turnout (R34). -/

namespace Sys2Proof.Machine

section

/-! ## The answers of the Order Book about a turnout (R34) -/

variable {b : OrderBook} {i slot : Nat} {o : Order}

/-- The orders that take water at a turnout are its ACTIVE and CLOSING orders. -/
theorem OrderBook.hasLiveDraw_iff :
    b.hasLiveDraw i = true ↔
      ∃ slot o, b.at? slot = some o ∧ o.turnout = i ∧ (o.state = .active ∨ o.state = .closing) := by
  simp [OrderBook.hasLiveDraw, OrderBook.mem_live]

/-- The order that is found is ACTIVE on the turnout. -/
theorem OrderBook.at?_of_activeOn (h : b.activeOn i = some o) : ∃ slot, b.at? slot = some o ∧ o.turnout = i ∧ o.state = .active := by
  obtain ⟨p, hp, rfl⟩ := Option.map_eq_some_iff.1 h
  exact ⟨p.1, OrderBook.mem_live.1 (List.mem_of_find?_eq_some hp), by simpa using List.find?_some hp⟩

/-- No order is found exactly when none is ACTIVE on the turnout. -/
theorem OrderBook.activeOn_eq_none_iff :
    b.activeOn i = none ↔ ∀ slot o, ¬(b.at? slot = some o ∧ o.turnout = i ∧ o.state = .active) := by
  simp [OrderBook.activeOn, OrderBook.mem_live]

/-- The one ACTIVE order on a turnout is found. -/
theorem OrderBook.activeOn_of_unique (h : b.at? slot = some o ∧ o.turnout = i ∧ o.state = .active)
    (honly : ∀ slot' o', b.at? slot' = some o' ∧ o'.turnout = i ∧ o'.state = .active → slot' = slot) : b.activeOn i = some o := by
  cases hfound : b.activeOn i with
  | none => exact absurd h (OrderBook.activeOn_eq_none_iff.1 hfound slot o)
  | some o' =>
    obtain ⟨slot', h'⟩ := OrderBook.at?_of_activeOn hfound
    have hslot : slot' = slot := honly slot' o' h'
    rw [← h.1, ← h'.1, hslot]

/-- Entry 0 is the rate at the head of the schedule, 0 in an empty one. -/
theorem Order.entry0_eq (o : Order) : o.entry0 = (o.grants.map GrantEntry.rate).getD 0 0 := by
  cases hgrants : o.grants <;> simp [Order.entry0, hgrants]

end

section

variable {s : State}

/-! ## Commands served in WAIT_TIME and RUN (R169, R171) -/

/-- A command served in WAIT_TIME and RUN that its owner accepts. -/
theorem State.serve_started_accept (c : Instr) (kind : Byte) (data : List Byte) (h : s.working = true) :
    (.next (s.serve c kind .started (s.accept data)) : Out) = s.replies c kind data :=
  congrArg _ (State.serve_started _ _ _ h)

/-- A command served in WAIT_TIME and RUN that its owner refuses. -/
theorem State.serve_started_refuse (c : Instr) (kind : Byte) (r : ResultCode) (h : s.working = true) :
    (.next (s.serve c kind .started (s.refuse r)) : Out) = s.refuses c kind r :=
  congrArg _ (State.serve_started _ _ _ h)

/-! ## TURNOUT_QUERY and ALERT_READ (R127, R175) -/

/-- A present turnout is answered with its data. -/
theorem exec_turnoutQuery_of_present {i : Nat} (hw : s.working = true) (h : present s.settings i = true) :
    exec (.turnoutQuery i) s = s.replies (.turnoutQuery i) 0x06 (s.turnoutData i) := by
  rw [← State.serve_started_accept _ _ _ hw]
  change execTurnoutQuery i s = _
  rw [execTurnoutQuery, if_pos h]
  rfl

/-- A turnout that is not present is BAD_TURNOUT (R127). -/
theorem exec_turnoutQuery_of_absent {i : Nat} (hw : s.working = true) (h : present s.settings i = false) :
    exec (.turnoutQuery i) s = s.refuses (.turnoutQuery i) 0x06 .badTurnout := by
  rw [← State.serve_started_refuse _ _ _ hw]
  change execTurnoutQuery i s = _
  rw [execTurnoutQuery, if_neg (by simp [h])]
  rfl

/-- ALERT_READ is answered with the marks, the levels and the line. -/
theorem exec_alertRead (hw : s.working = true) : exec .alertRead s = s.replies .alertRead 0x08 s.alertData :=
  State.serve_started_accept _ _ _ hw

/-- The fixed levels of the causes, in the order of the table of section 10.5. -/
theorem levelBytes_eq :
    (allCauses.flatMap fun c => byte c.level) = [3, 3, 2, 2, 2, 2, 2, 2, 2, 2, 2, 1, 1, 1, 1, 1, 1] := rfl

end

/-- Settles O26: the reads answer the data of the turnout and of the alerts, and an ACTIVE order alone on its turnout gives the grant in force. -/
theorem turnoutQueryAndAlertRead : Obligations.TurnoutQueryAndAlertRead := by
  refine ⟨?answers, fun s hw => ⟨fun i hpresent => ?present, fun i => exec_turnoutQuery_of_absent hw, ?alerts⟩⟩
  case answers =>
    intro b i active
    refine ⟨OrderBook.hasLiveDraw_iff, fun hnone => ?noGrant, fun slot o hactive honly => ?grant⟩
    case noGrant => rw [OrderBook.grantInForce, OrderBook.activeOn_eq_none_iff.2 hnone]; rfl
    case grant => rw [OrderBook.grantInForce, OrderBook.activeOn_of_unique hactive honly, ← Order.entry0_eq]; rfl
  case present =>
    rw [exec_turnoutQuery_of_present hw hpresent, State.turnoutData, turnoutConfigData, Turnout.runtimeData]
    simp only [List.append_assoc]
    rfl
  case alerts => rw [exec_alertRead hw, State.alertData, levelBytes_eq]; rfl

end Sys2Proof.Machine
end

section
/-! METER_PULSE and NO_FLOW_EXPIRY (R117 to R123): the meter periods of the waiting events are closed first, then one turnout's entry changes. -/

namespace Sys2Proof.Machine

section

variable {s : State}

/-! ## The start states -/

/-- A working part runs exactly in RUN. -/
theorem State.running_eq_of_working (h : s.working = true) : s.running = decide (s.startup.state = .run) := by
  rw [Bool.eq_iff_iff, State.running_iff, decide_eq_true_iff]
  exact and_iff_right (State.working_iff.1 h).1

/-! ## Settling the meter periods (R121, R123, R124) -/

/-- Outside RUN no meter period is closed. -/
theorem State.settleMeters_of_not_running (h : s.running = false) : s.settleMeters = s := by simp [State.settleMeters, h]

/-- In RUN the periods are closed one event after the other. -/
theorem State.settleMeters_of_running (h : s.running = true) :
    s.settleMeters = s.inbox.meter.foldl (fun t e => (t.closePeriod e.oldKey).closeMetersOnce e.oldKey) s := if_pos h

/-- Settling the meter periods keeps a part working. -/
theorem State.settleMeters_working (h : s.working = true) : s.settleMeters.working = true := by
  simpa [State.working] using h

/-- A key that is closed, or below one that is, is not closed again (R124). -/
theorem State.closeMetersOnce_of_closed {key k : Nat} (h : s.meters.closedKey = some k) (hle : key ≤ k) : s.closeMetersOnce key = s := by
  rw [State.closeMetersOnce, h]
  exact if_pos hle

/-- The close of the meter periods neither reads nor writes the waiting events. -/
theorem State.closeMetersOnce_withInbox (s : State) (x : Inbox) (key : Nat) :
    (s.withInbox x).closeMetersOnce key = (s.closeMetersOnce key).withInbox x := by
  have hclose : (s.withInbox x).closeMeters key = (s.closeMeters key).withInbox x := by
    simp only [State.closeMeters, State.raiseIf, apply_ite (State.withInbox · x)]
    rfl
  simp only [State.closeMetersOnce, hclose, State.withInbox_meters]
  split
  · split <;> rfl
  · rfl

/-- METER_PERIOD_CLOSE in RUN takes the oldest event, once every earlier record is taken (R124). -/
theorem exec_meterPeriodClose {e : PeriodEvent} {rest : List PeriodEvent} (hrun : s.running = true) (h : s.inbox.meter = e :: rest)
    (hready : s.closeReady e.oldKey = true) :
    exec .meterPeriodClose s = .next ((s.withInbox { s.inbox with meter := rest }).closeMetersOnce e.oldKey) := by
  change execMeterPeriodClose s = _
  simp only [execMeterPeriodClose, h]
  exact if_pos (by rw [hrun, hready]; rfl)

end

section

variable {x : Config.Turnout} {book : OrderBook} {t : Turnout} {now i p : Nat}

/-! ## One turnout (R118 to R122) -/

/-- A pulse is too close exactly within the minimum spacing after the last accepted one (R118). -/
theorem Turnout.tooClose_iff : t.tooClose x now = true ↔ ∃ p, t.lastPulse = some p ∧ now < p + x.spacing := by
  cases h : t.lastPulse <;> simp [Turnout.tooClose, h]

/-- The judgement clears the mark on no flow, and within 125 % of the grant in force of an ACTIVE order (R122). -/
theorem Turnout.judge_eq (book : OrderBook) (i : Nat) (t : Turnout) : t.judge book i =
    { t with overdraw := t.overdraw && decide (t.rate ≠ 0) &&
      !((book.activeOn i).isSome && decide (4 * t.rate ≤ 5 * book.grantInForce i)) } := by
  have hclears : (t.rate = 0 ∨ ((book.activeOn i).isSome ∧ !overLimit t.rate (book.grantInForce i))) ↔
      (decide (t.rate ≠ 0) && !((book.activeOn i).isSome && decide (4 * t.rate ≤ 5 * book.grantInForce i))) = false := by
    by_cases hrate : t.rate = 0 <;> simp [hrate, overLimit]
  rw [Turnout.judge, Bool.and_assoc]
  by_cases h : t.rate = 0 ∨ ((book.activeOn i).isSome ∧ !overLimit t.rate (book.grantInForce i))
  · rw [if_pos h, hclears.1 h, Bool.and_false]
  · rw [if_neg h, eq_true_of_ne_false (h ∘ hclears.2), Bool.and_true]

/-- A rejected pulse is counted; the one that brings the count above 8 makes a meter that is not NOISY so, with its marks (R118, R120). -/
theorem Turnout.reject_eq (t : Turnout) :
    let turns := !t.noisy && decide (8 < min (t.rejects + 1) 65535)
    t.reject = { t with
      rejects := min (t.rejects + 1) 65535, noisy := t.noisy || decide (8 < min (t.rejects + 1) 65535)
      estimated := t.estimated || turns, flags := { t.flags with noisy := t.flags.noisy || turns } } := by
  intro turns
  unfold Turnout.reject
  by_cases hmany : 8 < min (t.rejects + 1) 65535
  · cases hnoisy : t.noisy <;> simp [turns, hmany, hnoisy]
  · simp [turns, hmany]

/-- The first pulse after no flow gives no rate (R119). -/
theorem Turnout.rateAt_of_none (h : t.lastPulse = none) : t.rateAt x now = t.rate := by simp [Turnout.rateAt, h]

/-- The rate over the interval since the last pulse (R119). -/
theorem Turnout.rateAt_of_some (h : t.lastPulse = some p) : t.rateAt x now = min (x.litres * 1000 / (now - p)) 32000 := by
  simp [Turnout.rateAt, h, flowMax]

/-- An accepted pulse outside RUN: rate, last pulse time and unordered draw (R119, R122). -/
theorem Turnout.acceptPulse_waiting : t.acceptPulse x book false now i = { t with
    rate := t.rateAt x now, lastPulse := some now
    flags := { t.flags with unorderedDraw := t.flags.unorderedDraw || !book.hasLiveDraw i } } := rfl

/-- An accepted pulse in RUN is counted and judged as well (R118, R122). -/
theorem Turnout.acceptPulse_running : t.acceptPulse x book true now i = { t with
    pulses := min (t.pulses + 1) 4294967295, rate := t.rateAt x now, lastPulse := some now
    overdraw := t.overdraw && decide (t.rateAt x now ≠ 0) &&
      !((book.activeOn i).isSome && decide (4 * t.rateAt x now ≤ 5 * book.grantInForce i))
    flags := { t.flags with unorderedDraw := t.flags.unorderedDraw || !book.hasLiveDraw i } } := Turnout.judge_eq ..

/-- The no-flow time ends the draw: no rate, no last pulse and no overdraw (R119, R122). -/
theorem Turnout.noFlow_eq : t.noFlow book i = { t with rate := 0, lastPulse := none, overdraw := false } := by
  rw [Turnout.noFlow, Turnout.judge, if_pos (.inl rfl)]

/-- A pulse that is too close, outside RUN. -/
theorem Turnout.pulse_rejected_waiting (h : t.tooClose x now = true) : t.pulse x book false now i = t := if_pos h

/-- A pulse that is too close, in RUN. -/
theorem Turnout.pulse_rejected_running (h : t.tooClose x now = true) : t.pulse x book true now i = t.reject := if_pos h

/-- A pulse that is not too close. -/
theorem Turnout.pulse_accepted (h : ¬t.tooClose x now = true) (inRun : Bool) :
    t.pulse x book inRun now i = t.acceptPulse x book inRun now i := if_neg h

end

section

variable {s : State} {i : Nat}

/-! ## The two commands -/

/-- An absent turnout is not watched (R116). -/
theorem exec_meterPulse_of_absent (h : present s.settings i = false) : exec (.meterPulse i) s = .next s :=
  if_neg (by simp [h])

/-- A pulse at a present turnout, after its meter period is settled (R117, R121). -/
theorem exec_meterPulse_of_present (hw : s.working = true) (h : present s.settings i = true) :
    exec (.meterPulse i) s = .next (s.settleMeters.changeTurnout i
      (Turnout.pulse (configOf s.settleMeters.settings i) s.settleMeters.book s.settleMeters.running s.settleMeters.time.elapsed i)) :=
  if_pos (by rw [hw, h]; rfl)

/-- The no-flow time of a present turnout has passed, as judged before its meter period is settled (R119). -/
theorem exec_noFlowExpiry_of_due (h : present s.settings i = true)
    (hdue : s.expired (s.turnout i).lastPulse (configOf s.settings i).noFlow = true) :
    exec (.noFlowExpiry i) s = .next (s.settleMeters.changeTurnout i (Turnout.noFlow s.settleMeters.book i)) :=
  if_pos (by rw [h, hdue]; rfl)

end

/-- Settles O59: the meter periods are settled first, each key once; then the turnout's entry takes the pulse or the end of the flow. -/
theorem meterPulses : Obligations.MeterPulses := by
  refine ⟨fun s => ⟨?idle, fun e hrun hinbox hready => ⟨?closed, fun _ => ?taken⟩, State.settleMeters_of_running⟩, ?events⟩
  case idle => exact fun h => h.elim State.settleMeters_of_not_running s.settleMeters_none
  case closed =>
    rintro ⟨k, hk, hle⟩
    rw [s.settleMeters_one e hrun hinbox (decide_eq_true hready), State.closeMetersOnce_of_closed hk hle]
  case taken =>
    rw [exec_meterPeriodClose hrun hinbox (decide_eq_true hready), s.settleMeters_one e hrun hinbox (decide_eq_true hready),
      State.closeMetersOnce_withInbox]
  case events =>
    intro s₀ i hw s x k now close put
    have hrunning : s.running = decide (s.startup.state = .run) := State.running_eq_of_working (State.settleMeters_working hw)
    refine ⟨exec_meterPulse_of_absent, fun hpresent => ?present⟩
    have hpulse : exec (.meterPulse i) s₀ = .next (put (x.pulse k s.book s.running now i)) := exec_meterPulse_of_present hw hpresent
    refine ⟨fun hclose hwait => ?rejectedWaiting, fun hclose hrun => ?rejectedRunning, fun hapart => ?accepted,
      fun p hlast hpassed => ?noFlow⟩
    case rejectedWaiting =>
      rw [hpulse, hrunning, decide_eq_false (by simp [hwait]), Turnout.pulse_rejected_waiting (Turnout.tooClose_iff.2 hclose)]
    case rejectedRunning =>
      rw [hpulse, hrunning, decide_eq_true hrun, Turnout.pulse_rejected_running (Turnout.tooClose_iff.2 hclose), Turnout.reject_eq]
    case accepted =>
      rw [Turnout.pulse_accepted (hapart ∘ Turnout.tooClose_iff.1), hrunning] at hpulse
      refine ⟨_, hpulse, ?_⟩
      by_cases hrun : s.startup.state = .run
      · rw [if_pos hrun, decide_eq_true hrun, Turnout.acceptPulse_running]
        exact ⟨rfl, Turnout.rateAt_of_none, fun p => Turnout.rateAt_of_some, fun hwait => (by simp [hrun] at hwait), fun _ => rfl⟩
      · rw [if_neg hrun, decide_eq_false hrun, Turnout.acceptPulse_waiting]
        exact ⟨rfl, Turnout.rateAt_of_none, fun p => Turnout.rateAt_of_some, fun _ => rfl, fun h => absurd h hrun⟩
    case noFlow =>
      have hdue : s₀.expired (s₀.turnout i).lastPulse (configOf s₀.settings i).noFlow = true :=
        State.expired_iff.2 ⟨hw, p, hlast, by simpa [s, k, now] using hpassed⟩
      rw [exec_noFlowExpiry_of_due hpresent hdue, State.changeTurnout, Turnout.noFlow_eq]
      rfl

end Sys2Proof.Machine
end

section
/-! The attribution of a closed period (R35, R130): the order that takes the volume of a turnout, and what the attributions of a list of
turnouts leave in the Order Book and in the tallies. -/

namespace Sys2Proof.Machine

section

variable {b : OrderBook} {i k slot : Nat} {o : Order}

/-! ## The order that takes a volume (R35) -/

/-- The order is one that R35 offers the volume of turnout i for period k. -/
def Order.takes (i k : Nat) (o : Order) : Bool := o.turnout == i && o.planned && o.tailHas k

theorem Order.takes_iff :
    o.takes i k = true ↔ o.turnout = i ∧ o.state ≠ .closedUnbilled ∧ o.startKey ≤ k ∧ k ≤ o.endKey + 1 := by
  simp [Order.takes, Order.planned, Order.tailHas, and_assoc]

/-- The taker stands in its slot. -/
theorem OrderBook.of_takerOf (h : b.takerOf i k = some (slot, o)) : b.at? slot = some o ∧ o.takes i k = true :=
  ⟨OrderBook.mem_live.1 (List.mem_of_find?_eq_some h), (List.find?_some h :)⟩

/-- A turnout has no taker exactly when no order in a slot may take its volume. -/
theorem OrderBook.takerOf_eq_none_iff :
    b.takerOf i k = none ↔ ∀ slot o, b.at? slot = some o → ¬o.takes i k = true := by
  simp only [OrderBook.takerOf, List.find?_eq_none, Prod.forall, OrderBook.mem_live]
  rfl

/-- The slot of the taker of a turnout's volume. -/
def OrderBook.takerSlot (b : OrderBook) (i k : Nat) : Option Nat := (b.takerOf i k).map (·.1)

/-- Of numbered slots, the number of the first live order with a property is the place of the first slot that holds such an order. -/
theorem map_find?_numbered (p : Order → Bool) (slots : List (Option Order)) (n : Nat) :
    (((slots.zipIdx n).filterMap fun x => x.1.map fun o => (x.2, o)).find? fun x => p x.2).map (·.1) =
      (slots.findIdx? fun x => x.any p).map (· + n) := by
  induction slots generalizing n with
  | nil => rfl
  | cons x slots ih =>
    have hlater : (slots.findIdx? fun x => x.any p).map (· + (n + 1)) = ((slots.findIdx? fun x => x.any p).map (· + 1)).map (· + n) := by
      simp [Function.comp_def, Nat.add_assoc, Nat.add_comm 1 n]
    cases x with
    | none =>
      rw [List.zipIdx_cons, List.filterMap_cons_none rfl, ih, List.findIdx?_cons, hlater]
      rfl
    | some o =>
      simp only [List.zipIdx_cons, List.filterMap_cons, Option.map_some, List.findIdx?_cons, Option.any_some]
      by_cases ho : p o = true
      · simp [ho]
      · rw [List.find?_cons_of_neg (by exact ho), ih, hlater, if_neg ho]

/-- The taker of a turnout's volume is an order on that turnout. -/
theorem OrderBook.turnout_of_takerSlot (h : b.takerSlot i k = some slot) (ho : b.at? slot = some o) : o.turnout = i := by
  obtain ⟨⟨slot', o'⟩, htaker, rfl⟩ := Option.map_eq_some_iff.1 h
  obtain ⟨hat, htakes⟩ := OrderBook.of_takerOf htaker
  obtain rfl : o' = o := Option.some.inj (hat.symm.trans ho)
  exact (Order.takes_iff.1 htakes).1

/-- The taker stands in the lowest slot whose order may take the volume. -/
theorem OrderBook.takerSlot_eq_findIdx? : b.takerSlot i k = b.slots.findIdx? fun x => x.any (Order.takes i k) :=
  (map_find?_numbered (Order.takes i k) b.slots 0).trans (by simp)

/-- A write that leaves an order in its slot with the same claims leaves every taker in its slot. -/
theorem OrderBook.takerSlot_put {o' : Order} (h : b.at? slot = some o) (hsame : o'.takes i k = o.takes i k) :
    (b.put slot (some o')).takerSlot i k = b.takerSlot i k := by
  obtain ⟨hslot, hget⟩ := List.getElem?_eq_some_iff.1 (OrderBook.getElem?_of_at? h)
  have hmap (xs : List (Option Order)) : (xs.findIdx? fun x => x.any (Order.takes i k)) =
      (xs.map fun x => x.any (Order.takes i k)).findIdx? id := by simp [List.findIdx?_map]
  have hset : ((b.slots.set slot (some o')).map fun x => x.any (Order.takes i k)) = b.slots.map fun x => x.any (Order.takes i k) := by
    rw [List.map_set, Option.any_some, hsame]
    refine List.ext_getElem? fun j => ?_
    by_cases hj : slot = j
    · subst hj; simp [hslot, hget]
    · simp [hj]
  rw [OrderBook.takerSlot_eq_findIdx?, OrderBook.takerSlot_eq_findIdx?, hmap, hmap, OrderBook.put, hset]

theorem OrderBook.takerSlot_eq_none_iff : b.takerSlot i k = none ↔ b.takerOf i k = none := Option.map_eq_none_iff

end

section

variable {s : State} {k i slot : Nat}

/-! ## One attribution (R130) -/

/-- The order after it has taken a volume with its mark. -/
def Order.take (v : Nat × Bool) (o : Order) : Order := o.deliver v.1 v.2

@[simp] theorem Order.take_turnout (v : Nat × Bool) (o : Order) : (o.take v).turnout = o.turnout := rfl

/-- The turnout after its volume has joined its tally. -/
def Turnout.tallied (x : Turnout) : Turnout := { x with tally := satAdd volumeMax x.tally x.handed.1 }

theorem Turnout.ite_tallied (x : Turnout) (p : Prop) [Decidable p] :
    (if p then x.tallied else x) = { x with tally := if p then satAdd volumeMax x.tally x.handed.1 else x.tally } := by
  split <;> rfl

/-- The volume handed for a turnout goes to its taker, else to its tally: the step of State.attributeAll at a present turnout. -/
def State.giveVolume (s : State) (k i : Nat) : State :=
  match s.book.takerOf i k with
  | some (slot, o) => s.withBook (s.book.put slot (some (o.take (s.turnout i).handed)))
  | none => s.putTurnout i (s.turnout i).tallied

theorem State.attributeAll_cons_of_present (h : present s.settings i = true) (l : List Nat) :
    s.attributeAll k (i :: l) = (s.giveVolume k i).attributeAll k l := congrArg (State.attributeAll · k l) (if_pos h)

theorem State.attributeAll_cons_of_absent (h : ¬present s.settings i = true) (l : List Nat) :
    s.attributeAll k (i :: l) = s.attributeAll k l := congrArg (State.attributeAll · k l) (if_neg h)

theorem State.giveVolume_of_none (h : s.book.takerOf i k = none) : s.giveVolume k i = s.putTurnout i (s.turnout i).tallied := by
  simp only [State.giveVolume, h]

theorem State.giveVolume_of_some {o : Order} (h : s.book.takerOf i k = some (slot, o)) :
    s.giveVolume k i = s.withBook (s.book.put slot (some (o.take (s.turnout i).handed))) := by
  simp only [State.giveVolume, h]

/-- The orders after one attribution: the taker has the volume, the others are as they were. -/
theorem State.giveVolume_at? (s : State) (k i slot : Nat) : (s.giveVolume k i).book.at? slot =
    (s.book.at? slot).map fun o => if s.book.takerSlot i k = some slot then o.take (s.turnout i).handed else o := by
  cases htaker : s.book.takerOf i k with
  | none => simp [State.giveVolume_of_none htaker, OrderBook.takerSlot, htaker]
  | some p =>
    obtain ⟨slot', o⟩ := p
    obtain ⟨hat, -⟩ := OrderBook.of_takerOf htaker
    rw [State.giveVolume_of_some htaker, State.withBook_book]
    by_cases hslot : slot' = slot
    · subst hslot
      simp [OrderBook.at?_put_self _ (OrderBook.lt_of_at? hat), OrderBook.takerSlot, htaker, hat]
    · simp [OrderBook.at?_put_of_ne _ hslot, OrderBook.takerSlot, htaker, hslot]

/-- The turnouts after one attribution: a volume without a taker has joined the tally, the others are as they were. -/
theorem State.giveVolume_turnouts (s : State) (k i j : Nat) : (s.giveVolume k i).meters.turnouts[j]? =
    s.meters.turnouts[j]?.map fun x => if i = j ∧ s.book.takerSlot i k = none then x.tallied else x := by
  cases htaker : s.book.takerOf i k with
  | some p => simp [State.giveVolume_of_some htaker, OrderBook.takerSlot, htaker]
  | none =>
    rw [State.giveVolume_of_none htaker]
    by_cases hij : i = j
    · subst hij
      cases hx : s.meters.turnouts[i]? <;>
        simp [State.putTurnout, State.turnout, OrderBook.takerSlot, htaker, List.getElem?_set_self', hx]
    · simp [State.putTurnout, hij]

/-- An attribution moves no taker. -/
theorem State.giveVolume_takerSlot (s : State) (k i j : Nat) : (s.giveVolume k i).book.takerSlot j k = s.book.takerSlot j k := by
  cases htaker : s.book.takerOf i k with
  | none => simp [State.giveVolume_of_none htaker]
  | some p =>
    obtain ⟨hat, -⟩ := OrderBook.of_takerOf (slot := p.1) (o := p.2) htaker
    rw [State.giveVolume_of_some htaker]
    exact OrderBook.takerSlot_put hat rfl

/-- An attribution changes no volume that the Meter Unit hands over. -/
theorem State.giveVolume_handed (s : State) (k i j : Nat) : ((s.giveVolume k i).turnout j).handed = (s.turnout j).handed := by
  simp only [State.turnout, List.getD_eq_getElem?_getD, State.giveVolume_turnouts]
  cases s.meters.turnouts[j]? with
  | none => rfl
  | some x => simp only [Option.map_some, Option.getD_some]; split <;> rfl

/-- An attribution leaves the settings, the book key and the key of the closed meter period. -/
theorem State.giveVolume_keys (s : State) (k i : Nat) :
    (s.giveVolume k i).settings = s.settings ∧ (s.giveVolume k i).book.bookKey = s.book.bookKey ∧
      (s.giveVolume k i).meters.closedKey = s.meters.closedKey := by
  cases htaker : s.book.takerOf i k with
  | none => rw [State.giveVolume_of_none htaker]; exact ⟨rfl, rfl, rfl⟩
  | some p => rw [State.giveVolume_of_some (slot := p.1) (o := p.2) htaker]; exact ⟨rfl, rfl, rfl⟩

/-! ## The attributions of a list of turnouts (R130) -/

/-- The orders after the attributions of different turnouts: each present one's taker has its volume. -/
theorem State.attributeAll_at? {l : List Nat} (hl : l.Nodup) (s : State) (k slot : Nat) : (s.attributeAll k l).book.at? slot =
    (s.book.at? slot).map fun o =>
      if present s.settings o.turnout = true ∧ o.turnout ∈ l ∧ s.book.takerSlot o.turnout k = some slot
      then o.take (s.turnout o.turnout).handed else o := by
  induction l generalizing s with
  | nil => simp [State.attributeAll]
  | cons i l ih =>
    obtain ⟨hi, hl⟩ := List.nodup_cons.1 hl
    by_cases hpresent : present s.settings i = true
    · rw [State.attributeAll_cons_of_present hpresent, ih hl, State.giveVolume_at?, Option.map_map]
      refine Option.map_congr fun o ho => ?_
      simp only [Function.comp_apply, State.giveVolume_takerSlot, State.giveVolume_handed, State.giveVolume_keys]
      by_cases htaker : s.book.takerSlot i k = some slot
      · have hi' : o.turnout = i := s.book.turnout_of_takerSlot htaker ho
        subst hi'
        simp [htaker, hpresent, hi, Order.take_turnout]
      · have hne (h : s.book.takerSlot o.turnout k = some slot) : o.turnout ≠ i := fun hi' => htaker (hi' ▸ h)
        grind
    · rw [State.attributeAll_cons_of_absent hpresent, ih hl]
      grind

/-- The turnouts after the attributions of different turnouts: each present one without a taker has its volume in the tally. -/
theorem State.attributeAll_turnouts {l : List Nat} (hl : l.Nodup) (s : State) (k j : Nat) : (s.attributeAll k l).meters.turnouts[j]? =
    s.meters.turnouts[j]?.map fun x =>
      if j ∈ l ∧ present s.settings j = true ∧ s.book.takerSlot j k = none then x.tallied else x := by
  induction l generalizing s with
  | nil => simp [State.attributeAll]
  | cons i l ih =>
    obtain ⟨hi, hl⟩ := List.nodup_cons.1 hl
    by_cases hpresent : present s.settings i = true
    · rw [State.attributeAll_cons_of_present hpresent, ih hl, State.giveVolume_turnouts, Option.map_map, State.giveVolume_takerSlot,
        (s.giveVolume_keys k i).1]
      congr 1
      funext x
      by_cases hij : i = j
      · subst hij; simp [hi, hpresent]
      · simp [hij, Ne.symm hij]
    · rw [State.attributeAll_cons_of_absent hpresent, ih hl]
      congr 1
      funext x
      by_cases hij : i = j
      · subst hij; simp [hi, hpresent]
      · simp [Ne.symm hij]

theorem State.attributeAll_keys (s : State) (k : Nat) (l : List Nat) :
    (s.attributeAll k l).book.bookKey = s.book.bookKey ∧ (s.attributeAll k l).meters.closedKey = s.meters.closedKey := by
  induction l generalizing s with
  | nil => exact ⟨rfl, rfl⟩
  | cons i l ih =>
    by_cases hpresent : present s.settings i = true
    · rw [State.attributeAll_cons_of_present hpresent, (ih _).1, (ih _).2]; exact (s.giveVolume_keys k i).2
    · rw [State.attributeAll_cons_of_absent hpresent]; exact ih s

/-- The attributions change the orders and the turnouts alone. -/
theorem State.attributeAll_eq (s : State) (k : Nat) (l : List Nat) : s.attributeAll k l = { s with
    book := { s.book with slots := (s.attributeAll k l).book.slots }
    meters := { s.meters with turnouts := (s.attributeAll k l).meters.turnouts } } := by
  obtain ⟨hbookKey, hclosedKey⟩ := s.attributeAll_keys k l
  ext1
  case h5 => exact congrArg (OrderBook.mk _) hbookKey
  case h10 => exact congrArg (MeterUnit.mk _) hclosedKey
  all_goals simp

end

end Sys2Proof.Machine
end

section
/-! The close report (R17 to R21, R33, R162): the close of an order in its slot, the closes of a list of slots, and the period change of the
whole book with its alert. -/

namespace Sys2Proof.Machine

section

variable {s : State} {kind : RecordKind} {n key slot : Nat} {o : Order}

/-! ## The close of an order in its slot (R21) -/

/-- The slot is free, or holds an order that closed under the key and is not billed yet. -/
def ClosedSlot (key : Nat) (x : Option Order) : Prop := ∀ o, x = some o → o.state = .closedUnbilled ∧ o.closeKey = some key

/-- An order that is closed already does not close again. -/
theorem Order.closesAt_of_closed (n : Nat) (h : o.state = .closedUnbilled) : o.closesAt n = false := by
  simp [Order.closesAt, Order.planned, h]

/-- The close of an order writes a closed slot. -/
theorem State.closeOrder_book (s : State) (kind : RecordKind) (slot key : Nat) (o : Order) :
    ∃ x, (s.closeOrder kind slot key o).book = s.book.put slot x ∧ ClosedSlot key x := by
  by_cases hroom : (s.chargeAccount o.account (if kind = .delivery then o.delivered else 0) (closeCharge s kind o)).billing.hasRoom = true
  · exact ⟨none, by simp only [State.closeOrder, hroom, if_true, State.withBook_book, State.chargeAccount_frame], fun _ h => nomatch h⟩
  · refine ⟨_, by simp only [State.closeOrder, hroom, State.chargeAccount_frame]; rfl, ?_⟩
    rintro _ ⟨⟩
    exact ⟨rfl, rfl⟩

/-! ## The closes of a period change, slot by slot (R20, R162) -/

/-- The close that the change to period n makes in one slot. -/
def State.closeSlot (s : State) (n slot : Nat) : State :=
  match s.book.at? slot with
  | some o => if o.closesAt n = true then s.closeOrder .delivery slot n o else s
  | none => s

theorem State.closeSlots_cons (s : State) (n slot : Nat) (rest : List Nat) :
    s.closeSlots n (slot :: rest) = (s.closeSlot n slot).closeSlots n rest := by
  rw [State.closeSlots, State.closeSlot]
  cases s.book.at? slot with
  | none => rfl
  | some o => dsimp only; split <;> rfl

/-- One close leaves the slots, or writes a closed slot where an order closes. -/
theorem State.closeSlot_cases (s : State) (n slot : Nat) :
    (s.closeSlot n slot = s ∧ ∀ o, s.book.at? slot = some o → o.closesAt n = false) ∨
      ∃ o x, s.book.at? slot = some o ∧ o.closesAt n = true ∧ (s.closeSlot n slot).book = s.book.put slot x ∧ ClosedSlot n x := by
  unfold State.closeSlot
  cases ho : s.book.at? slot with
  | none => exact .inl ⟨rfl, fun _ h => nomatch h⟩
  | some o =>
    by_cases hcloses : o.closesAt n = true
    · obtain ⟨x, hbook, hx⟩ := s.closeOrder_book .delivery slot n o
      exact .inr ⟨o, x, rfl, hcloses, by simpa only [hcloses, if_true] using hbook, hx⟩
    · refine .inl ⟨if_neg hcloses, fun o' h => ?_⟩
      obtain rfl : o = o' := Option.some.inj h
      simpa using hcloses

/-- One close leaves the other slots. -/
theorem State.closeSlot_at?_of_ne {i : Nat} (s : State) (n : Nat) (h : slot ≠ i) :
    (s.closeSlot n slot).book.at? i = s.book.at? i := by
  obtain ⟨hsame, -⟩ | ⟨o, x, -, -, hbook, -⟩ := s.closeSlot_cases n slot
  · rw [hsame]
  · rw [hbook, OrderBook.at?_put_of_ne _ h]

/-- A slot without an order that closes is left. -/
theorem State.closeSlots_at?_of_keeps {l : List Nat} (h : ∀ o, s.book.at? slot = some o → o.closesAt n = false) :
    (s.closeSlots n l).book.at? slot = s.book.at? slot := by
  induction l generalizing s with
  | nil => rfl
  | cons i l ih =>
    have hstep : (s.closeSlot n i).book.at? slot = s.book.at? slot := by
      by_cases hi : i = slot
      · subst hi
        obtain ⟨hsame, -⟩ | ⟨o, x, ho, hcloses, -⟩ := s.closeSlot_cases n i
        · rw [hsame]
        · exact absurd hcloses (by simp [h o ho])
      · exact s.closeSlot_at?_of_ne n hi
    rw [State.closeSlots_cons, ih (hstep.symm ▸ h), hstep]

/-- A slot of the list whose order closes is a closed slot after the closes. -/
theorem State.closeSlots_of_closes {l : List Nat} (hslot : slot ∈ l) (ho : s.book.at? slot = some o) (h : o.closesAt n = true) :
    ClosedSlot n ((s.closeSlots n l).book.at? slot) := by
  induction l generalizing s with
  | nil => nomatch hslot
  | cons i l ih =>
    rw [State.closeSlots_cons]
    by_cases hi : i = slot
    · subst hi
      obtain ⟨-, hkeeps⟩ | ⟨_, x, -, -, hbook, hx⟩ := s.closeSlot_cases n i
      · exact absurd h (by simp [hkeeps o ho])
      · have hat : (s.closeSlot n i).book.at? i = x := by rw [hbook, OrderBook.at?_put_self x (OrderBook.lt_of_at? ho)]
        rw [State.closeSlots_at?_of_keeps fun o' ho' => Order.closesAt_of_closed n (hx o' (hat.symm.trans ho')).1, hat]
        exact hx
    · exact ih (List.mem_of_ne_of_mem (Ne.symm hi) hslot) ((s.closeSlot_at?_of_ne n hi).trans ho)

/-- The closes leave the book key. -/
@[simp] theorem State.closeSlots_bookKey (s : State) (n : Nat) (l : List Nat) : (s.closeSlots n l).book.bookKey = s.book.bookKey := by
  induction l generalizing s with
  | nil => rfl
  | cons i l ih =>
    rw [State.closeSlots_cons, ih]
    obtain ⟨hsame, -⟩ | ⟨_, x, -, -, hbook, -⟩ := s.closeSlot_cases n i
    · rw [hsame]
    · rw [hbook, OrderBook.put_bookKey]

end

section

variable {s : State} {n slot : Nat} {old new : OrderBook} {o : Order}

/-! ## Two books slot by slot (R33, R67) -/

/-- Some slot holds in both books an order, and the two have a property. -/
def OrderBook.anyPair (p : Order → Order → Bool) (old new : OrderBook) : Bool :=
  (old.slots.zip new.slots).any fun x =>
    match x.1, x.2 with
    | some o, some o' => p o o'
    | _, _ => false

theorem OrderBook.anyPair_iff {p : Order → Order → Bool} :
    old.anyPair p new = true ↔ ∃ slot o o', old.at? slot = some o ∧ new.at? slot = some o' ∧ p o o' = true := by
  simp only [OrderBook.anyPair, List.any_eq_true, List.mem_iff_getElem?, List.getElem?_zip_eq_some, Prod.exists, OrderBook.at?,
    Option.join_eq_some_iff]
  constructor
  · rintro ⟨x, y, ⟨slot, hx, hy⟩, h⟩
    cases x with
    | none => cases h
    | some o =>
      cases y with
      | none => cases h
      | some o' => exact ⟨slot, o, o', hx, hy, h⟩
  · rintro ⟨slot, o, o', ho, ho', h⟩
    exact ⟨some o, some o', ⟨slot, ho, ho'⟩, h⟩

/-- An order became ACTIVE. -/
theorem madeActive_iff : madeActive old new = true ↔
    ∃ slot o o', old.at? slot = some o ∧ new.at? slot = some o' ∧ o.state ≠ .active ∧ o'.state = .active := by
  have hpair : madeActive old new = old.anyPair (fun o o' => o.state != .active && o'.state == .active) new := rfl
  rw [hpair, OrderBook.anyPair_iff]
  simp

/-- The test of GRANT_CHANGED for one order at a period change (R33). -/
theorem grantChangedAt_iff {o o' : Order} : grantChangedAt o o' n = true ↔ o'.state = .active ∧ o'.closesAt n = false ∧
    if o.state = .active then o.entry0 ≠ o'.entry0 else o'.entry0 ≠ o'.rate := by
  unfold grantChangedAt
  split <;> simp [and_assoc]

@[simp] theorem OrderBook.at?_mapLive (b : OrderBook) (f : Order → Order) (slot : Nat) :
    (b.mapLive f).at? slot = (b.at? slot).map f := by
  simp only [OrderBook.mapLive, OrderBook.at?, List.getElem?_map]
  cases b.slots[slot]? <;> rfl

/-! ## The close report (R17) -/

/-- The period change of one order at the close report with new key n. -/
def State.changed (s : State) (n : Nat) : Order → Order := Order.periodChange s.settings s.book.bookKey n

/-- The book after the period changes, before the closes. -/
def State.changedBook (s : State) (n : Nat) : OrderBook := { s.book.mapLive (s.changed n) with bookKey := n }

theorem State.at?_changedBook (s : State) (n slot : Nat) : (s.changedBook n).at? slot = (s.book.at? slot).map (s.changed n) :=
  s.book.at?_mapLive (s.changed n) slot

/-- A report whose new key is not above the book key is discarded. -/
theorem State.closeReport_of_le (h : n ≤ s.book.bookKey) : s.closeReport n = s := if_pos h

/-- A report with a later key: the period changes, GRANT_CHANGED, and the closes of the 48 slots. -/
theorem State.closeReport_of_lt (h : s.book.bookKey < n) : s.closeReport n =
    ((s.withBook (s.changedBook n)).raiseIf (s.book.anyPair (grantChangedAt · · n) (s.changedBook n)) .grantChanged).closeSlots n
      (List.range 48) := if_neg (Nat.not_le.2 h)

/-- The alert of a close report: an order that is ACTIVE after the change has another grant in force. -/
theorem State.anyPair_changedBook_iff (s : State) (n : Nat) :
    s.book.anyPair (grantChangedAt · · n) (s.changedBook n) = true ↔
      ∃ slot o, s.book.at? slot = some o ∧ (s.changed n o).state = .active ∧ (s.changed n o).closesAt n = false ∧
        if o.state = .active then o.entry0 ≠ (s.changed n o).entry0 else (s.changed n o).entry0 ≠ (s.changed n o).rate := by
  rw [OrderBook.anyPair_iff]
  constructor
  · rintro ⟨slot, o, o', ho, ho', hgrant⟩
    obtain rfl : s.changed n o = o' := by simpa [State.at?_changedBook, ho] using ho'
    exact ⟨slot, o, ho, grantChangedAt_iff.1 hgrant⟩
  · rintro ⟨slot, o, ho, hgrant⟩
    exact ⟨slot, o, _, ho, by rw [State.at?_changedBook, ho, Option.map_some], grantChangedAt_iff.2 hgrant⟩

/-- An order that does not close stands in its slot as the period change left it. -/
theorem State.closeReport_at?_of_keeps (h : s.book.bookKey < n) (ho : s.book.at? slot = some o)
    (hkeeps : (s.changed n o).closesAt n = false) : (s.closeReport n).book.at? slot = some (s.changed n o) := by
  have hat : (s.changedBook n).at? slot = some (s.changed n o) := by rw [State.at?_changedBook, ho, Option.map_some]
  rw [State.closeReport_of_lt h, State.closeSlots_at?_of_keeps] <;> simp [hat, hkeeps]

/-- An order that closes leaves a closed slot. -/
theorem State.closeReport_of_closes (h : s.book.bookKey < n) (ho : s.book.at? slot = some o)
    (hcloses : (s.changed n o).closesAt n = true) (hslot : slot < 48) : ClosedSlot n ((s.closeReport n).book.at? slot) := by
  rw [State.closeReport_of_lt h]
  exact State.closeSlots_of_closes (List.mem_range.2 hslot) (by simp [State.at?_changedBook, ho]) hcloses

/-- The book key never falls at a close report. -/
theorem State.closeReport_bookKey (s : State) (n : Nat) : (s.closeReport n).book.bookKey = max s.book.bookKey n := by
  rcases Nat.lt_or_ge s.book.bookKey n with h | h
  · rw [State.closeReport_of_lt h, State.closeSlots_bookKey, (State.raiseIf_frame _ _ _).2.2.2.2.2.1, Nat.max_eq_right (Nat.le_of_lt h)]
    rfl
  · rw [State.closeReport_of_le h, Nat.max_eq_left h]

end

end Sys2Proof.Machine
end

section
/-! PERIOD_CLOSE (R129 to R136): the balance entry that joins the queue, what the evaluation of the queue keeps, and the close of the open
period as the order of its parts. -/

namespace Sys2Proof.Machine

section

variable {u : CloseUnit} {e x : BalanceEntry} {pre post : List BalanceEntry}

/-! ## The entry joins the queue (R136) -/

theorem CloseUnit.abandon_of_complete (h : ∀ x ∈ u.queue, x.complete = true) : u.abandon = u := by
  have hfind : (u.queue.find? fun e => !e.complete) = none := List.find?_eq_none.2 fun x hx => by simp [h x hx]
  simp only [CloseUnit.abandon, hfind]

/-- The oldest incomplete entry leaves, and its key is kept. -/
theorem CloseUnit.abandon_of_incomplete (hq : u.queue = pre ++ x :: post) (hpre : ∀ y ∈ pre, y.complete = true)
    (hx : x.complete = false) : u.abandon = { u with queue := pre ++ post, lastAbandoned := some x.key } := by
  have hkept : ∀ y ∈ pre, ¬(!y.complete) = true := fun y hy => by simp [hpre y hy]
  have hfind : ((pre ++ x :: post).find? fun e => !e.complete) = some x := by
    rw [List.find?_append, List.find?_eq_none.2 hkept, Option.none_or, List.find?_cons_of_pos (by simp [hx])]
  have herase : (pre ++ x :: post).eraseP (fun e => !e.complete) = pre ++ post := by
    rw [List.eraseP_append_right _ hkept, List.eraseP_cons_of_pos (by simp [hx])]
  simp only [CloseUnit.abandon, hq, hfind, herase]

/-- A queue with room, or with nothing to give up, takes the entry at its newest end. -/
theorem CloseUnit.join_of_room (h : u.queue.length < 3 ∨ ∀ x ∈ u.queue, x.complete = true) :
    u.join e = { u with queue := u.queue ++ [e] } := by
  unfold CloseUnit.join
  split
  · rw [CloseUnit.abandon_of_complete (h.resolve_left (by omega))]
  · rfl

/-- A full queue first gives up its oldest incomplete entry. -/
theorem CloseUnit.join_of_full (hfull : 3 ≤ u.queue.length) (hq : u.queue = pre ++ x :: post)
    (hpre : ∀ y ∈ pre, y.complete = true) (hx : x.complete = false) :
    u.join e = { u with queue := pre ++ post ++ [e], lastAbandoned := some x.key } := by
  rw [CloseUnit.join, if_pos hfull, CloseUnit.abandon_of_incomplete hq hpre hx]

/-- A join changes the queue and the key of the last abandoned entry alone. -/
theorem CloseUnit.join_eq (u : CloseUnit) (e : BalanceEntry) :
    u.join e = { u with queue := (u.join e).queue, lastAbandoned := (u.join e).lastAbandoned } := by
  unfold CloseUnit.join CloseUnit.abandon
  split
  · split <;> rfl
  · rfl

/-! ## What the evaluation of the queue keeps (R138 to R140) -/

/-- The part of the Period Close Unit that no evaluation changes: open key, level, history and outage span. -/
def CloseUnit.periodPart (u : CloseUnit) : Nat × Option Nat × List ClosingPair × Option OutageSpan :=
  (u.openKey, u.openLevel, u.history, u.outage)

theorem CloseUnit.periodPart_eq_iff {u v : CloseUnit} : u.periodPart = v.periodPart ↔
    u.openKey = v.openKey ∧ u.openLevel = v.openLevel ∧ u.history = v.history ∧ u.outage = v.outage := by
  simp [CloseUnit.periodPart]

theorem CloseUnit.evaluate_periodPart (tolerance : Nat) (u : CloseUnit) (e : BalanceEntry) :
    (u.evaluate tolerance e).periodPart = u.periodPart := by
  unfold CloseUnit.evaluate
  dsimp only
  split <;> rfl

theorem CloseUnit.drain_periodPart (tolerance n : Nat) (u : CloseUnit) : (u.drain tolerance n).1.periodPart = u.periodPart := by
  induction n generalizing u with
  | zero => rfl
  | succ n ih =>
    rw [CloseUnit.drain]
    split
    · rfl
    · split
      · exact (ih _).trans (CloseUnit.evaluate_periodPart _ _ _)
      · rfl

theorem State.drainQueue_periodPart (s : State) : s.drainQueue.close.periodPart = s.close.periodPart := by
  rw [State.drainQueue, (State.raiseIf_frame _ _ _).2.2.2.2.2.2.2.2.2.2.2.1]
  exact CloseUnit.drain_periodPart _ _ _

end

section

variable {g : Gate} {k : Nat}

/-! ## The accumulator closed once under the open key (R97, R129) -/

/-- An accumulator that is not closed under the key yet is closed with the volume and the mark that it holds. -/
theorem Gate.closeOnce_of_open (h : ∀ p, g.closed = some p → p.key < k) : g.closeOnce k = g.closeVolume k := by
  refine if_neg ?_
  unfold Gate.closedAt
  cases hclosed : g.closed with
  | none => simp
  | some p => simpa using h p hclosed

/-- After it there is a closing pair, and the level of the window is as it was. -/
theorem Gate.closeOnce_leaves (g : Gate) (k : Nat) : (∃ pair, (g.closeOnce k).closed = some pair) ∧ (g.closeOnce k).hD = g.hD := by
  unfold Gate.closeOnce Gate.closedAt
  cases hclosed : g.closed with
  | none => exact ⟨⟨_, rfl⟩, rfl⟩
  | some p =>
    dsimp only
    split
    · exact ⟨⟨p, hclosed⟩, rfl⟩
    · exact ⟨⟨_, rfl⟩, rfl⟩

/-- A recompute leaves the closed pair and the accumulator. -/
theorem State.recompute_gateVolume (s : State) : s.recompute.gate.closed = s.gate.closed ∧ s.recompute.gate.volume = s.gate.volume := by
  cases hrun : s.running with
  | false => rw [State.recompute_of_not_running hrun]; exact ⟨rfl, rfl⟩
  | true => rw [State.recompute_gate hrun, Gate.handTarget_eq]; exact ⟨rfl, rfl⟩

end

section

variable {s : State} {n : Nat} {pair : ClosingPair}

/-! ## The parts of a close, in their order (R129 to R136) -/

/-- The meters and the accumulator closed under the open key (R129). -/
def State.metersAndGateClosed (s : State) : State :=
  (s.closeMetersOnce s.close.openKey).withGate (s.gate.closeOnce s.close.openKey)

/-- The volumes attributed (R130). -/
def State.attributed (s : State) : State := s.metersAndGateClosed.attributeAll s.close.openKey (List.range 16)

/-- The close report made (R131). -/
def State.reported (s : State) (n : Nat) : State := s.attributed.closeReport n

/-- The balance entry of the open period (R134, R135). -/
def State.entryFor (s : State) (pair : ClosingPair) : BalanceEntry :=
  s.metersAndGateClosed.balanceEntry s.close.openKey pair s.gate.hD s.metersAndGateClosed.handedVolumes

/-- The Period Close Unit gone over to the new key, its queue as it was (R132, R133). -/
def CloseUnit.rolled (u : CloseUnit) (n : Nat) (pair : ClosingPair) (level : Option Nat) : CloseUnit :=
  { u with
    openKey := n, openLevel := level, history := (pair :: u.history).take 2
    outage := if u.openKey + 2 ≤ n then some { first := u.openKey + 1, last := n - 1, count := n - u.openKey - 1 } else u.outage }

/-- The Period Close Unit with its entry in the queue (R136). -/
def State.unitClosed (s : State) (n : Nat) (pair : ClosingPair) : CloseUnit :=
  (s.close.rolled n pair s.gate.hD).join (s.entryFor pair)

/-- The part after the REACH request and the evaluation of the queue (R132, R138). -/
def State.balanced (s : State) (n : Nat) (pair : ClosingPair) : State :=
  ((s.reported n).withClose (s.unitClosed n pair)).requestReach.drainQueue

/-- The part after the whole close: an order that became ACTIVE brings a recompute (R67). -/
def State.afterClose (s : State) (n : Nat) (pair : ClosingPair) : State :=
  if madeActive s.attributed.book (s.reported n).book = true then (s.balanced n pair).recompute else s.balanced n pair

theorem State.metersAndGateClosed_frame (s : State) : s.metersAndGateClosed.settings = s.settings ∧
    s.metersAndGateClosed.startup = s.startup ∧ s.metersAndGateClosed.book = s.book ∧ s.metersAndGateClosed.close = s.close ∧
    s.metersAndGateClosed.gate = s.gate.closeOnce s.close.openKey := by
  simp [State.metersAndGateClosed]

theorem State.reported_frame (s : State) (n : Nat) : (s.reported n).startup = s.startup ∧ (s.reported n).close = s.close ∧
    (s.reported n).gate = s.gate.closeOnce s.close.openKey ∧ (s.reported n).book.bookKey = max s.book.bookKey n := by
  simp [State.reported, State.attributed, State.closeReport_bookKey, State.attributeAll_keys, State.metersAndGateClosed_frame]

/-- An event whose key is not above the open key is discarded. -/
theorem State.closePeriod_of_le (h : n ≤ s.close.openKey) : s.closePeriod n = s := if_pos h

/-- The close of the open period. -/
theorem State.closePeriod_of_lt (h : s.close.openKey < n) (hpair : (s.gate.closeOnce s.close.openKey).closed = some pair) :
    s.closePeriod n = s.afterClose n pair := by
  have hclosed : (s.closeMetersOnce s.close.openKey).closeGateOnce s.close.openKey = s.metersAndGateClosed := by
    simp [State.closeGateOnce, State.metersAndGateClosed]
  have hgate : s.metersAndGateClosed.gate.closed = some pair := hpair
  have hlevel : s.metersAndGateClosed.gate.hD = s.gate.hD := (s.gate.closeOnce_leaves s.close.openKey).2
  have hunit : (s.reported n).close.closed s.close.openKey n pair s.gate.hD (s.entryFor pair) = s.unitClosed n pair := by
    rw [(s.reported_frame n).2.1]
    rfl
  rw [State.closePeriod, if_neg (Nat.not_le.2 h)]
  simp only [hclosed, hgate, hlevel, Option.getD_some]
  rw [State.afterClose, State.balanced, ← hunit]
  rfl

/-- What the evaluation of the queue leaves of the close report and of the REACH request. -/
theorem State.balanced_leaves (s : State) (n : Nat) (pair : ClosingPair) :
    (s.balanced n pair).running = s.running ∧ (s.balanced n pair).book = (s.reported n).book ∧
      (s.balanced n pair).gate = s.gate.closeOnce s.close.openKey ∧ (s.balanced n pair).line.reachReq = true ∧
      (s.balanced n pair).close.periodPart = (s.close.rolled n pair s.gate.hD).periodPart := by
  obtain ⟨hstartup, -, hgate, -⟩ := s.reported_frame n
  have hpart := ((s.reported n).withClose (s.unitClosed n pair)).requestReach.drainQueue_periodPart
  refine ⟨by simp [State.running, State.balanced, hstartup], by simp [State.balanced], by simp [State.balanced, hgate],
    by simp [State.balanced, State.requestReach_line], hpart.trans ?_⟩
  rw [(State.requestReach_frame _).2.2.2.2.2.2.2.2.2.2.1, State.withClose_close, State.unitClosed, CloseUnit.join_eq]
  rfl

/-- What a recompute, when there is one, leaves of it. -/
theorem State.afterClose_leaves (hrun : s.running = true) (n : Nat) (pair : ClosingPair) :
    (s.afterClose n pair).book.bookKey = max s.book.bookKey n ∧ (s.afterClose n pair).line.reachReq = true ∧
      (s.afterClose n pair).gate.closed = (s.gate.closeOnce s.close.openKey).closed ∧
      (s.afterClose n pair).gate.volume = (s.gate.closeOnce s.close.openKey).volume ∧
      (s.afterClose n pair).close.periodPart = (s.close.rolled n pair s.gate.hD).periodPart := by
  obtain ⟨hrun', hbook, hgate, hreach, hpart⟩ := s.balanced_leaves n pair
  obtain ⟨-, -, -, hkey⟩ := s.reported_frame n
  rw [← hkey, ← hbook, ← hgate, ← hpart]
  have hline := (State.recompute_of_running (hrun'.trans hrun)).2.1 hreach
  unfold State.afterClose
  split
  · exact ⟨by rw [State.recompute_book (hrun'.trans hrun)], hline, (State.recompute_gateVolume _).1, (State.recompute_gateVolume _).2,
      by rw [(State.recompute_frame _).2.2.2.2.2.2.2.1]⟩
  · exact ⟨rfl, hreach, rfl, rfl, rfl⟩

/-- PERIOD_CLOSE in RUN takes the oldest event. -/
theorem exec_periodClose {e : PeriodEvent} {rest : List PeriodEvent} (hrun : s.running = true) (h : s.inbox.close = e :: rest) :
    exec .periodClose s = .next ((s.withInbox { s.inbox with close := rest }).closePeriod e.newKey) := by
  change execPeriodClose s = _
  simp only [execPeriodClose, h]
  exact if_pos hrun

/-- The balance entry of the open period, field by field. -/
theorem State.entryFor_eq (s : State) (pair : ClosingPair) :
    let volumes := ((List.range 16).filter (present s.settings)).map fun i => (s.metersAndGateClosed.turnout i).handed
    s.entryFor pair =
      { key := s.close.openKey, inflow := pair.litres, turnoutSum := min (sumList (volumes.map (·.1))) 4294967295
        storage := s.close.openLevel.bind fun x => s.gate.hD.map fun y => ((y : Int) - x) * s.settings.reach.poolArea
        expectedLoss := s.settings.reach.loss * (s.settings.periodLength * 60)
        slots := s.settings.neighbours.downstream.map fun _ => none
        estimated := pair.estimated || volumes.any (·.2) } := by
  obtain ⟨hsettings, -, -, hclose, -⟩ := s.metersAndGateClosed_frame
  have hstorage : storageChange s.settings s.close.openLevel s.gate.hD =
      s.close.openLevel.bind fun x => s.gate.hD.map fun y => ((y : Int) - x) * s.settings.reach.poolArea := by
    cases s.close.openLevel <;> cases s.gate.hD <;> rfl
  simp only [State.entryFor, State.balanceEntry, State.handedVolumes, hsettings, hclose, hstorage, List.map_const']
  rfl

end

/-- Settles O50: the close in the order of its parts, the attributions order by order and turnout by turnout, and the close report slot by
slot. -/
theorem periodClose : Obligations.PeriodClose := by
  refine ⟨fun s e rest hrun hinbox => ⟨fun hle => ?discarded, fun hlt => ?closed⟩, fun s k hlength => ?attribution, fun b k i => ?taker,
    fun s n => ⟨State.closeReport_of_le, fun hlt => ?report, rfl, s.closeSlots_cons n⟩⟩
  case discarded => exact (exec_periodClose hrun hinbox).trans (congrArg _ (State.closePeriod_of_le hle))
  case closed =>
    let u : State := s.withInbox { s.inbox with close := rest }
    obtain ⟨⟨pair, hpair⟩, -⟩ := s.gate.closeOnce_leaves s.close.openKey
    obtain ⟨hbookKey, hreach, hclosed, hvolume, hpart⟩ := State.afterClose_leaves (s := u) hrun e.newKey pair
    obtain ⟨hkey, hlevel, hhistory, houtage⟩ := CloseUnit.periodPart_eq_iff.1 hpart
    have hexec : exec .periodClose s = .next (u.closePeriod e.newKey) := exec_periodClose hrun hinbox
    have hafter : u.closePeriod e.newKey = u.afterClose e.newKey pair := State.closePeriod_of_lt hlt hpair
    obtain ⟨hpending, hstartup, hsettings, htime, hinbox', hneigh, hlink⟩ := hafter ▸ u.closePeriod_frame e.newKey
    refine ⟨pair, u.unitClosed e.newKey pair, u.afterClose e.newKey pair, hpair, hafter ▸ hexec,
      ⟨fun hroom => ?room, fun pre x post hfull hqueue hpre hx => ?full⟩, ⟨fun hactive => ?active, fun hinactive => ?inactive⟩,
      hkey, hbookKey, hlevel, hreach, hclosed.trans hpair, hhistory, fun hopen => ⟨?pair, ?volume⟩, fun hnext => ?boundary,
      fun hjump => houtage.trans (if_pos hjump), hstartup, hsettings, htime, hinbox', hneigh, hlink, hpending⟩
    case room =>
      rw [State.unitClosed, State.entryFor_eq]
      exact CloseUnit.join_of_room hroom
    case full =>
      rw [State.unitClosed, State.entryFor_eq]
      exact CloseUnit.join_of_full hfull hqueue hpre hx
    case active => exact if_pos (madeActive_iff.2 hactive)
    case inactive => exact if_neg (hinactive ∘ madeActive_iff.1)
    case pair =>
      rw [Gate.closeOnce_of_open hopen] at hpair
      exact (Option.some.inj hpair).symm
    case volume => exact hvolume.trans (congrArg Gate.volume (Gate.closeOnce_of_open hopen))
    case boundary => exact houtage.trans (if_neg (show ¬s.close.openKey + 2 ≤ e.newKey by omega))
  case attribution =>
    refine ⟨s.attributeAll_eq k (List.range 16), fun i x hx => ?tally, fun slot hfree => ?free, fun slot o ho => ?delivered⟩
    case tally =>
      have hi : i ∈ List.range 16 := List.mem_range.2 (hlength ▸ (List.getElem?_eq_some_iff.1 hx).1)
      rw [State.attributeAll_turnouts List.nodup_range, hx, Option.map_some]
      exact congrArg some ((ite_congr (propext (and_iff_right hi)) (fun _ => rfl) fun _ => rfl).trans (x.ite_tallied _))
    case free => rw [State.attributeAll_at? List.nodup_range, hfree, Option.map_none]
    case delivered =>
      rw [State.attributeAll_at? List.nodup_range, ho, Option.map_some]
      have hturnout : o.turnout ∈ List.range 16 ↔ o.turnout < 16 := List.mem_range
      exact congrArg some (ite_congr (by rw [hturnout]; rfl) (fun _ => rfl) fun _ => rfl)
  case taker =>
    refine ⟨fun slot o h => ?some, ?none⟩
    case some =>
      obtain ⟨hat, htakes⟩ := OrderBook.of_takerOf h
      exact ⟨hat, Order.takes_iff.1 htakes⟩
    case none => simp only [OrderBook.takerOf_eq_none_iff, Order.takes_iff, not_and]
  case report =>
    have hreport := State.closeReport_of_lt hlt
    refine ⟨fun hsaid => ?said, fun hnot => ?unsaid, fun slot o ho => ⟨State.closeReport_at?_of_keeps hlt ho, fun hcloses hslot =>
      State.closeReport_of_closes hlt ho hcloses hslot⟩⟩
    case said => rw [hreport, (s.anyPair_changedBook_iff n).2 hsaid]; rfl
    case unsaid => rw [hreport, eq_false_of_ne_true (hnot ∘ (s.anyPair_changedBook_iff n).1)]; rfl

end Sys2Proof.Machine
end

section
/-! A tally that enters the billing log, in one equation: the account charged, the record, the turnout's entry and the alerts (R152 to R156,
R159). -/

namespace Sys2Proof.Machine

section

variable {s : State}

/-! ## Alerts on a condition (R174) -/

/-- The alerts after a raise on a condition. -/
def Alerts.raiseIf (a : Alerts) (b : Bool) (c : Cause) : Alerts := if b then a.raise c else a

/-- A raise on a condition writes the alerts alone. -/
theorem State.raiseIf_eq (s : State) (b : Bool) (c : Cause) : s.raiseIf b c = s.withAlerts (s.alerts.raiseIf b c) := by
  cases b <;> rfl

/-- A raise on a condition makes its cause pending when the condition holds, and leaves the others. -/
@[simp] theorem Alerts.hasCause_raiseIf (a : Alerts) (b : Bool) (c d : Cause) :
    hasCause (a.raiseIf b c).pending d = (hasCause a.pending d || (b && decide (d = c))) := by
  cases b <;> simp [Alerts.raiseIf]

/-! ## A tally that enters the log (R152) -/

/-- The index of the account that pays for unordered water at a turnout (R152). -/
def State.payer (s : State) (i : Nat) : Nat := (configOf s.settings i).account

/-- The charge of a turnout's tally at the active unordered rate (R152). -/
def State.tallyCharge (s : State) (i : Nat) : Nat := price (s.turnout i).tally s.billing.active.unordered

/-- The account that pays for a tally, after the charge. -/
def State.payerCharged (s : State) (i : Nat) : Account :=
  (s.billing.account (s.payer i)).charged (s.turnout i).tally (s.tallyCharge i)

/-- The record of a turnout's tally (R155). -/
def State.recordOfTally (s : State) (i : Nat) : BillRecord := tallyRecord s i (s.turnout i).tally (s.tallyCharge i)

/-- The entry of a record brings the log to its threshold (R159). -/
def State.reachesLevel (s : State) : Bool := decide (s.billing.log.length + 1 = s.settings.alert.logThreshold)

/-- A tally that enters the log is one account charged, one record, and the tally's own entry (R152). -/
theorem State.billTally_eq (s : State) (i : Nat) : s.billTally i = { s with
    billing := ({ s.billing with accounts := s.billing.accounts.set (s.payer i) (s.payerCharged i) } : Billing).enter (s.recordOfTally i)
    meters := { s.meters with turnouts := s.meters.turnouts.set i { s.turnout i with tally := 0, due := false } }
    alerts := (s.alerts.raiseIf ((s.billing.account (s.payer i)).state == .good && (s.payerCharged i).state == .hold)
      .accountHold).raiseIf s.reachesLevel .logLevel } := by
  simp only [State.billTally, State.chargeAccount, State.enterLog, State.raiseIf_eq, State.putTurnout]
  rfl

end

end Sys2Proof.Machine
end

section
/-! The billing log over a step (R156, R160, R161): gapless and within its 256 records, and full while an item waits. -/

namespace Sys2Proof.Machine

/-- The log is good, and full while an item waits. -/
def Billing.Sound (b : Billing) : Prop := b.LogGood ∧ b.WaitGood

/-! ## The log and the wait list (R156, R158, R160) -/

section

variable {b : Billing}

/-- The two predicates read the log, its numbers and the wait list alone. -/
theorem Billing.LogGood.congr {b' : Billing} (h : b.LogGood) (hlog : b'.log = b.log) (hseq : b'.nextSeq = b.nextSeq)
    (hpos : b'.readPos = b.readPos) : b'.LogGood := by
  unfold Billing.LogGood at h ⊢
  rwa [hlog, hseq, hpos]

theorem Billing.Sound.congr {b' : Billing} (h : b.Sound) (hlog : b'.log = b.log) (hseq : b'.nextSeq = b.nextSeq)
    (hpos : b'.readPos = b.readPos) (hwait : b'.waitList = b.waitList) : b'.Sound :=
  ⟨h.1.congr hlog hseq hpos, fun hw => by rw [hlog]; exact h.2 (hwait ▸ hw)⟩

/-- Nothing waits. -/
theorem Billing.Sound.of_empty (h : b.LogGood) (hwait : b.waitList = []) : b.Sound := ⟨h, fun hw => absurd hwait hw⟩

/-- A record that finds a free place carries the number that follows the last one's. -/
theorem Billing.LogGood.enter (h : b.LogGood) (hfree : b.log.length < 256) (r : BillRecord) : (b.enter r).LogGood := by
  obtain ⟨-, hpos, hseq, hnum⟩ := h
  refine ⟨?length, hpos, ?next, fun i x hx => ?number⟩
  case length => simp only [Billing.enter_log, List.length_append, List.length_singleton, logCapacity]; omega
  case next => simp only [Billing.enter_log, Billing.enter_nextSeq, Billing.enter_readPos, List.length_append, List.length_singleton]; omega
  case number =>
    rw [Billing.enter_log] at hx
    rcases Nat.lt_or_ge i b.log.length with hi | hi
    · exact hnum i x (by rwa [List.getElem?_append_left hi] at hx)
    · rw [List.getElem?_append_right hi, List.getElem?_singleton] at hx
      split at hx
      · cases hx
        have hlast : i = b.log.length := by omega
        rw [hlast]; exact hseq
      · cases hx

/-- A release drops as many numbers as records (R158). -/
theorem Billing.LogGood.release (h : b.LogGood) {n : Nat} (hn : n ≤ b.log.length) : (b.release n).LogGood := by
  obtain ⟨hlen, -, hseq, hnum⟩ := h
  simp only [logCapacity] at hlen
  refine ⟨?length, Nat.mod_lt _ (by decide), ?next, fun i x hx => ?number⟩
  case length => rw [Billing.length_release, logCapacity]; omega
  case next => rw [Billing.length_release]; simp only [Billing.release]; omega
  case number =>
    simp only [Billing.release, List.getElem?_drop] at hx
    rw [hnum _ x hx]; simp only [Billing.release]; omega

/-- A record with room leaves the log sound (R156). -/
theorem Billing.Sound.enter (h : b.Sound) (hroom : b.hasRoom = true) (r : BillRecord) : (b.enter r).Sound := by
  obtain ⟨hfree, hwait⟩ := b.hasRoom_iff.1 hroom
  exact .of_empty (h.1.enter hfree r) hwait

/-- A sound log without room is full. -/
theorem Billing.Sound.length_of_no_room (h : b.Sound) (hroom : ¬b.hasRoom = true) : b.log.length = 256 := by
  rw [Billing.hasRoom_iff, not_and] at hroom
  rcases Nat.lt_or_ge b.log.length 256 with hfree | hfull
  · exact h.2 (hroom hfree)
  · exact Nat.le_antisymm h.1.1 hfull

/-- An item that finds no room joins the wait list of a full log (R160). -/
theorem Billing.Sound.join (h : b.Sound) (hroom : ¬b.hasRoom = true) (items : List WaitItem) :
    ({ b with waitList := items } : Billing).Sound :=
  ⟨h.1.congr rfl rfl rfl, fun _ => h.length_of_no_room hroom⟩

end

/-! ## The closes of orders (R21, R28, R162) -/

section

variable {s : State}

/-- The billing part after the close of an order: a charge, then its record or its place on the wait list (R21). -/
theorem State.closeOrder_sound (h : s.billing.Sound) (kind : RecordKind) (slot key : Nat) (o : Order) :
    (s.closeOrder kind slot key o).billing.Sound := by
  unfold State.closeOrder
  dsimp only
  generalize hu : s.chargeAccount o.account _ (closeCharge s kind o) = u
  have husound : u.billing.Sound := by rw [← hu, State.chargeAccount_billing]; exact h.congr rfl rfl rfl rfl
  split
  case isTrue hroom => rw [State.withBook_billing, State.enterLog_billing]; exact husound.enter hroom _
  case isFalse hroom => rw [State.withBook_billing, State.joinWait_billing]; exact husound.join hroom _

theorem State.closeSlots_sound (h : s.billing.Sound) (n : Nat) (l : List Nat) : (s.closeSlots n l).billing.Sound := by
  induction l generalizing s with
  | nil => exact h
  | cons slot rest ih =>
    unfold State.closeSlots
    split
    · exact ih h
    · split
      · exact ih (State.closeOrder_sound h _ _ _ _)
      · exact ih h

theorem State.cancelOrder_sound (h : s.billing.Sound) (slot : Nat) (late service : Bool) (o : Order) :
    (s.cancelOrder slot late service o).billing.Sound := State.closeOrder_sound h _ _ _ _

theorem State.cancelSlots_sound (h : s.billing.Sound) (l : List Nat) : (s.cancelSlots l).billing.Sound := by
  induction l generalizing s with
  | nil => exact h
  | cons slot rest ih =>
    unfold State.cancelSlots
    split
    · exact ih (State.cancelOrder_sound h _ _ _ _)
    · exact ih h

theorem State.closeReport_sound (h : s.billing.Sound) (n : Nat) : (s.closeReport n).billing.Sound := by
  unfold State.closeReport
  split
  · exact h
  · exact State.closeSlots_sound (by simpa using h) _ _

theorem State.closePeriod_sound (h : s.billing.Sound) (n : Nat) : (s.closePeriod n).billing.Sound := by
  unfold State.closePeriod
  split
  · exact h
  · have hreport := State.closeReport_sound (s := ((s.closeMetersOnce s.close.openKey).closeGateOnce s.close.openKey).attributeAll
      s.close.openKey (List.range 16)) (by simpa using h) n
    dsimp only
    split <;> simpa using hreport

theorem State.settleMeters_sound (h : s.billing.Sound) : s.settleMeters.billing.Sound := by
  unfold State.settleMeters
  split
  · exact List.foldlRecOn (motive := fun t : State => t.billing.Sound) _ _ h fun _ ht e _ => by
      simpa using State.closePeriod_sound ht e.oldKey
  · exact h

theorem State.settleGate_sound (h : s.billing.Sound) : s.settleGate.billing.Sound := by
  unfold State.settleGate
  split
  · exact List.foldlRecOn (motive := fun t : State => t.billing.Sound) _ _ h fun _ ht e _ => by
      simpa using State.closePeriod_sound ht e.oldKey
  · exact h

/-! ## The tallies (R152, R161, R164, R165) -/

/-- What entered the log is all that a tally changes of the log. -/
theorem State.billTally_logGood (h : s.billing.LogGood) (hfree : s.billing.log.length < 256) (i : Nat) :
    (s.billTally i).billing.LogGood := by
  rw [State.billTally_eq]
  exact Billing.LogGood.enter (h.congr rfl rfl rfl) hfree _

@[simp] theorem State.billTally_waitList (s : State) (i : Nat) : (s.billTally i).billing.waitList = s.billing.waitList := by
  rw [State.billTally_eq]; rfl

@[simp] theorem State.billTally_length (s : State) (i : Nat) :
    (s.billTally i).billing.log.length = s.billing.log.length + 1 := by
  rw [State.billTally_eq]; simp

theorem State.offerTallies_sound (h : s.billing.Sound) (l : List Nat) : (s.offerTallies l).billing.Sound := by
  induction l generalizing s with
  | nil => exact h
  | cons i rest ih =>
    unfold State.offerTallies
    refine ih ?_
    split
    · unfold State.offerTally
      split
      case isTrue hroom =>
        obtain ⟨hfree, hwait⟩ := s.billing.hasRoom_iff.1 hroom
        exact .of_empty (State.billTally_logGood h.1 hfree i) (by rw [State.billTally_waitList, hwait])
      case isFalse hroom =>
        simpa using h.join hroom _
    · exact h

theorem State.dayClose_sound (h : s.billing.Sound) : s.dayClose.billing.Sound := by
  have htallies := State.offerTallies_sound h (List.range 16)
  unfold State.dayClose
  generalize s.offerTallies (List.range 16) = t at htallies
  dsimp only [State.withBilling_billing]
  unfold Billing.switchRates
  split
  · exact htallies.congr rfl rfl rfl rfl
  · exact htallies

/-- An item that leaves the wait list enters a log with a free place, or leaves the log as it is. -/
theorem State.moveItem_logGood (h : s.billing.LogGood) (hfree : s.billing.log.length < 256) (item : WaitItem) :
    (s.moveItem item).billing.LogGood := by
  cases item with
  | tally i => exact State.billTally_logGood h hfree i
  | order slot =>
    unfold State.moveItem
    dsimp only
    split
    · split
      · rw [State.withBook_billing, State.enterLog_billing]; exact h.enter hfree _
      · exact h
    · exact h

@[simp] theorem State.moveItem_waitList (s : State) (item : WaitItem) : (s.moveItem item).billing.waitList = s.billing.waitList := by
  cases item with
  | tally i => exact s.billTally_waitList i
  | order slot =>
    unfold State.moveItem
    dsimp only
    split
    · split <;> simp
    · rfl

/-- The moves go on until nothing waits or the log is full (R161). -/
theorem State.moveWait_sound (h : s.billing.LogGood) {n : Nat} (hn : s.billing.waitList.length ≤ n) :
    (s.moveWait n).billing.Sound := by
  induction n generalizing s with
  | zero => exact .of_empty h (List.eq_nil_of_length_eq_zero (Nat.le_zero.1 hn))
  | succ n ih =>
    unfold State.moveWait
    split
    case h_1 hwait => exact .of_empty h hwait
    case h_2 item rest hwait =>
      split
      case isTrue hfree =>
        refine ih (State.moveItem_logGood (s := s.withBilling { s.billing with waitList := rest }) (h.congr rfl rfl rfl) hfree item) ?_
        rw [hwait, List.length_cons] at hn
        rw [State.moveItem_waitList]
        exact Nat.le_of_succ_le_succ hn
      case isFalse hfull => exact ⟨h, fun _ => Nat.le_antisymm h.1 (Nat.not_lt.1 hfull)⟩

theorem State.billTallies_logGood (h : s.billing.LogGood) {l : List Nat} (hfree : s.billing.log.length + l.length ≤ 256) :
    (s.billTallies l).billing.LogGood ∧ (s.billTallies l).billing.waitList = s.billing.waitList := by
  induction l generalizing s with
  | nil => exact ⟨h, rfl⟩
  | cons i rest ih =>
    rw [List.length_cons] at hfree
    obtain ⟨hlog, hwait⟩ := ih (State.billTally_logGood h (by omega) i) (by rw [State.billTally_length]; omega)
    exact ⟨hlog, hwait.trans (s.billTally_waitList i)⟩

/-! ## The owners of the link commands -/

theorem State.takeAccount_sound (h : s.billing.Sound) (index allotment limit state : Nat) :
    (s.takeAccount index allotment limit state).state.billing.Sound := by
  unfold State.takeAccount
  dsimp only
  split
  · exact h
  · split
    · exact h
    · split
      · exact h
      · exact h.congr rfl rfl rfl rfl

theorem State.takeRates_sound (h : s.billing.Sound) (table : RateTable) : (s.takeRates table).state.billing.Sound := by
  unfold State.takeRates
  split
  · exact h.congr rfl rfl rfl rfl
  · exact h

theorem State.takeRelease_sound (h : s.billing.Sound) (count : Nat) : (s.takeRelease count).state.billing.Sound :=
  State.moveWait_sound (h.1.release (Nat.min_le_right _ _)) (Nat.le_refl _)

theorem State.takeSeasonClose_sound (h : s.billing.Sound) : s.takeSeasonClose.state.billing.Sound := by
  unfold State.takeSeasonClose
  split
  · exact h
  · rename_i hquiet
    split
    · exact h
    · rename_i hspace
      simp only [Bool.or_eq_true, Bool.not_eq_true', not_or, Bool.not_eq_false, List.isEmpty_iff] at hquiet
      obtain ⟨hlog, hwait⟩ := State.billTallies_logGood h.1 (Nat.not_lt.1 hspace)
      exact .of_empty (hlog.congr rfl rfl rfl) (hwait.trans hquiet.2)

theorem State.cancelByCommand_sound (h : s.billing.Sound) (slot : Nat) (o : Order) : (s.cancelByCommand slot o).billing.Sound := by
  simpa [State.cancelByCommand] using State.cancelOrder_sound h slot (s.isLate o) false o

theorem State.takeOrder_sound (h : s.billing.Sound) (r : OrderRequest) : (s.takeOrder r).state.billing.Sound := by
  unfold State.takeOrder
  split
  · exact h
  · split
    · exact h
    · simpa using h
    · exact h
    · exact h

theorem State.takeCancel_sound (h : s.billing.Sound) (number : Nat) : (s.takeCancel number).state.billing.Sound := by
  unfold State.takeCancel
  split
  · exact h
  · split
    · exact State.cancelByCommand_sound h _ _
    · exact h

theorem State.takeShutoff_sound (h : s.billing.Sound) (number : Nat) : (s.takeShutoff number).state.billing.Sound := by
  unfold State.takeShutoff
  split
  · exact h
  · split
    · simpa using h
    · exact State.cancelByCommand_sound h _ _
    · exact h
    · exact h

theorem State.outOfService_sound (h : s.billing.Sound) (i : Nat) : (s.outOfService i).billing.Sound := by
  have hcancelled := State.cancelSlots_sound (s := s.setService i false) (by simpa using h) (s.book.pendingOn i)
  unfold State.outOfService
  dsimp only
  split
  · exact hcancelled
  · simpa using hcancelled

theorem State.takeService_sound (h : s.billing.Sound) (i direction : Nat) : (s.takeService i direction).state.billing.Sound := by
  unfold State.takeService
  split
  · exact h
  · split
    · exact h
    · split
      · exact h
      · split
        · exact h
        · rw [State.accept_state]
          split
          · simpa using h
          · exact State.outOfService_sound h i

/-! ## The starts (R144, R166, R185) -/

theorem coldBilling_sound (m : Image) : (coldBilling m).Sound :=
  .of_empty ⟨Nat.zero_le _, show 0 < 4294967296 by decide, rfl, fun i r hr => by simp [coldBilling] at hr⟩ rfl

/-- A cold start empties the log, and a warm start keeps the billing part. -/
theorem State.startWith_sound (h : s.billing.Sound) (m : Image) : (s.startWith m).billing.Sound := by
  unfold State.startWith
  split
  · simpa [State.coldStart, State.coldBlocks, State.markCold] using coldBilling_sound m
  · simpa [State.warmStart] using h

theorem State.takeMemoryImage_sound (h : s.billing.Sound) (image : List Byte) : (s.takeMemoryImage image).billing.Sound := by
  unfold State.takeMemoryImage
  split
  · exact State.startWith_sound h _
  · split <;> exact h

theorem State.endLoad_sound (h : s.billing.Sound) : s.endLoad.state.billing.Sound := by
  unfold State.endLoad State.takeLinkImage
  split
  · exact h
  · rw [State.accept_state]
    split
    · exact State.startWith_sound h _
    · exact h

end

end Sys2Proof.Machine
end

section
/-! Every command and every step keeps the billing log sound (R156, R160, R161). -/

namespace Sys2Proof.Machine

section

variable {s : State}

/-- The answer of a step keeps the billing log sound. -/
def KeepsLog (s : State) (o : Out) : Prop := s.billing.Sound → ∀ t, o = .next t → t.billing.Sound

theorem keepsLog_next {t : State} (h : s.billing.Sound → t.billing.Sound) : KeepsLog s (.next t) := by
  rintro hs _ ⟨⟩; exact h hs

/-- A next state with the same billing part. -/
theorem keepsLog_same {t : State} (h : t.billing = s.billing) : KeepsLog s (.next t) := keepsLog_next fun hs => h ▸ hs

/-- Two answers that a condition chooses between. -/
theorem keepsLog_if {p : Prop} [Decidable p] {a b : Out} (ha : KeepsLog s a) (hb : KeepsLog s b) : KeepsLog s (if p then a else b) := by
  split
  · exact ha
  · exact hb

/-- An event row: under its condition it keeps the log sound, and otherwise it leaves the whole state. -/
theorem keepsLog_event {p : Prop} [Decidable p] {t : State} (h : s.billing.Sound → t.billing.Sound) :
    KeepsLog s (if p then .next t else .next s) := keepsLog_if (keepsLog_next h) (keepsLog_same rfl)

/-- An event row of another block. -/
theorem keepsLog_ite {p : Prop} [Decidable p] {t : State} (h : t.billing = s.billing) :
    KeepsLog s (if p then .next t else .next s) := keepsLog_event fun hs => h ▸ hs

/-- A command leaves the billing part that its owner leaves; refused by the start state, or without supply, the one it found. -/
theorem State.serve_billing (c : Instr) (kind : Byte) (k : Service) (body : Served) :
    (s.serve c kind k body).billing =
      if s.startup.powered = true ∧ k.refusal s.startup.state = none then body.state.billing else s.billing := by
  cases hp : s.startup.powered with
  | false => simp [State.serve_of_unpowered c kind k body hp]
  | true =>
    cases hk : k.refusal s.startup.state with
    | none => simp [State.serve_of_served c kind k body hp hk]
    | some r => simp [State.serve_of_refused c kind k body hp hk]

/-- A served command keeps the log sound when its owner does. -/
theorem keepsLog_serve {c : Instr} {kind : Byte} {k : Service} {body : Served} (h : s.billing.Sound → body.state.billing.Sound) :
    KeepsLog s (.next (s.serve c kind k body)) :=
  keepsLog_next fun hs => by
    rw [State.serve_billing]
    split
    · exact h hs
    · exact hs

/-- A served command whose owner leaves the billing part. -/
theorem keepsLog_serve_same {c : Instr} {kind : Byte} {k : Service} {body : Served} (h : body.state.billing = s.billing) :
    KeepsLog s (.next (s.serve c kind k body)) := keepsLog_serve fun hs => h ▸ hs

end

/-- Every command keeps the log sound: those of the Billing Unit, the closes of orders and periods, and the starts by their own lemmas; the
others leave the billing part. -/
theorem exec_keepsLog (c : Instr) (s : State) : KeepsLog s (exec c s) := by
  cases c with
  -- the Billing Unit and the Order Book
  | billingDayClose =>
    simp only [exec, execBillingDayClose]
    split
    · exact keepsLog_event fun h => State.dayClose_sound h
    · exact keepsLog_same rfl
  | accountSet _ _ _ _ => exact keepsLog_serve fun h => State.takeAccount_sound h _ _ _ _
  | ratesStage _ => exact keepsLog_serve fun h => State.takeRates_sound h _
  | logRelease _ => exact keepsLog_serve fun h => State.takeRelease_sound h _
  | seasonClose => exact keepsLog_serve State.takeSeasonClose_sound
  | orderPlace _ => exact keepsLog_serve fun h => State.takeOrder_sound h _
  | orderCancel _ => exact keepsLog_serve fun h => State.takeCancel_sound h _
  | orderShutoff _ => exact keepsLog_serve fun h => State.takeShutoff_sound h _
  | turnoutService _ _ => exact keepsLog_serve fun h => State.takeService_sound h _ _
  -- the closes of periods, by their event or before a pulse or a sample is counted
  | periodClose =>
    simp only [exec, execPeriodClose]
    split
    · exact keepsLog_event fun h => State.closePeriod_sound (by simpa using h) _
    · exact keepsLog_same rfl
  | meterPulse _ | noFlowExpiry _ => exact keepsLog_event fun h => by simpa using State.settleMeters_sound h
  | levelSample _ =>
    refine keepsLog_if ?_ (keepsLog_same rfl)
    split <;> exact keepsLog_next fun h => by simpa using State.settleGate_sound h
  | sampleWatchExpiry => exact keepsLog_event fun h => by simpa using State.settleGate_sound h
  -- the Start-up Controller
  | imageReadComplete _ => exact keepsLog_event fun h => State.takeMemoryImage_sound h _
  | configEnd => exact keepsLog_serve State.endLoad_sound
  | resetRelease _ _ _ | supplyLoss => exact keepsLog_same rfl
  | configData _ _ =>
    refine keepsLog_serve_same ?_
    unfold State.loadBytes; dsimp only; repeat' split
    all_goals rfl
  | restart => exact keepsLog_serve_same rfl
  | replySent =>
    simp only [exec, execReplySent]
    split
    · exact keepsLog_same rfl
    · exact keepsLog_if (keepsLog_same rfl) (keepsLog_same rfl)
  -- the Time Base
  | catchUp => exact keepsLog_same (by simp)
  | periodBoundary => exact keepsLog_ite (by simp)
  | crystalStop => exact keepsLog_if (keepsLog_same rfl) (keepsLog_if (keepsLog_same rfl) (keepsLog_same rfl))
  | crystalRunning => exact keepsLog_if (keepsLog_same rfl) (keepsLog_same rfl)
  | timeSet _ _ _ _ =>
    refine keepsLog_serve_same ?_
    unfold State.takeTimeSet State.firstTime; repeat' split
    all_goals simp
  | timeTrim _ => exact keepsLog_serve_same (by unfold State.takeTimeTrim; split <;> simp)
  -- the other period events
  | planPeriodChange | gatePeriodBoundary | meterPeriodClose =>
    simp only [exec, execPlanPeriodChange, execGatePeriodBoundary, execMeterPeriodClose]
    split
    · exact keepsLog_ite (by simp)
    · exact keepsLog_same rfl
  -- the Line Interface and the Neighbour Table
  | lineFrameReceived _ =>
    refine keepsLog_if ?_ (keepsLog_same rfl)
    split <;> exact keepsLog_same (by simp)
  | lineCharacterReceived _ _ | lineFrameGap | accessGapReached | collision | backoffExpiry | noticeComplete | holdoffExpiry
  | noticeTimerExpiry | holdExpiry _ => exact keepsLog_ite (by simp)
  | noticeNow => exact keepsLog_serve_same (by simp)
  | watchDeclare _ => exact keepsLog_serve_same (by unfold State.declareWatch; split <;> simp)
  -- the Gate Controller and the Planner
  | encoderStep _ | restExpiry | stallExpiry | tripWaitExpiry => exact keepsLog_ite (by simp)
  | limitInputChange _ _ =>
    exact keepsLog_if (keepsLog_same rfl) (keepsLog_if (keepsLog_same rfl) (keepsLog_if (keepsLog_same (by simp)) (keepsLog_same rfl)))
  | supplyLowChange _ => exact keepsLog_if (keepsLog_same rfl) (keepsLog_if (keepsLog_same rfl) (keepsLog_same rfl))
  | tripInputChange _ => exact keepsLog_if (keepsLog_same rfl) (keepsLog_if (keepsLog_same (by simp)) (keepsLog_same rfl))
  | gateMode _ _ => exact keepsLog_serve_same (by unfold State.takeGateMode; split <;> rfl)
  | tripClear => exact keepsLog_serve_same (by unfold State.takeTripClear; dsimp only; split <;> rfl)
  | supplySet _ => exact keepsLog_serve_same (by unfold State.takeSupply; split <;> simp)
  | targetStage _ =>
    refine keepsLog_serve_same ?_
    unfold State.takeTarget; repeat' split
    all_goals rfl
  | turnoutAck _ _ =>
    refine keepsLog_serve_same ?_
    unfold State.takeTurnoutAck; repeat' split
    all_goals rfl
  -- the Station Link and the alerts
  | linkCharacterReceived _ _ | linkFrameReceived _ _ | linkFrameGap | moderationExpiry => exact keepsLog_ite (by simp)
  | check _ | unknownCommand _ | bookList | logRead _ | alertRead => exact keepsLog_serve_same rfl
  | alertAck _ => exact keepsLog_serve_same (by unfold State.takeAck; split <;> simp)
  | alertMask _ => exact keepsLog_serve_same (by unfold State.takeMask; split <;> rfl)
  | statusRead _ | planRead _ | orderQuery _ | accountQuery _ | turnoutQuery _ =>
    exact keepsLog_serve_same (by rw [State.read_state])

/-- Settles O5: the log is sound after every command, and the queue and the passing of time leave it. -/
theorem stepKeepsBillingLog : Obligations.StepKeepsBillingLog := by
  intro s t hlog hwait h
  unfold step at h
  split at h
  case h_1 c rest _ => exact exec_keepsLog c (s.withPending rest) ⟨hlog, hwait⟩ t h
  case h_2 =>
    split at h
    case h_1 c _ => exact exec_keepsLog c s ⟨hlog, hwait⟩ t h
    case h_2 =>
      cases h
      simpa using And.intro hlog hwait

end Sys2Proof.Machine
end

section
/-! Items that enter the log one after the other (R152, R155, R161): the records, the accounts, the slots and the turnouts that a list of
items leaves, each read off the state before the first of them. LOG_RELEASE, SEASON_CLOSE and BILLING_DAY_CLOSE are such lists. -/

namespace Sys2Proof.Machine

section

variable {s : State} {items : List WaitItem}

/-! ## One item -/

/-- The bill record that an item enters with, but for its sequence number: a tally's is made at that instant, an order's is the one it holds. -/
def State.itemRecord (s : State) : WaitItem → BillRecord
  | .tally i => s.recordOfTally i
  | .order slot => ((s.book.at? slot).bind Order.record).getD default

/-- The accounts after an item enters: a tally is charged then, an order no more (R161). -/
def State.itemCharge (s : State) (xs : List Account) : WaitItem → List Account
  | .tally i => xs.set (s.payer i) ((xs.getD (s.payer i) resetAccount).charged (s.turnout i).tally (s.tallyCharge i))
  | .order _ => xs

/-- The item can enter: the slot of an order with its record, or a turnout that exists. -/
def State.CanEnter (s : State) : WaitItem → Prop
  | .tally i => i < s.meters.turnouts.length
  | .order slot => ∃ o r, s.book.at? slot = some o ∧ o.record = some r

/-- A turnout after an item enters. -/
def Turnout.billed (t : Turnout) : Turnout := { t with tally := 0, due := false }

/-- The record with its sequence number. -/
def BillRecord.numbered (r : BillRecord) (n : Nat) : BillRecord := { r with seq := n }

theorem State.itemRecord_order {slot : Nat} {o : Order} {r : BillRecord} (ho : s.book.at? slot = some o) (hr : o.record = some r) :
    s.itemRecord (.order slot) = r := by
  simp [State.itemRecord, ho, hr]

/-- An order that is moved enters as it was made, and its slot is freed (R161). -/
theorem State.moveItem_order {slot : Nat} {o : Order} {r : BillRecord} (ho : s.book.at? slot = some o) (hr : o.record = some r) :
    s.moveItem (.order slot) = { s with
      billing := s.billing.enter r, book := s.book.put slot none, alerts := s.alerts.raiseIf s.reachesLevel .logLevel } := by
  unfold State.moveItem
  simp only [ho, hr, State.enterLog, State.raiseIf_eq]
  rfl

/-- The billing part after an item enters. -/
theorem State.moveItem_billing {x : WaitItem} (h : s.CanEnter x) : (s.moveItem x).billing =
    ({ s.billing with accounts := s.itemCharge s.billing.accounts x } : Billing).enter (s.itemRecord x) := by
  cases x with
  | tally i =>
    change (s.billTally i).billing = _
    rw [State.billTally_eq]; rfl
  | order slot =>
    obtain ⟨o, r, ho, hr⟩ := h
    rw [State.moveItem_order ho hr, State.itemRecord_order ho hr]; rfl

/-- The alerts after an item enters: a cause that was pending stays so, and the threshold raises LOG_LEVEL (R159). -/
theorem State.hasCause_moveItem {x : WaitItem} (h : s.CanEnter x) {c : Cause}
    (hc : hasCause s.alerts.pending c = true ∨ (s.reachesLevel = true ∧ c = .logLevel)) :
    hasCause (s.moveItem x).alerts.pending c = true := by
  cases x with
  | tally i =>
    change hasCause (s.billTally i).alerts.pending c = true
    rw [State.billTally_eq]
    rcases hc with hc | ⟨hlevel, rfl⟩ <;> simp [*]
  | order slot =>
    obtain ⟨o, r, ho, hr⟩ := h
    rw [State.moveItem_order ho hr]
    rcases hc with hc | ⟨hlevel, rfl⟩ <;> simp [*]

/-- The other turnouts, and the one whose tally enters. -/
theorem State.moveItem_turnout {x : WaitItem} (h : s.CanEnter x) (i : Nat) :
    (s.moveItem x).turnout i = if x = .tally i then (s.turnout i).billed else s.turnout i := by
  cases x with
  | tally j =>
    change (s.billTally j).turnout i = _
    rw [State.billTally_eq]
    have hj : j < s.meters.turnouts.length := h
    by_cases hij : j = i
    · subst hij; simp [State.turnout, Turnout.billed, hj]
    · simp [State.turnout, hij]
  | order slot =>
    obtain ⟨o, r, ho, hr⟩ := h
    rw [State.moveItem_order ho hr, if_neg (by simp)]; rfl

/-- The other slots, and the one whose order enters. -/
theorem State.moveItem_at? {x : WaitItem} (h : s.CanEnter x) (slot : Nat) :
    (s.moveItem x).book.at? slot = if x = .order slot then none else s.book.at? slot := by
  cases x with
  | tally j =>
    change (s.billTally j).book.at? slot = _
    simp
  | order other =>
    obtain ⟨o, r, ho, hr⟩ := h
    rw [State.moveItem_order ho hr]
    by_cases hslot : other = slot
    · subst hslot
      rw [if_pos rfl]
      exact OrderBook.at?_put_self none (OrderBook.lt_of_at? ho)
    · rw [if_neg (by simpa using hslot)]
      exact OrderBook.at?_put_of_ne none hslot

@[simp] theorem State.moveItem_length {x : WaitItem} (h : s.CanEnter x) :
    (s.moveItem x).meters.turnouts.length = s.meters.turnouts.length := by
  cases x with
  | tally i =>
    change (s.billTally i).meters.turnouts.length = _
    rw [State.billTally_eq]; simp
  | order slot =>
    obtain ⟨o, r, ho, hr⟩ := h
    rw [State.moveItem_order ho hr]

/-! ## The accounts (R153, R154) -/

/-- An account after some charges: its state is at most moved from GOOD to HOLD, which then has been raised. -/
def Account.ChargedTo (raised : Prop) (a a' : Account) : Prop :=
  a'.number = a.number ∧ a'.allotment = a.allotment ∧ a'.limit = a.limit ∧
    (a'.state = a.state ∨ (a.state = .good ∧ a'.state = .hold ∧ raised))

theorem Account.ChargedTo.trans {p q : Prop} {a b c : Account} (h : a.ChargedTo p b) (h' : b.ChargedTo q c) (hpq : p → q) :
    a.ChargedTo q c := by
  obtain ⟨hnumber, hallotment, hlimit, hstate⟩ := h
  obtain ⟨hnumber', hallotment', hlimit', hstate'⟩ := h'
  refine ⟨hnumber'.trans hnumber, hallotment'.trans hallotment, hlimit'.trans hlimit, ?_⟩
  rcases hstate with hsame | ⟨hgood, hhold, hp⟩
  · rcases hstate' with hsame' | ⟨hgood', hhold', hq⟩
    · exact .inl (hsame'.trans hsame)
    · exact .inr ⟨hsame ▸ hgood', hhold', hq⟩
  · rcases hstate' with hsame' | ⟨hgood', -, -⟩
    · exact .inr ⟨hgood, hsame'.trans hhold, hpq hp⟩
    · rw [hhold] at hgood'; cases hgood'

/-- An item leaves the number of every account. -/
theorem State.itemCharge_number (s : State) (xs : List Account) (x : WaitItem) (n : Nat) :
    ((s.itemCharge xs x).getD n resetAccount).number = (xs.getD n resetAccount).number := by
  cases x with
  | order slot => rfl
  | tally i =>
    rw [State.itemCharge]
    generalize hindex : s.payer i = index
    by_cases hn : index = n
    · subst hn
      rcases Nat.lt_or_ge index xs.length with hlt | hge
      · simp [hlt, (Account.charged_frame _ _ _).1]
      · rw [List.set_eq_of_length_le hge]
    · simp [hn]

/-- An item charges its account, and a HOLD that the charge sets is raised (R154). -/
theorem State.moveItem_accounts {x : WaitItem} (h : s.CanEnter x) {n : Nat} {a : Account} (ha : s.billing.accounts[n]? = some a) :
    ∃ a', (s.moveItem x).billing.accounts[n]? = some a' ∧ a.ChargedTo (hasCause (s.moveItem x).alerts.pending .accountHold = true) a' := by
  rw [State.moveItem_billing h]
  have hsame : a.ChargedTo (hasCause (s.moveItem x).alerts.pending .accountHold = true) a := ⟨rfl, rfl, rfl, .inl rfl⟩
  cases x with
  | order slot => exact ⟨a, ha, hsame⟩
  | tally i =>
    by_cases hn : s.payer i = n
    · have hpayer : s.billing.account (s.payer i) = a := by rw [Billing.account, hn, List.getD_eq_getElem?_getD, ha]; rfl
      obtain ⟨hnumber, hallotment, hlimit, hstate⟩ := Account.charged_frame a (s.turnout i).tally (s.tallyCharge i)
      refine ⟨s.payerCharged i, ?_, ?_⟩
      · obtain ⟨hlt, -⟩ := List.getElem?_eq_some_iff.1 ha
        simp [State.itemCharge, State.payerCharged, Billing.account, hn, hlt]
      · rw [State.payerCharged, hpayer]
        refine ⟨hnumber, hallotment, hlimit, hstate.imp_right fun ⟨hgood, hhold⟩ => ⟨hgood, hhold, ?_⟩⟩
        change hasCause (s.billTally i).alerts.pending .accountHold = true
        rw [State.billTally_eq]
        simp [State.payerCharged, hpayer, hgood, hhold]
    · exact ⟨a, by simpa [State.itemCharge, hn] using ha, hsame⟩

end

/-! ## A list of items -/

/-- The items enter the log one after the other. -/
def State.enterItems (s : State) (items : List WaitItem) : State := items.foldl State.moveItem s

/-- What a list of items that enter leaves, read off the state before the first of them. -/
structure State.Entered (s : State) (items : List WaitItem) (u : State) : Prop where
  billing : u.billing = { s.billing with
    accounts := items.foldl s.itemCharge s.billing.accounts
    log := s.billing.log ++ items.mapIdx fun j x => (s.itemRecord x).numbered ((s.billing.nextSeq + j) % 4294967296)
    nextSeq := (s.billing.nextSeq + items.length) % 4294967296 }
  turnout (i : Nat) : u.turnout i = if .tally i ∈ items then (s.turnout i).billed else s.turnout i
  slot (slot : Nat) : u.book.at? slot = if .order slot ∈ items then none else s.book.at? slot
  length : u.meters.turnouts.length = s.meters.turnouts.length
  settings : u.settings = s.settings
  time : u.time = s.time
  cause (c : Cause) : hasCause s.alerts.pending c = true → hasCause u.alerts.pending c = true
  level : s.billing.log.length < s.settings.alert.logThreshold → s.settings.alert.logThreshold ≤ s.billing.log.length + items.length →
    hasCause u.alerts.pending .logLevel = true
  account (n : Nat) (a : Account) : s.billing.accounts[n]? = some a →
    ∃ a', u.billing.accounts[n]? = some a' ∧ a.ChargedTo (hasCause u.alerts.pending .accountHold = true) a'

section

variable {s u : State} {items : List WaitItem} {x : WaitItem}

theorem State.Entered.nil (hseq : s.billing.nextSeq < 4294967296) : s.Entered [] s where
  billing := by simp [Nat.mod_eq_of_lt hseq]
  turnout i := by simp
  slot slot := by simp
  length := rfl
  settings := rfl
  time := rfl
  cause c h := h
  level h h' := absurd h (Nat.not_lt.2 h')
  account n a h := ⟨a, h, rfl, rfl, rfl, .inl rfl⟩

/-- The items before it leave the numbers of the accounts. -/
theorem State.Entered.account_number (h : s.Entered items u) (n : Nat) : (u.billing.account n).number = (s.billing.account n).number := by
  rw [Billing.account, h.billing]
  exact List.foldlRecOn (motive := fun xs : List Account => (xs.getD n resetAccount).number = (s.billing.account n).number) _ _ rfl
    fun xs hxs x _ => (s.itemCharge_number xs x n).trans hxs

/-- An item that is not among those before it finds what it would have found before them. -/
theorem State.Entered.turnout_of_not_mem (h : s.Entered items u) {i : Nat} (hi : .tally i ∉ items) : u.turnout i = s.turnout i := by
  rw [h.turnout, if_neg hi]

theorem State.Entered.slot_of_not_mem (h : s.Entered items u) {slot : Nat} (hslot : .order slot ∉ items) :
    u.book.at? slot = s.book.at? slot := by
  rw [h.slot, if_neg hslot]

theorem State.Entered.canEnter (h : s.Entered items u) (hx : x ∉ items) (hs : s.CanEnter x) : u.CanEnter x := by
  cases x with
  | tally i => exact Nat.lt_of_lt_of_eq hs h.length.symm
  | order slot => rw [State.CanEnter, h.slot_of_not_mem hx]; exact hs

theorem State.Entered.payer (h : s.Entered items u) (i : Nat) : u.payer i = s.payer i := by
  rw [State.payer, h.settings]; rfl

theorem State.Entered.tallyCharge (h : s.Entered items u) {i : Nat} (hi : .tally i ∉ items) : u.tallyCharge i = s.tallyCharge i := by
  rw [State.tallyCharge, h.turnout_of_not_mem hi, h.billing]; rfl

theorem State.Entered.itemCharge (h : s.Entered items u) (hx : x ∉ items) (xs : List Account) :
    u.itemCharge xs x = s.itemCharge xs x := by
  cases x with
  | tally i => rw [State.itemCharge, h.payer, h.turnout_of_not_mem hx, h.tallyCharge hx]; rfl
  | order slot => rfl

theorem State.Entered.itemRecord (h : s.Entered items u) (hx : x ∉ items) : u.itemRecord x = s.itemRecord x := by
  cases x with
  | order slot => rw [State.itemRecord, h.slot_of_not_mem hx]; rfl
  | tally i =>
    have hnumber := h.account_number (configOf s.settings i).account
    simp only [State.itemRecord, State.recordOfTally, tallyRecord, h.turnout_of_not_mem hx, h.tallyCharge hx, State.timeUncertain,
      State.curKey, h.settings, h.time, hnumber]

/-- One item more. -/
theorem State.Entered.concat (h : s.Entered items u) (hx : x ∉ items) (hs : s.CanEnter x) : s.Entered (items ++ [x]) (u.moveItem x) := by
  have hu : u.CanEnter x := h.canEnter hx hs
  have hlen : u.billing.log.length = s.billing.log.length + items.length := by simp [h.billing]
  obtain ⟨-, -, hsettings, htime, -⟩ := u.moveItem_frame x
  constructor
  case billing =>
    rw [State.moveItem_billing hu, h.itemRecord hx, h.itemCharge hx, h.billing]
    simp [Billing.enter, BillRecord.numbered, List.mapIdx_concat, Nat.add_assoc]
  case turnout =>
    intro i
    rw [State.moveItem_turnout hu, h.turnout]
    by_cases hi : x = .tally i
    · subst hi; simp [hx]
    · simp [hi, Ne.symm hi]
  case slot =>
    intro slot
    rw [State.moveItem_at? hu, h.slot]
    by_cases hslot : x = .order slot
    · subst hslot; simp
    · simp [hslot, Ne.symm hslot]
  case length => rw [State.moveItem_length hu, h.length]
  case settings => rw [hsettings, h.settings]
  case time => rw [htime, h.time]
  case cause => exact fun c hc => State.hasCause_moveItem hu (.inl (h.cause c hc))
  case level =>
    intro hbelow hreach
    rw [List.length_append, List.length_singleton] at hreach
    refine State.hasCause_moveItem hu ?_
    rcases Nat.lt_or_ge (s.billing.log.length + items.length) s.settings.alert.logThreshold with hlt | hge
    · exact .inr ⟨by simp only [State.reachesLevel, h.settings, hlen, decide_eq_true_eq]; omega, rfl⟩
    · exact .inl (h.level hbelow hge)
  case account =>
    intro n a ha
    obtain ⟨b, hb, hab⟩ := h.account n a ha
    obtain ⟨c, hc, hbc⟩ := State.moveItem_accounts hu hb
    exact ⟨c, hc, hab.trans hbc fun hraised => State.hasCause_moveItem hu (.inl hraised)⟩

/-- More items, all different from those before them and from each other. -/
theorem State.Entered.append {rest : List WaitItem} (h : s.Entered items u) (hnodup : (items ++ rest).Nodup)
    (hs : ∀ x ∈ rest, s.CanEnter x) : s.Entered (items ++ rest) (u.enterItems rest) := by
  induction rest generalizing items u with
  | nil => rw [List.append_nil]; exact h
  | cons x rest ih =>
    obtain ⟨-, -, hdisjoint⟩ := List.nodup_append.1 hnodup
    have hx : x ∉ items := fun hmem => hdisjoint x hmem x List.mem_cons_self rfl
    rw [List.append_cons] at hnodup ⊢
    exact ih (h.concat hx (hs x List.mem_cons_self)) hnodup fun y hy => hs y (List.mem_cons_of_mem x hy)

/-- What a list of different items leaves that can all enter. -/
theorem State.entered_enterItems (hseq : s.billing.nextSeq < 4294967296) (hnodup : items.Nodup) (h : ∀ x ∈ items, s.CanEnter x) :
    s.Entered items (s.enterItems items) := (State.Entered.nil hseq).append hnodup h

/-! ## The record of each item -/

variable {j : Nat}

theorem State.Entered.log_length (h : s.Entered items u) : u.billing.log.length = s.billing.log.length + items.length := by
  simp [h.billing]

theorem State.Entered.log_take (h : s.Entered items u) : u.billing.log.take s.billing.log.length = s.billing.log := by
  simp [h.billing]

/-- The records stand behind those that the log held, in the order of the items. -/
theorem State.Entered.log_getElem? (h : s.Entered items u) (hx : items[j]? = some x) :
    u.billing.log[s.billing.log.length + j]? = some ((s.itemRecord x).numbered ((s.billing.nextSeq + j) % 4294967296)) := by
  simp [h.billing, List.getElem?_append_right, hx]

end

end Sys2Proof.Machine
end

section
/-! LOG_RELEASE (R158, R161) and SEASON_CLOSE (R165): each is a list of items that enter the log. -/

namespace Sys2Proof.Machine

section

variable {s u : State}

/-! ## Tallies as items -/

/-- The bills of a list of turnouts are the entries of their tallies. -/
theorem State.billTallies_eq_enterItems (s : State) (l : List Nat) : s.billTallies l = s.enterItems (l.map .tally) := by
  induction l generalizing s with
  | nil => rfl
  | cons i rest ih => exact ih (s.billTally i)

/-- Different turnouts are different items. -/
theorem nodup_map_tally {l : List Nat} (h : l.Nodup) : (l.map WaitItem.tally).Nodup :=
  List.Pairwise.map _ (fun _ _ hij heq => hij (WaitItem.tally.inj heq)) h

@[simp] theorem tally_mem_map_tally {l : List Nat} {i : Nat} : WaitItem.tally i ∈ l.map WaitItem.tally ↔ i ∈ l := by simp

/-- A turnout with a tally above 0 exists. -/
theorem State.canEnter_of_tally {i : Nat} (h : 0 < (s.turnout i).tally) : s.CanEnter (.tally i) := by
  rcases Nat.lt_or_ge i s.meters.turnouts.length with hlt | hge
  · exact hlt
  · rw [State.turnout, List.getD_eq_getElem?_getD, List.getElem?_eq_none hge] at h
    exact absurd h (Nat.lt_irrefl 0)

/-- The record of a tally field by field (R155). -/
theorem State.recordOfTally_numbered (s : State) (i n : Nat) : (s.recordOfTally i).numbered n =
    { seq := n, kind := .unordered, key := s.curKey, account := (s.billing.account (configOf s.settings i).account).number
      turnout := i, order := none, granted := none, delivered := (s.turnout i).tally, tiers := none
      charge := roundDiv ((s.turnout i).tally * s.billing.active.unordered) 100000
      flags := OrderFlags.clear, timeUncertain := decide (s.time.quality ≠ .set) } := by
  simp only [State.recordOfTally, tallyRecord, BillRecord.numbered, State.timeUncertain, State.tallyCharge, price]
  cases s.time.quality <;> rfl

/-! ## The moves from the wait list (R161) -/

/-- The state with another wait list. -/
def State.withWait (s : State) (w : List WaitItem) : State := s.withBilling { s.billing with waitList := w }

/-- An item enters alike whatever waits behind it. -/
theorem State.moveItem_withWait {x : WaitItem} (h : s.CanEnter x) (w : List WaitItem) :
    (s.withWait w).moveItem x = (s.moveItem x).withWait w := by
  cases x with
  | tally i =>
    change (s.withWait w).billTally i = (s.billTally i).withWait w
    rw [State.billTally_eq, State.billTally_eq]; rfl
  | order slot =>
    obtain ⟨o, r, ho, hr⟩ := h
    rw [State.moveItem_order ho hr, State.moveItem_order (s := s.withWait w) ho hr]; rfl

/-- An item that enters leaves the others able to. -/
theorem State.canEnter_moveItem {x y : WaitItem} (hx : s.CanEnter x) (hy : s.CanEnter y) (hxy : x ≠ y) : (s.moveItem x).CanEnter y := by
  cases y with
  | tally i => exact Nat.lt_of_lt_of_eq hy (State.moveItem_length hx).symm
  | order slot => rw [State.CanEnter, State.moveItem_at? hx, if_neg hxy]; exact hy

/-- Whether an item can enter does not hang on the billing part. -/
theorem State.CanEnter.withBilling {x : WaitItem} (h : s.CanEnter x) (b : Billing) : (s.withBilling b).CanEnter x := by
  cases x with
  | tally i => exact h
  | order slot => exact h

theorem State.withWait_self (s : State) : s.withWait s.billing.waitList = s := rfl

theorem State.moveWait_cons_of_free {x : WaitItem} {rest : List WaitItem} (hwait : s.billing.waitList = x :: rest)
    (hfree : s.billing.log.length < 256) (n : Nat) : s.moveWait (n + 1) = ((s.withWait rest).moveItem x).moveWait n := by
  rw [State.moveWait, hwait]
  exact if_pos hfree

theorem State.moveWait_cons_of_full {x : WaitItem} {rest : List WaitItem} (hwait : s.billing.waitList = x :: rest)
    (hfull : 256 ≤ s.billing.log.length) (n : Nat) : s.moveWait (n + 1) = s := by
  rw [State.moveWait, hwait]
  exact if_neg (Nat.not_lt.2 hfull)

/-- The number of waiting items that a log of so many records takes. -/
def movesOf (waiting records : Nat) : Nat := min waiting (256 - records)

/-- The moves are the entries of the oldest items, as many as the log takes (R161). -/
theorem State.moveWait_eq {items : List WaitItem} (hwait : s.billing.waitList = items) (hnodup : items.Nodup)
    (h : ∀ x ∈ items, s.CanEnter x) : s.moveWait items.length =
      (s.withWait (items.drop (movesOf items.length s.billing.log.length))).enterItems
        (items.take (movesOf items.length s.billing.log.length)) := by
  induction items generalizing s with
  | nil => rw [List.drop_nil, ← hwait, State.withWait_self, hwait]; rfl
  | cons x rest ih =>
    obtain ⟨hx, hrest⟩ := List.nodup_cons.1 hnodup
    have hxs : s.CanEnter x := h x List.mem_cons_self
    rw [List.length_cons]
    rcases Nat.lt_or_ge s.billing.log.length 256 with hfree | hfull
    · have hmoves : movesOf (rest.length + 1) s.billing.log.length = movesOf rest.length (s.billing.log.length + 1) + 1 := by
        simp only [movesOf]; omega
      have hlen : ((s.moveItem x).withWait rest).billing.log.length = s.billing.log.length + 1 := by
        simp [State.withWait, State.moveItem_billing hxs]
      have hcan : ∀ y ∈ rest, ((s.moveItem x).withWait rest).CanEnter y := fun y hy =>
        State.canEnter_moveItem hxs (h y (List.mem_cons_of_mem x hy)) fun hxy => hx (hxy ▸ hy)
      rw [State.moveWait_cons_of_free hwait hfree, State.moveItem_withWait hxs, ih rfl hrest hcan, hlen, hmoves, List.drop_succ_cons,
        List.take_succ_cons, State.enterItems, State.enterItems, List.foldl_cons, State.moveItem_withWait hxs]
      rfl
    · have hmoves : movesOf (rest.length + 1) s.billing.log.length = 0 := by simp only [movesOf]; omega
      rw [State.moveWait_cons_of_full hwait hfull, hmoves, List.drop_zero, List.take_zero, ← hwait, State.withWait_self]
      rfl

end

/-! ## LOG_RELEASE (R158) -/

section

variable {s : State}

/-- The log after a release of n records, with the wait list that the moves leave. -/
def State.released (s : State) (n : Nat) (w : List WaitItem) : State := (s.withBilling (s.billing.release n)).withWait w

/-- A release and its moves: the oldest records go, and the oldest items enter. -/
theorem State.releaseLog_eq (n : Nat) (hnodup : s.billing.waitList.Nodup) (h : ∀ x ∈ s.billing.waitList, s.CanEnter x) :
    s.releaseLog n =
      (s.released n (s.billing.waitList.drop (movesOf s.billing.waitList.length (s.billing.log.length - n)))).enterItems
        (s.billing.waitList.take (movesOf s.billing.waitList.length (s.billing.log.length - n))) := by
  rw [← Billing.length_release]
  exact State.moveWait_eq (s := s.withBilling (s.billing.release n)) rfl hnodup fun x hx => (h x hx).withBilling _

theorem exec_logRelease (hrun : s.running = true) (count : Nat) :
    exec (.logRelease count) s = (s.releaseLog (min count s.billing.log.length)).replies (.logRelease count) 0x1E
      ((s.releaseLog (min count s.billing.log.length)).billing.releaseData (min count s.billing.log.length)) :=
  State.serve_run_accept hrun rfl

end

/-- Settles O36: the moves are the entries of the oldest items into the released log. -/
theorem logReleaseAndMoves : Obligations.LogReleaseAndMoves := by
  intro s count hrun hnodup hseq horders htallies c b n u left k index charge
  have hcan : ∀ x ∈ b.waitList, s.CanEnter x := by
    intro x hx
    cases x with
    | tally i => exact htallies i hx
    | order slot => exact horders slot hx
  have hu : u = (s.released n (b.waitList.drop k)).enterItems (b.waitList.take k) := State.releaseLog_eq n hnodup hcan
  have hentered : (s.released n (b.waitList.drop k)).Entered (b.waitList.take k) u := by
    rw [hu]
    exact State.entered_enterItems hseq (hnodup.sublist (List.take_sublist _ _)) fun x hx =>
      (hcan x (List.mem_of_mem_take hx)).withBilling _
  have hk : (b.waitList.take k).length = k := by
    rw [List.length_take]; exact Nat.min_eq_left (Nat.min_le_left _ _)
  have hleft : (s.released n (b.waitList.drop k)).billing.log.length = left := Billing.length_release _ _
  have hget : ∀ {j : Nat} {x : WaitItem}, j < k → b.waitList[j]? = some x → (b.waitList.take k)[j]? = some x := fun hj hx => by
    rw [List.getElem?_take_of_lt hj, hx]
  have hrecord := fun {j : Nat} {x : WaitItem} (hj : j < k) (hx : b.waitList[j]? = some x) => hleft ▸ hentered.log_getElem? (hget hj hx)
  have hnot : ∀ x, (∀ j : Nat, j < k → b.waitList[j]? ≠ some x) → x ∉ b.waitList.take k := by
    intro x hx hmem
    obtain ⟨j, hj⟩ := List.mem_iff_getElem?.1 hmem
    have hjk : j < k := hk ▸ (List.getElem?_eq_some_iff.1 hj).1
    exact hx j hjk (by rwa [List.getElem?_take_of_lt hjk] at hj)
  obtain ⟨-, hstartup, hsettings, htime, -, hline, hneigh, hplanner, hgate, hclose, -⟩ := s.releaseLog_frame n
  refine ⟨exec_logRelease hrun count, ?readPos, ?length, ?kept, ?nextSeq, ?wait, ?numbers, ?orders, ?tallies, ?accounts, ?slots, ?turnouts,
    ?level, ?active, ?staged, ?season, hsettings, hplanner, hgate, hneigh, hline, hclose, htime, hstartup⟩
  case readPos => rw [hentered.billing]; rfl
  case active => rw [hentered.billing]; rfl
  case staged => rw [hentered.billing]; rfl
  case season => rw [hentered.billing]; rfl
  case wait => rw [hentered.billing]; rfl
  case length => rw [hentered.log_length, hleft, hk]
  case kept => rw [← hleft, hentered.log_take]; rfl
  case nextSeq => rw [hentered.billing]; simp only [hk]; rfl
  case numbers =>
    intro j hj
    obtain ⟨x, hx⟩ : ∃ x, b.waitList[j]? = some x :=
      ⟨_, List.getElem?_eq_getElem (Nat.lt_of_lt_of_le hj (Nat.min_le_left _ _))⟩
    exact ⟨_, hrecord hj hx, rfl⟩
  case orders =>
    intro j slot o r hj hx ho hr
    refine ⟨?_, ?_⟩
    · rw [hrecord hj hx, State.itemRecord_order (s := s.released n (b.waitList.drop k)) ho hr]; rfl
    · rw [hentered.slot, if_pos (List.mem_of_getElem? (hget hj hx))]
  case tallies =>
    intro j i hj hx
    refine ⟨?_, ?_⟩
    · rw [hentered.turnout, if_pos (List.mem_of_getElem? (hget hj hx))]; rfl
    · rw [hrecord hj hx, State.itemRecord, State.recordOfTally_numbered]; rfl
  case accounts =>
    rw [hentered.billing]
    refine congrArg (fun f => (b.waitList.take k).foldl f b.accounts) ?_
    funext xs x
    cases x <;> rfl
  case slots => exact fun slot h => hentered.slot_of_not_mem (hnot _ h)
  case turnouts => exact fun i h => hentered.turnout_of_not_mem (hnot _ h)
  case level =>
    intro hbelow hreach
    refine hentered.level ?_ ?_
    · rwa [hleft]
    · rwa [hleft, hk]

/-! ## Tallies alone -/

section

/-- From one state to the next only the billing part, the turnouts' entries and the pending set differ. -/
def State.TalliesOnly (s t : State) : Prop := t = { s with
  billing := t.billing, meters := { s.meters with turnouts := t.meters.turnouts }, alerts := { s.alerts with pending := t.alerts.pending } }

variable {s t u : State}

theorem State.TalliesOnly.refl (s : State) : s.TalliesOnly s := rfl

theorem State.TalliesOnly.trans (h : s.TalliesOnly t) (h' : t.TalliesOnly u) : s.TalliesOnly u :=
  Eq.trans h' (by rw [h])

theorem Alerts.raiseIf_eq (a : Alerts) (b : Bool) (c : Cause) : a.raiseIf b c = { a with pending := (a.raiseIf b c).pending } := by
  cases b <;> rfl

theorem State.talliesOnly_billTally (s : State) (i : Nat) : s.TalliesOnly (s.billTally i) := by
  rw [State.TalliesOnly, State.billTally_eq, Alerts.raiseIf_eq (s.alerts.raiseIf _ _), Alerts.raiseIf_eq s.alerts]

theorem State.talliesOnly_billTallies (s : State) (l : List Nat) : s.TalliesOnly (s.billTallies l) := by
  induction l generalizing s with
  | nil => exact .refl s
  | cons i rest ih => exact (s.talliesOnly_billTally i).trans (ih _)

/-- Different turnouts with tallies above 0 enter one after the other. -/
theorem State.entered_tallies {l : List Nat} (hseq : s.billing.nextSeq < 4294967296) (hnodup : l.Nodup)
    (h : ∀ i ∈ l, 0 < (s.turnout i).tally) : s.Entered (l.map .tally) (s.enterItems (l.map .tally)) :=
  State.entered_enterItems hseq (nodup_map_tally hnodup) fun x hx => by
    obtain ⟨i, hi, rfl⟩ := List.mem_map.1 hx
    exact State.canEnter_of_tally (h i hi)

end

/-! ## SEASON_CLOSE (R165) -/

section

variable {s : State}

/-- The season totals of an account at 0. -/
def Account.seasonEnded (a : Account) : Account := { a with used := 0, charges := 0 }

/-- An account that tallies have charged and whose totals are 0 again: at most its state has moved to HOLD (R154). -/
theorem Account.ChargedTo.seasonEnded {raised : Prop} {a a' : Account} (h : a.ChargedTo raised a') :
    a'.seasonEnded = { a with used := 0, charges := 0, state := a'.seasonEnded.state } ∧
      (a'.seasonEnded.state = a.state ∨ (a.state = .good ∧ a'.seasonEnded.state = .hold ∧ raised)) := by
  obtain ⟨hnumber, hallotment, hlimit, hstate⟩ := h
  refine ⟨?_, hstate⟩
  rw [Account.seasonEnded, hnumber, hallotment, hlimit]

/-- The season can be closed while no order is live and nothing waits. -/
theorem State.quiet_iff (s : State) : (!s.book.live.isEmpty || !s.billing.waitList.isEmpty) = false ↔
    (∀ slot, s.book.at? slot = none) ∧ s.billing.waitList = [] := by
  have hlive : s.book.live = [] ↔ ∀ slot, s.book.at? slot = none := by
    simp only [List.eq_nil_iff_forall_not_mem, Prod.forall, OrderBook.mem_live, Option.eq_none_iff_forall_not_mem, Option.mem_def]
  simp [hlive]

theorem State.takeSeasonClose_of_busy (h : (∃ slot o, s.book.at? slot = some o) ∨ s.billing.waitList ≠ []) :
    s.takeSeasonClose = s.refuse .state := by
  refine if_pos (eq_true_of_ne_false fun hquiet => ?_)
  obtain ⟨hbook, hwait⟩ := s.quiet_iff.1 hquiet
  rcases h with ⟨slot, o, ho⟩ | hwaits
  · rw [hbook] at ho; cases ho
  · exact hwaits hwait

theorem State.takeSeasonClose_of_quiet (hbook : ∀ slot, s.book.at? slot = none) (hwait : s.billing.waitList = []) :
    s.takeSeasonClose = if 256 < s.billing.log.length + s.talliesAboveZero.length then s.refuse .full
      else s.seasonClose.accept (toBytes 2 s.seasonClose.billing.seasonId) :=
  if_neg (Bool.eq_false_iff.1 (s.quiet_iff.2 ⟨hbook, hwait⟩))

/-- The tallies that a season close bills. -/
theorem State.mem_talliesAboveZero {i : Nat} (h : i ∈ s.talliesAboveZero) : 0 < (s.turnout i).tally := by
  rw [State.talliesAboveZero, List.mem_filter, Bool.and_eq_true, decide_eq_true_eq] at h
  exact h.2.2

/-- What the tallies leave of a season close. -/
theorem State.entered_seasonTallies (hseq : s.billing.nextSeq < 4294967296) :
    s.Entered (s.talliesAboveZero.map .tally) (s.billTallies s.talliesAboveZero) := by
  rw [State.billTallies_eq_enterItems]
  exact State.entered_tallies hseq (List.nodup_range.filter _) fun i => State.mem_talliesAboveZero

/-- The billing part after a season close: the tallies, the season totals, the season id (R165). -/
theorem State.seasonClose_billing (s : State) : s.seasonClose.billing = { (s.billTallies s.talliesAboveZero).billing with
    accounts := (s.billTallies s.talliesAboveZero).billing.accounts.map Account.seasonEnded
    seasonId := ((s.billTallies s.talliesAboveZero).billing.seasonId + 1) % 65536 } := rfl

/-- A season close writes the billing part, the turnouts, the pending set, and the season id into the marker. -/
theorem State.seasonClose_writes (s : State) : s.seasonClose = { s with
    billing := s.seasonClose.billing, meters := { s.meters with turnouts := s.seasonClose.meters.turnouts }
    startup := { s.startup with marker := { s.startup.marker with seasonId := s.seasonClose.billing.seasonId } }
    alerts := { s.alerts with pending := s.seasonClose.alerts.pending } } := by
  have htallies : s.billTallies s.talliesAboveZero = _ := s.talliesOnly_billTallies s.talliesAboveZero
  rw [State.seasonClose, htallies]
  rfl

/-- The same, read off the state before the tallies. -/
theorem State.seasonClose_billing_eq (hseq : s.billing.nextSeq < 4294967296) : s.seasonClose.billing = { s.billing with
    accounts := (s.talliesAboveZero.foldl (fun xs i => s.itemCharge xs (.tally i)) s.billing.accounts).map Account.seasonEnded
    log := s.seasonClose.billing.log
    nextSeq := (s.billing.nextSeq + s.talliesAboveZero.length) % 4294967296
    seasonId := (s.billing.seasonId + 1) % 65536 } := by
  rw [State.seasonClose_billing, (State.entered_seasonTallies hseq).billing, List.foldl_map, List.length_map]

end

/-- Settles O37: the refusals, and the season close as the entries of the tallies followed by the season totals and the season id. -/
theorem seasonClose : Obligations.SeasonClose := by
  intro s hrun c b owed index charge id
  refine ⟨fun hbusy => State.serve_run_refuse hrun (State.takeSeasonClose_of_busy hbusy), fun hbook hwait hfull => ?full,
    fun hbook hwait hspace hseq => ?closed⟩
  case full =>
    refine State.serve_run_refuse hrun ?_
    rw [State.takeSeasonClose_of_quiet hbook hwait]
    exact if_pos hfull
  case closed =>
    have hentered : s.Entered (owed.map .tally) (s.billTallies owed) := State.entered_seasonTallies hseq
    have hbilling := State.seasonClose_billing_eq hseq
    have hid : s.seasonClose.billing.seasonId = id := congrArg Billing.seasonId hbilling
    refine ⟨s.seasonClose, ?reply, ?frame, hbilling, ?accounts, ?length, hentered.log_take, ?tallies,
      fun i hi => hentered.turnout_of_not_mem (by rwa [tally_mem_map_tally])⟩
    case reply =>
      refine State.serve_run_accept hrun ?_
      rw [State.takeSeasonClose_of_quiet hbook hwait, hid]
      exact if_neg (Nat.not_lt.2 hspace)
    case frame => rw [← hid]; exact s.seasonClose_writes
    case accounts =>
      intro n a ha
      obtain ⟨a', ha', hcharged⟩ := hentered.account n a ha
      refine ⟨a'.seasonEnded, ?_, hcharged.seasonEnded⟩
      rw [State.seasonClose_billing]
      exact List.getElem?_map.trans (congrArg _ ha')
    case length => exact hentered.log_length.trans (by rw [List.length_map])
    case tallies =>
      intro j i hi
      have hitem : (owed.map WaitItem.tally)[j]? = some (.tally i) := by rw [List.getElem?_map, hi]; rfl
      refine ⟨?_, ?_⟩
      · exact (hentered.turnout i).trans (if_pos (List.mem_of_getElem? hitem))
      · exact (hentered.log_getElem? hitem).trans (congrArg some (s.recordOfTally_numbered i _))

end Sys2Proof.Machine
end

section
/-! BILLING_DAY_CLOSE (R164, R152, R160): the tallies that find room enter the log, the others are due and join the wait list, and then the staged
rates become active. -/

namespace Sys2Proof.Machine

section

variable {s t u : State}

/-! ## A tally that finds no room (R160) -/

/-- A tally that becomes due and joins the wait list (R160). -/
def State.deferTally (s : State) (i : Nat) : State := (s.joinWait (.tally i)).putTurnout i { s.turnout i with due := true }

theorem State.deferTally_eq (s : State) (i : Nat) : s.deferTally i = { s with
    billing := { s.billing with waitList := s.billing.waitList ++ [.tally i] }
    meters := { s.meters with turnouts := s.meters.turnouts.set i { s.turnout i with due := true } }
    alerts := s.alerts.raiseIf s.billing.waitList.isEmpty .logFull } := by
  simp only [State.deferTally, State.joinWait, State.raiseIf_eq]
  rfl

/-- The turnout whose tally becomes due, and the others. -/
theorem State.deferTally_turnout {i : Nat} (h : i < s.meters.turnouts.length) (j : Nat) :
    (s.deferTally i).turnout j = if i = j then { s.turnout i with due := true } else s.turnout j := by
  rw [State.deferTally_eq]
  by_cases hij : i = j
  · subst hij; simp [State.turnout, h]
  · simp [State.turnout, hij]

theorem State.offerTally_of_room (h : s.billing.hasRoom = true) (i : Nat) : s.offerTally i = s.billTally i := if_pos h

theorem State.offerTally_of_no_room (h : ¬s.billing.hasRoom = true) (i : Nat) : s.offerTally i = s.deferTally i := if_neg h

theorem State.talliesOnly_deferTally (s : State) (i : Nat) : s.TalliesOnly (s.deferTally i) := by
  rw [State.TalliesOnly, State.deferTally_eq, Alerts.raiseIf_eq]

theorem State.talliesOnly_offerTally (s : State) (i : Nat) : s.TalliesOnly (s.offerTally i) := by
  unfold State.offerTally
  split
  · exact s.talliesOnly_billTally i
  · exact s.talliesOnly_deferTally i

theorem State.talliesOnly_offerTallies (s : State) (l : List Nat) : s.TalliesOnly (s.offerTallies l) := by
  induction l generalizing s with
  | nil => exact .refl s
  | cons i rest ih =>
    unfold State.offerTallies
    refine State.TalliesOnly.trans ?_ (ih _)
    split
    · exact s.talliesOnly_offerTally i
    · exact .refl s

/-- What a list of different turnouts leaves whose tallies become due. -/
structure State.Deferred (s : State) (l : List Nat) (u : State) : Prop where
  billing : u.billing = { s.billing with waitList := s.billing.waitList ++ l.map .tally }
  turnout (i : Nat) : u.turnout i = if i ∈ l then { s.turnout i with due := true } else s.turnout i
  length : u.meters.turnouts.length = s.meters.turnouts.length
  full : s.billing.waitList = [] → l ≠ [] → hasCause u.alerts.pending .logFull = true

theorem State.Deferred.nil (s : State) : s.Deferred [] s where
  billing := by simp
  turnout i := by simp
  length := rfl
  full _ h := absurd rfl h

theorem State.Deferred.concat {l : List Nat} {i : Nat} (h : s.Deferred l u) (hi : i ∉ l) (hlt : i < s.meters.turnouts.length) :
    s.Deferred (l ++ [i]) (u.deferTally i) := by
  constructor
  case billing => rw [State.deferTally_eq, h.billing]; simp
  case turnout =>
    intro j
    rw [State.deferTally_turnout (h.length ▸ hlt), h.turnout, h.turnout, if_neg hi]
    by_cases hij : i = j
    · subst hij; simp
    · simp [hij, Ne.symm hij]
  case length => rw [State.deferTally_eq]; simpa using h.length
  case full =>
    intro hwait _
    rw [State.deferTally_eq]
    by_cases hl : l = []
    · simp [h.billing, hwait, hl]
    · simp [h.full hwait hl]

/-- More turnouts, all different from those before them and from each other. -/
theorem State.Deferred.append {l rest : List Nat} (h : s.Deferred l u) (hnodup : (l ++ rest).Nodup)
    (hlt : ∀ i ∈ rest, i < s.meters.turnouts.length) : s.Deferred (l ++ rest) (rest.foldl State.deferTally u) := by
  induction rest generalizing l u with
  | nil => rw [List.append_nil]; exact h
  | cons i rest ih =>
    obtain ⟨-, -, hdisjoint⟩ := List.nodup_append.1 hnodup
    have hi : i ∉ l := fun hmem => hdisjoint i hmem i List.mem_cons_self rfl
    rw [List.append_cons] at hnodup ⊢
    exact ih (h.concat hi (hlt i List.mem_cons_self)) hnodup fun j hj => hlt j (List.mem_cons_of_mem i hj)

/-- Different turnouts whose tallies become due one after the other. -/
theorem State.deferred_foldl {l : List Nat} (hnodup : l.Nodup) (h : ∀ i ∈ l, i < s.meters.turnouts.length) :
    s.Deferred l (l.foldl State.deferTally s) := (State.Deferred.nil s).append hnodup h

/-! ## The tallies of a day close (R164) -/

theorem State.tallyOwed_iff {i : Nat} :
    s.tallyOwed i = true ↔ present s.settings i = true ∧ 0 < (s.turnout i).tally ∧ (s.turnout i).due = false := by
  simp [State.tallyOwed, and_assoc]

/-- A bill changes a turnout that was not due in its tally alone. -/
theorem Turnout.billed_of_not_due {x : Turnout} (h : x.due = false) : x.billed = { x with tally := 0 } := by
  rw [Turnout.billed, ← h]

/-- The offer of one tally leaves the other turnouts. -/
theorem State.offerTally_turnout_of_ne {i j : Nat} (hij : i ≠ j) : (s.offerTally i).turnout j = s.turnout j := by
  by_cases hroom : s.billing.hasRoom = true
  · rw [State.offerTally_of_room hroom, State.billTally_eq]; simp [State.turnout, hij]
  · rw [State.offerTally_of_no_room hroom, State.deferTally_eq]; simp [State.turnout, hij]

theorem State.offerTally_tallyOwed_of_ne {i j : Nat} (hij : i ≠ j) : (s.offerTally i).tallyOwed j = s.tallyOwed j := by
  simp [State.tallyOwed, State.offerTally_turnout_of_ne hij]

/-- The tallies offered are those owed before the first of them. -/
theorem State.offerTallies_eq_foldl {l : List Nat} (hnodup : l.Nodup) :
    s.offerTallies l = (l.filter s.tallyOwed).foldl State.offerTally s := by
  induction l generalizing s with
  | nil => rfl
  | cons i rest ih =>
    obtain ⟨hi, hrest⟩ := List.nodup_cons.1 hnodup
    rw [State.offerTallies, ih hrest]
    by_cases howed : s.tallyOwed i = true
    · have hsame : rest.filter (s.offerTally i).tallyOwed = rest.filter s.tallyOwed :=
        List.filter_congr fun j hj => State.offerTally_tallyOwed_of_ne fun hij => hi (hij ▸ hj)
      rw [if_pos howed, hsame, List.filter_cons_of_pos howed, List.foldl_cons]
    · rw [if_neg howed, List.filter_cons_of_neg howed]

/-- Once one is due, the others are. -/
theorem State.foldl_offerTally_of_no_room (l : List Nat) (h : ¬s.billing.hasRoom = true) :
    l.foldl State.offerTally s = l.foldl State.deferTally s := by
  induction l generalizing s with
  | nil => rfl
  | cons i rest ih =>
    rw [List.foldl_cons, List.foldl_cons, State.offerTally_of_no_room h]
    refine ih ?_
    rw [State.deferTally_eq]
    simp [Billing.hasRoom]

/-- The number of tallies, of so many, that the log takes. -/
def Billing.taken (b : Billing) (n : Nat) : Nat := if b.waitList = [] then min n (256 - b.log.length) else 0

theorem Billing.taken_le (b : Billing) (n : Nat) : b.taken n ≤ n := by
  unfold Billing.taken
  split
  · exact Nat.min_le_left _ _
  · exact Nat.zero_le n

/-- The first ones are billed and the rest becomes due. -/
theorem State.foldl_offerTally (s : State) (l : List Nat) : l.foldl State.offerTally s =
    (l.drop (s.billing.taken l.length)).foldl State.deferTally (s.enterItems ((l.take (s.billing.taken l.length)).map .tally)) := by
  induction l generalizing s with
  | nil => simp [State.enterItems]
  | cons i rest ih =>
    by_cases hroom : s.billing.hasRoom = true
    · obtain ⟨hfree, hwait⟩ := s.billing.hasRoom_iff.1 hroom
      have htaken : s.billing.taken (rest.length + 1) = (s.billTally i).billing.taken rest.length + 1 := by
        rw [Billing.taken, Billing.taken, if_pos hwait, if_pos ((s.billTally_waitList i).trans hwait), State.billTally_length]
        omega
      rw [List.foldl_cons, State.offerTally_of_room hroom, ih, List.length_cons, htaken]
      rfl
    · have htaken : s.billing.taken (rest.length + 1) = 0 := by
        rw [Billing.hasRoom_iff, not_and] at hroom
        unfold Billing.taken
        split
        case isTrue hwait =>
          have hfull : 256 ≤ s.billing.log.length := Nat.not_lt.1 fun hlt => hroom hlt hwait
          omega
        case isFalse => rfl
      rw [List.length_cons, htaken]
      exact State.foldl_offerTally_of_no_room _ hroom

/-- The tallies of a day close: the first ones, as many as the log takes, enter it, and the rest becomes due. -/
theorem State.offerTallies_parts {l : List Nat} (hseq : s.billing.nextSeq < 4294967296) (hnodup : l.Nodup) :
    ∃ v, s.Entered (((l.filter s.tallyOwed).take (s.billing.taken (l.filter s.tallyOwed).length)).map .tally) v ∧
      v.Deferred ((l.filter s.tallyOwed).drop (s.billing.taken (l.filter s.tallyOwed).length)) (s.offerTallies l) := by
  have hpositive : ∀ i ∈ l.filter s.tallyOwed, 0 < (s.turnout i).tally := fun i hi => by
    obtain ⟨-, hpos, -⟩ := State.tallyOwed_iff.1 (List.mem_filter.1 hi).2
    exact hpos
  rw [State.offerTallies_eq_foldl hnodup, State.foldl_offerTally]
  generalize s.billing.taken (l.filter s.tallyOwed).length = k
  have hentered := State.entered_tallies hseq ((hnodup.filter _).sublist (List.take_sublist k _)) fun i hi =>
    hpositive i (List.mem_of_mem_take hi)
  refine ⟨_, hentered, State.deferred_foldl ((hnodup.filter _).sublist (List.drop_sublist k _)) fun i hi => ?_⟩
  rw [hentered.length]
  exact State.canEnter_of_tally (hpositive i (List.mem_of_mem_drop hi))

/-! ## The rates (R164) -/

theorem Billing.switchRates_eq (b : Billing) : b.switchRates = { b with active := b.staged.getD b.active, staged := none } := by
  obtain ⟨accounts, active, staged, log, nextSeq, readPos, waitList, seasonId⟩ := b
  cases staged <;> rfl

/-- A record that enters is numbered. -/
theorem Billing.enter_eq (b : Billing) (r : BillRecord) : b.enter r = { b with
    log := b.log ++ [r.numbered b.nextSeq], nextSeq := (b.nextSeq + 1) % 4294967296 } := rfl

theorem exec_billingDayClose {e : DayClose} {rest : List DayClose} (hrun : s.running = true) (h : s.inbox.billing = e :: rest)
    (hkey : e.newKey ≤ s.close.openKey) :
    exec .billingDayClose s = .next (s.withInbox { s.inbox with billing := rest }).dayClose := by
  change execBillingDayClose s = _
  unfold execBillingDayClose
  rw [h]
  exact if_pos (by simp [hrun, State.closeReady, hkey])

end

/-- Settles O51: the tallies that enter the log, those that become due, and the rates after them; and the bill of one tally. -/
theorem billingDayClose : Obligations.BillingDayClose := by
  refine ⟨?dayClose, ?tally⟩
  case tally =>
    intro s i hi x charge index t
    have ht : t = _ := s.billTally_eq i
    rw [ht, Billing.enter_eq, State.recordOfTally_numbered]
    exact ⟨rfl, rfl⟩
  case dayClose =>
    intro s e rest hrun hinbox hkey hlen hseq b u owed k index charge
    have honly := u.talliesOnly_offerTallies (List.range 16)
    obtain ⟨v, hentered, hdeferred⟩ :
        ∃ v, u.Entered ((owed.take k).map .tally) v ∧ v.Deferred (owed.drop k) (u.offerTallies (List.range 16)) :=
      State.offerTallies_parts hseq List.nodup_range
    refine ⟨(u.offerTallies (List.range 16)).withBilling (u.offerTallies (List.range 16)).billing.switchRates,
      exec_billingDayClose hrun hinbox hkey, rfl, ?_⟩
    generalize u.offerTallies (List.range 16) = w at honly hdeferred
    have hk : ((owed.take k).map WaitItem.tally).length = k := by
      rw [List.length_map, List.length_take]; exact Nat.min_eq_left (b.taken_le _)
    have hbilling : w.billing.switchRates = { b with
        active := b.staged.getD b.active, staged := none, log := v.billing.log, nextSeq := (b.nextSeq + k) % 4294967296
        waitList := b.waitList ++ (owed.drop k).map .tally
        accounts := (owed.take k).foldl (fun xs i => u.itemCharge xs (.tally i)) b.accounts } := by
      rw [Billing.switchRates_eq, hdeferred.billing, hentered.billing, List.foldl_map, hk]
    have htaken : ∀ {j i : Nat}, j < k → owed[j]? = some i → (owed.take k)[j]? = some i := fun hj hi => by
      rw [List.getElem?_take_of_lt hj, hi]
    have hdrop : ∀ {j i : Nat}, k ≤ j → owed[j]? = some i → i ∈ owed.drop k := fun hj hi =>
      List.mem_of_getElem? (i := _ - k) (by rw [List.getElem?_drop, Nat.add_sub_cancel' hj, hi])
    have hparts : (owed.take k ++ owed.drop k).Nodup := by
      rw [List.take_append_drop]
      exact List.nodup_range.filter _
    have hapart : ∀ {i : Nat}, i ∈ owed.take k → i ∉ owed.drop k := fun ht hd =>
      (List.nodup_append.1 hparts).2.2 _ ht _ hd rfl
    rw [State.withBilling_billing, hbilling]
    refine ⟨?frame, rfl, rfl, rfl, rfl, hentered.log_take, hentered.log_length.trans (by rw [hk]), rfl, rfl, rfl,
      fun j i hj hi => ⟨?billed, ?record⟩, fun j i hj hi => ?due, fun i hi => ?others, fun hwait hlt => hdeferred.full ?empty ?some⟩
    case frame =>
      rw [honly]
      rfl
    case billed =>
      have hmem := List.mem_of_getElem? (htaken hj hi)
      refine (hdeferred.turnout i).trans ?_
      rw [if_neg (hapart hmem), hentered.turnout, if_pos (tally_mem_map_tally.2 hmem)]
      exact Turnout.billed_of_not_due (State.tallyOwed_iff.1 (List.mem_filter.1 (List.mem_of_getElem? hi)).2).2.2
    case record =>
      have hitem : ((owed.take k).map WaitItem.tally)[j]? = some (.tally i) := by rw [List.getElem?_map, htaken hj hi]; rfl
      exact (hentered.log_getElem? hitem).trans (congrArg some (u.recordOfTally_numbered i _))
    case due =>
      have hmem := hdrop hj hi
      refine (hdeferred.turnout i).trans ?_
      rw [if_pos hmem, hentered.turnout_of_not_mem (by rw [tally_mem_map_tally]; exact fun ht => hapart ht hmem)]
      rfl
    case others =>
      refine (hdeferred.turnout i).trans ?_
      rw [if_neg fun hd => hi (List.mem_of_mem_drop hd),
        hentered.turnout_of_not_mem (by rw [tally_mem_map_tally]; exact fun ht => hi (List.mem_of_mem_take ht))]
      rfl
    case empty =>
      rw [hentered.billing]
      exact hwait
    case some => rwa [Ne, List.drop_eq_nil_iff, Nat.not_le]

end Sys2Proof.Machine
end

section
/-! The reads of the Billing Unit, ACCOUNT_QUERY and LOG_READ (R146, R157), and the arithmetic of allotments and prices (R149). -/

namespace Sys2Proof.Machine

/-- Settles O14: the price is the round-half-up quotient, and the remaining allotment a difference that stops at 0. -/
theorem allotmentAndPrice : Obligations.AllotmentAndPrice := by
  refine ⟨fun a => ⟨fun h => Nat.sub_add_cancel h, fun h => Nat.sub_eq_zero_of_le (Nat.le_of_lt h)⟩, fun v r => ?price, fun v => ?free⟩
  case price =>
    obtain ⟨hlow, hhigh⟩ := roundDiv_spec (v * r) 100000 (by decide)
    rw [price]
    omega
  case free => rw [price, Nat.mul_zero]; rfl

section

variable {s : State}

/-! ## Commands served in WAIT_TIME and RUN, in the other start states (R171) -/

theorem State.serve_started_notReady (c : Instr) (kind : Byte) (body : Served) (hp : s.startup.powered = true)
    (h : ¬(s.startup.state = .waitTime ∨ s.startup.state = .run)) :
    (.next (s.serve c kind .started body) : Out) = s.refuses c kind .notReady := by
  have hrefusal : Service.started.refusal s.startup.state = some .notReady := by
    cases hs : s.startup.state with
    | waitTime => exact absurd (.inl hs) h
    | run => exact absurd (.inr hs) h
    | loading => rfl
    | configFault => rfl
  rw [State.serve_of_refused _ _ _ _ hp hrefusal]
  rfl

/-! ## ACCOUNT_QUERY (R146) -/

theorem exec_accountQuery_of_configured {index : Nat} (hw : s.working = true) (h : (s.billing.account index).number ≠ 0) :
    exec (.accountQuery index) s = s.replies (.accountQuery index) 0x05 (s.billing.account index).queryData := by
  rw [← State.serve_started_accept _ _ _ hw]
  change execAccountQuery index s = _
  rw [execAccountQuery, if_neg h]
  rfl

theorem exec_accountQuery_of_not_configured {index : Nat} (hw : s.working = true) (h : (s.billing.account index).number = 0) :
    exec (.accountQuery index) s = s.refuses (.accountQuery index) 0x05 .notFound := by
  rw [← State.serve_started_refuse _ _ _ hw]
  change execAccountQuery index s = _
  rw [execAccountQuery, if_pos h]
  rfl

/-- An index behind the table names an entry that is not configured (R144). -/
theorem Billing.account_of_length_le {b : Billing} {index : Nat} (h : b.accounts.length ≤ index) : b.account index = resetAccount := by
  rw [Billing.account, List.getD_eq_getElem?_getD, List.getElem?_eq_none h]
  rfl

end

/-- Settles O24, by whether the entry is configured and by the start state. -/
theorem accountQuery : Obligations.AccountQuery := by
  intro s index hp hlen a c started
  refine ⟨fun hstarted _ hnumber => ?found, fun hstarted hnone => ?absent, State.serve_started_notReady _ _ _ hp⟩
  case found =>
    rw [exec_accountQuery_of_configured (State.working_iff.2 ⟨hp, hstarted⟩) hnumber]
    rfl
  case absent =>
    refine exec_accountQuery_of_not_configured (State.working_iff.2 ⟨hp, hstarted⟩) ?_
    rcases hnone with hout | hnumber
    · rw [Billing.account_of_length_le (by omega)]; rfl
    · exact hnumber

section

variable {s : State}

/-! ## LOG_READ (R157, R194) -/

theorem exec_logRead (hw : s.working = true) (count : Nat) :
    exec (.logRead count) s = s.replies (.logRead count) 0x07 (s.billing.readData count) :=
  State.serve_started_accept _ _ _ hw

/-- A LOG_READ leaves the billing part and the start state, so the next one reads the same. -/
theorem exec_logRead_again (hw : s.working = true) {count : Nat} {t : State} (h : exec (.logRead count) s = .next t) :
    exec (.logRead count) t = t.replies (.logRead count) 0x07 (s.billing.readData count) := by
  rw [exec_logRead hw] at h
  cases h
  exact exec_logRead (s := s.answer 0x07 .ok _ _) hw count

/-- A bill record takes 48 bytes (R194). -/
theorem BillRecord.length_bytes (r : BillRecord) : r.bytes.length = 48 := by simp [BillRecord.bytes]

end

/-- Settles O25: the reply of a read, the same again, and the layout of a record. -/
theorem logRead : Obligations.LogRead := by
  refine ⟨?served, ?layout, rfl⟩
  case served =>
    intro s count hp c b data started
    refine ⟨fun hstarted => ?_, State.serve_started_notReady _ _ _ hp⟩
    have hw : s.working = true := State.working_iff.2 ⟨hp, hstarted⟩
    exact ⟨exec_logRead hw count, fun t ht => exec_logRead_again hw ht⟩
  case layout =>
    intro r o f number
    refine ⟨r.length_bytes, ?first, ?rest⟩
    case first => simp only [BillRecord.bytes, List.append_assoc]; rfl
    case rest => simp only [BillRecord.bytes, List.append_assoc]; rfl

end Sys2Proof.Machine
end

section
/-! The pending set, the alert line and the commands of the alerts: ALERT_ACK, ALERT_MASK and MODERATION_EXPIRY (R174 to R178). -/

namespace Sys2Proof.Machine

section

variable {s : State} {c : Cause}

/-! ## The causes and their levels (section 10.5) -/

theorem Cause.mem_allCauses (c : Cause) : c ∈ allCauses := by cases c <;> decide

/-- A drive is in TRIPPED in any of its phases. -/
theorem Drive.isTripped_iff {d : Drive} : d.isTripped = true ↔ ∃ phase, d = .tripped phase := by
  cases d <;> simp [Drive.isTripped]

theorem NeighbourTable.anyLost_iff {n : NeighbourTable} : n.anyLost = true ↔ ∃ e ∈ n.entries, e.state = .lost := by
  simp [NeighbourTable.anyLost]

/-! ## The alert line (R176) -/

/-- A cause asserts the line by itself at level 3, or unmasked at or above the threshold while no moderation runs. -/
theorem State.asserts_iff :
    s.asserts c = true ↔ hasCause s.alerts.pending c = true ∧
      (c.level = 3 ∨ (hasCause s.alerts.masks c = false ∧ s.settings.alert.threshold ≤ c.level ∧ s.alerts.moderation = none)) := by
  simp [State.asserts, and_assoc, Option.isNone_iff_eq_none]

/-- In WAIT_TIME and RUN the line is asserted when some cause asserts it. -/
theorem State.alertLine_iff (h : s.startup.state = .waitTime ∨ s.startup.state = .run) :
    s.alertLine = true ↔ ∃ c, s.asserts c = true := by
  have hany : s.alertLine = allCauses.any s.asserts := by rcases h with h | h <;> simp [State.alertLine, h]
  simp [hany, Cause.mem_allCauses]

/-- A pending cause of level 3 asserts the line, masked or not (R109, R110, R176). -/
theorem State.alertLine_of_level3 (h : s.startup.state = .waitTime ∨ s.startup.state = .run)
    (hc : hasCause s.alerts.pending c = true) (hlevel : c.level = 3) : s.alertLine = true :=
  (State.alertLine_iff h).2 ⟨c, State.asserts_iff.2 ⟨hc, .inl hlevel⟩⟩

end

/-- Settles O38: the raise, the row of the table for each cause, and the line by the start state. -/
theorem alertSetAndLine : Obligations.AlertSetAndLine := by
  refine ⟨fun s c d => hasCause_raise s.alerts c d, fun s c => ⟨hasCause_causesWhere _ c, ?persists⟩,
    fun s => ⟨fun h => ?line, fun h => ?loading, fun h => ?fault⟩⟩
  case persists =>
    cases c with
    | gateTrip => simpa [State.persists] using Drive.isTripped_iff
    | neighbourLost => simpa [State.persists] using NeighbourTable.anyLost_iff
    | levelWindow => simp [State.persists, or_assoc]
    | _ => simp [State.persists]
  case line => simp only [State.alertLine_iff h, State.asserts_iff]
  case loading => simp [State.alertLine, h]
  case fault => simp [State.alertLine, h]

section

variable {s : State} {marks : BitVec 24}

/-! ## The marks that a command carries (R178, R192) -/

/-- Marks below 2 to the 17 all name causes. -/
theorem causeMarks?_of_lt (h : marks.toNat < 2 ^ 17) : causeMarks? marks = some (marks.setWidth 17) := if_pos h

/-- A higher mark names none. -/
theorem causeMarks?_of_ge (h : 2 ^ 17 ≤ marks.toNat) : causeMarks? marks = none := if_neg (Nat.not_lt.2 h)

theorem Cause.place_lt (c : Cause) : c.place < 17 := by cases c <;> decide

/-- The place of a cause among the marks of three bytes. -/
theorem hasCause_setWidth (marks : BitVec 24) (c : Cause) : hasCause (marks.setWidth 17) c = marks.getLsbD c.place := by
  simp [hasCause, c.place_lt]

/-- The marks of the level-3 causes are taken as clear, and the others as they are. -/
theorem hasCause_clearLevel3 (m : BitVec 17) (c : Cause) :
    hasCause (clearLevel3 m) c = (hasCause m c && c != .gateTrip && c != .gateFault) := by
  have hplaces : hasCause level3Places c = (decide (c = .gateTrip) || decide (c = .gateFault)) := by
    rw [level3Places, hasCause_or, hasCause_mark, hasCause_mark]
  have hsplit : hasCause (clearLevel3 m) c = (hasCause m c && !hasCause level3Places c) := by
    simp [clearLevel3, hasCause, c.place_lt]
  rw [hsplit, hplaces]
  simp only [bne, beq_eq_decide, Bool.not_or, Bool.and_assoc]

/-! ## ALERT_ACK and ALERT_MASK (R175, R177, R178) -/

/-- Moderation starts when the line is left deasserted and the interval is not 0. -/
theorem State.moderate_eq (u : State) :
    u.moderate = { u with alerts := { u.alerts with
      moderation := if u.alertLine = true ∨ u.settings.alert.moderation = 0 then u.alerts.moderation else some u.time.elapsed } } := by
  by_cases h : u.alertLine = true ∨ u.settings.alert.moderation = 0
  · rw [if_pos h, State.moderate, if_pos (by simpa using h)]
  · rw [if_neg h, State.moderate, if_neg (by simpa using h)]
    rfl

theorem State.takeAck_of_lt (h : marks.toNat < 2 ^ 17) :
    s.takeAck marks = (s.acknowledge (marks.setWidth 17)).moderate.accept
      (causeBytes (s.acknowledge (marks.setWidth 17)).moderate.alerts.pending) := by
  rw [State.takeAck, causeMarks?_of_lt h]

theorem State.takeAck_of_ge (h : 2 ^ 17 ≤ marks.toNat) : s.takeAck marks = s.refuse .badValue := by
  rw [State.takeAck, causeMarks?_of_ge h]

theorem State.takeMask_of_lt (h : marks.toNat < 2 ^ 17) :
    s.takeMask marks = (s.withAlerts { s.alerts with masks := clearLevel3 (marks.setWidth 17) }).accept
      (causeBytes (clearLevel3 (marks.setWidth 17))) := by
  rw [State.takeMask, causeMarks?_of_lt h]

theorem State.takeMask_of_ge (h : 2 ^ 17 ≤ marks.toNat) : s.takeMask marks = s.refuse .badValue := by
  rw [State.takeMask, causeMarks?_of_ge h]

/-- The moderation timer stops at its interval (R177). -/
theorem exec_moderationExpiry_of_due (h : s.expired s.alerts.moderation s.settings.alert.moderation = true) :
    exec .moderationExpiry s = .next (s.withAlerts { s.alerts with moderation := none }) := if_pos h

end

/-- Settles O39, command by command. -/
theorem alertCommandEffects : Obligations.AlertCommandEffects := by
  refine ⟨fun s marks hrun => ?commands, fun s x hw hx hdue => ?expiry⟩
  case commands =>
    intro ack mask m u moderation t m'
    refine ⟨fun hlt => ⟨?acknowledged, rfl, fun c => ?pending, ?masked, fun c => ?marks⟩, fun hge => ⟨?badAck, ?badMask⟩⟩
    case acknowledged =>
      have ht : (s.acknowledge (marks.setWidth 17)).moderate = t := State.moderate_eq _
      have htaken : s.takeAck marks = t.accept (causeBytes t.alerts.pending) := by rw [State.takeAck_of_lt hlt, ht]
      exact State.serve_run_accept hrun htaken
    case pending => rw [hasCause_acknowledge, hasCause_setWidth]
    case masked => exact State.serve_run_accept hrun (State.takeMask_of_lt hlt)
    case marks => rw [hasCause_clearLevel3, hasCause_setWidth]
    case badAck => exact State.serve_run_refuse hrun (State.takeAck_of_ge hge)
    case badMask => exact State.serve_run_refuse hrun (State.takeMask_of_ge hge)
  case expiry => exact exec_moderationExpiry_of_due (State.expired_iff.2 ⟨hw, x, hx, hdue⟩)

end Sys2Proof.Machine
end

section
/-! The reply and the reads of the station link: ORDER_QUERY and BOOK_LIST (R173), STATUS_READ (R172) and PLAN_READ (R90). -/

namespace Sys2Proof.Machine

/-- Settles O21: the reply by the definition of the answer, its frame by that of the payload. -/
theorem replyBuilt : Obligations.ReplyBuilt := by
  intro s kind result data entry t r body
  refine ⟨rfl, ?frame⟩
  have hlength : r.payload.length = r.data.length + 2 := by simp [Reply.payload]; omega
  rw [Reply.frame, linkChars, hlength]
  rfl

section

variable {b : OrderBook} {slot : Nat} {o : Order}

/-! ## The live slots (R16, R173) -/

/-- The live slots stand in ascending order. -/
theorem OrderBook.live_pairwise (b : OrderBook) : b.live.Pairwise (fun p q => p.1 < q.1) := by
  have hindex : b.slots.zipIdx.Pairwise (fun p q => p.2 < q.2) := by
    have hmap : (b.slots.zipIdx.map Prod.snd).Pairwise (· < ·) := by
      rw [List.zipIdx_map_snd]
      exact List.pairwise_lt_range'
    exact List.pairwise_map.1 hmap
  refine hindex.filterMap _ ?_
  rintro ⟨x, i⟩ ⟨y, j⟩ hij p hp q hq
  obtain ⟨o, -, rfl⟩ := Option.map_eq_some_iff.1 hp
  obtain ⟨o', -, rfl⟩ := Option.map_eq_some_iff.1 hq
  exact hij

/-- While the numbers are distinct, a number finds the order that holds it. -/
theorem OrderBook.find_of_at? (hd : b.NumbersDistinct) (h : b.at? slot = some o) : b.find o.number = some (slot, o) := by
  cases hfound : b.find o.number with
  | none =>
    have hnone := List.find?_eq_none.1 hfound (slot, o) (OrderBook.mem_live.2 h)
    simp at hnone
  | some p =>
    obtain ⟨slot', o'⟩ := p
    have hat : b.at? slot' = some o' := OrderBook.mem_live.1 (List.mem_of_find?_eq_some hfound)
    have hnumber : o'.number = o.number := by simpa using List.find?_some hfound
    obtain rfl : slot' = slot := hd _ _ _ _ hat h hnumber
    obtain rfl : o = o' := Option.some.inj (h.symm.trans hat)
    rfl

/-- A number that no live order holds finds none. -/
theorem OrderBook.find_eq_none {n : Nat} (h : ∀ slot o, b.at? slot = some o → o.number ≠ n) : b.find n = none :=
  List.find?_eq_none.2 fun p hp => by simpa using h p.1 p.2 (OrderBook.mem_live.1 hp)

end

section

variable {s : State}

/-! ## ORDER_QUERY and BOOK_LIST (R173) -/

theorem exec_orderQuery_of_found {n slot : Nat} {o : Order} (hw : s.working = true) (h : s.book.find n = some (slot, o)) :
    exec (.orderQuery n) s = s.replies (.orderQuery n) 0x03 (orderData s.book.bookKey slot o) := by
  rw [← State.serve_started_accept _ _ _ hw]
  change execOrderQuery n s = _
  rw [execOrderQuery, h]
  rfl

theorem exec_orderQuery_of_none {n : Nat} (hw : s.working = true) (h : s.book.find n = none) :
    exec (.orderQuery n) s = s.refuses (.orderQuery n) 0x03 .notFound := by
  rw [← State.serve_started_refuse _ _ _ hw]
  change execOrderQuery n s = _
  rw [execOrderQuery, h]
  rfl

theorem exec_bookList (hw : s.working = true) : exec .bookList s = s.replies .bookList 0x04 s.book.listData :=
  State.serve_started_accept _ _ _ hw

/-- A row of a BOOK_LIST takes 12 bytes (R192). -/
theorem length_bookRow (p : Nat × Order) : (bookRow p).length = 12 := by simp [bookRow]

end

/-- Settles O23: the order that the number finds, the list of the live slots, and the layout of a row. -/
theorem orderQueryAndBookList : Obligations.OrderQueryAndBookList := by
  refine ⟨fun s hw => ⟨?found, fun n hnone => exec_orderQuery_of_none hw (OrderBook.find_eq_none hnone), exec_bookList hw,
    fun slot o => OrderBook.mem_live, s.book.live_pairwise⟩, fun slot o => ⟨length_bookRow _, ?row⟩, rfl, rfl⟩
  case found =>
    intro slot o hd hat
    rw [exec_orderQuery_of_found hw (OrderBook.find_of_at? hd hat)]
    rfl
  case row => rw [← Order.entry0_eq]; rfl

section

variable {s : State}

/-! ## STATUS_READ (R172) -/

/-- A part that is named is answered with the start state and its items. -/
theorem exec_statusRead_of_part {part : Nat} {body : List Byte} (hp : s.startup.powered = true)
    (h : s.statusData part = some (byte s.startup.state.code ++ body)) :
    exec (.statusRead part) s = s.replies (.statusRead part) 0x01 (byte s.startup.state.code ++ body) := by
  change execStatusRead part s = _
  rw [execStatusRead, State.serve_always _ _ _ hp, h]
  rfl

/-- A part above the last is BAD_VALUE. -/
theorem exec_statusRead_of_out {part : Nat} (hp : s.startup.powered = true) (h : 8 < part) :
    exec (.statusRead part) s = s.refuses (.statusRead part) 0x01 .badValue := by
  have hnone : s.statusData part = none := by
    obtain ⟨n, rfl⟩ := Nat.exists_eq_add_of_lt h
    rw [Nat.add_right_comm, Nat.add_comm]
    rfl
  change execStatusRead part s = _
  rw [execStatusRead, State.serve_always _ _ _ hp, hnone]
  rfl

/-- With supply a value that only a started part has is present in WAIT_TIME and RUN. -/
theorem State.held_eq (hp : s.startup.powered = true) (v : Nat) :
    s.held v = if s.startup.state = .waitTime ∨ s.startup.state = .run then some v else none := by
  simp [State.held, State.working, hp]

/-- With supply the watch is on in WAIT_TIME and RUN, up to its end key (R62). -/
theorem State.watchOn_eq (hp : s.startup.powered = true) :
    s.watchOn = decide ((s.startup.state = .waitTime ∨ s.startup.state = .run) ∧ s.neigh.watchEnd ≠ 0 ∧ s.curKey ≤ s.neigh.watchEnd) := by
  rw [Bool.eq_iff_iff]
  simp [State.watchOn, State.working, watchActive, hp]

/-- The turnout marks of a started part's present turnout; one byte of 0 otherwise. -/
theorem State.turnoutMarks_eq (hp : s.startup.powered = true) (i : Nat) :
    s.turnoutMarks i = if (s.startup.state = .waitTime ∨ s.startup.state = .run) ∧ present s.settings i = true then
      byte (bitsOf [true, (s.turnout i).inService, (s.turnout i).flags.rateOver || (s.turnout i).flags.noisy ||
        (s.turnout i).flags.unorderedDraw || (s.turnout i).flags.serviceChanged, (s.turnout i).noisy]) else byte 0 := by
  have hflags : ∀ f : ChangeFlags, (f.code != 0) = (f.rateOver || f.noisy || f.unorderedDraw || f.serviceChanged) := by
    rintro ⟨a, b, c, d⟩
    cases a <;> cases b <;> cases c <;> cases d <;> rfl
  simp only [State.turnoutMarks, hflags, State.working, hp]
  simp

end

/-- The level cause (R110). -/
theorem Gate.levelCause_eq (c : Config.Settings) (g : Gate) :
    g.levelCause c = (c.levels.levelTrip && g.hU.any fun x => decide (c.levels.upHigh < x)) := by
  unfold Gate.levelCause
  cases g.hU <;> rfl

section

variable {s : State} {part : Nat} {body : List Byte}

/-! ## PLAN_READ (R90) -/

/-- A part that is named is answered with the plan key, the results byte and its items. -/
theorem exec_planRead_of_part (hw : s.working = true)
    (h : s.planData part = some (toBytes 4 s.reportedPlanKey ++ markByte s.planner.results.isSome ++ body)) :
    exec (.planRead part) s =
      s.replies (.planRead part) 0x02 (toBytes 4 s.reportedPlanKey ++ markByte s.planner.results.isSome ++ body) := by
  rw [← State.serve_started_accept _ _ _ hw]
  change execPlanRead part s = _
  rw [execPlanRead, h]
  rfl

/-- A part above the last is BAD_VALUE. -/
theorem exec_planRead_of_out (hw : s.working = true) (h : 7 < part) :
    exec (.planRead part) s = s.refuses (.planRead part) 0x02 .badValue := by
  have hnone : s.planData part = none := by
    obtain ⟨n, rfl⟩ := Nat.exists_eq_add_of_lt h
    rw [Nat.add_right_comm, Nat.add_comm]
    rfl
  rw [← State.serve_started_refuse _ _ _ hw]
  change execPlanRead part s = _
  rw [execPlanRead, hnone]
  rfl

/-- The twelve offsets of the results, or twelve of zeros. -/
theorem State.reportedOffsets_eq (s : State) :
    s.reportedOffsets = (s.planner.results.map PlanResults.offsets).getD (List.replicate 12 emptyOffset) := by
  unfold State.reportedOffsets
  cases s.planner.results <;> rfl

/-- The orders that the Planner plans are those that are not CLOSED_UNBILLED. -/
theorem OrderBook.planned_iff (b : OrderBook) (slot : Nat) :
    ((b.at? slot).map Order.planned).getD false = (b.at? slot).any fun o => decide (o.state ≠ .closedUnbilled) := by
  cases b.at? slot with
  | none => rfl
  | some o => simp [Order.planned, bne, beq_eq_decide]

/-- The row of a slot, with zeros where its order is not planned. -/
theorem State.planSlot_eq (s : State) (slot : Nat) :
    s.planSlot slot = byte (if s.planner.results.isSome then slot else 0) ++ s.reportedOffsets.flatMap fun x =>
      toBytes 2 (if (s.book.at? slot).any (fun o => decide (o.state ≠ .closedUnbilled)) then x.ownDemand.getD slot 0 else 0) ++
        toBytes 2 (if (s.book.at? slot).any (fun o => decide (o.state ≠ .closedUnbilled)) then x.ownShare.getD slot 0 else 0) := by
  rw [State.planSlot, OrderBook.planned_iff]
  cases (s.book.at? slot).any fun o => decide (o.state ≠ .closedUnbilled) <;> rfl

/-- A schedule entry, with zeros where the Planner holds no results. -/
theorem DownEntry.bytes_eq (held : Bool) (e : DownEntry) :
    e.bytes held = if held then byte (bitsOf [e.value.isSome, e.frozen]) ++ fourOf 2 (e.value.getD ByClass.zero)
      else List.replicate 9 0 := by
  cases held <;> rfl

theorem length_fourOf (n : Nat) (x : ByClass) : (fourOf n x).length = 4 * n := by simp [fourOf]; omega

theorem length_optBytes (n : Nat) (v : Option Nat) : (optBytes n v).length = n + 1 := by cases v <;> simp [optBytes]

theorem length_toBytesSigned (n : Nat) (v : Int) : (toBytesSigned n v).length = n := length_toBytes n _

/-- The parts have the sizes of R192 when the offsets are twelve and the schedules twenty entries long. -/
theorem State.length_planSummary (s : State) : s.planSummary.length = 22 := by
  simp [State.planSummary, length_optBytes, length_toBytesSigned]

theorem OffsetPlan.length_classPart (x : OffsetPlan) : x.classPart.length = 44 := by simp [OffsetPlan.classPart, length_fourOf]

theorem DownEntry.length_bytes (held : Bool) (e : DownEntry) : (e.bytes held).length = 9 := by
  cases held <;> simp [DownEntry.bytes, length_fourOf]

theorem State.length_reportedOffsets (h : ∀ r, s.planner.results = some r → r.offsets.length = 12) : s.reportedOffsets.length = 12 := by
  rw [State.reportedOffsets_eq]
  cases hr : s.planner.results with
  | none => simp
  | some r => simpa using h r hr

theorem State.length_planSlot (h : s.reportedOffsets.length = 12) (slot : Nat) : (s.planSlot slot).length = 49 := by
  rw [State.planSlot, List.length_append, length_flatMap_const _ 4 _ fun x _ => by split <;> simp, h, length_byte]

theorem State.length_planNeighbour (h : s.reportedOffsets.length = 12) (hschedules : ∀ es ∈ s.planner.schedules, es.length = 20)
    (j : Nat) : (s.planNeighbour j).length = 373 := by
  have hschedule : ((s.planner.schedules[j]?).getD (List.replicate 20 { value := none, frozen := false })).length = 20 := by
    cases hes : s.planner.schedules[j]? with
    | none => simp
    | some es => exact hschedules es (List.mem_of_getElem? hes)
  rw [State.planNeighbour, List.length_append, List.length_append, length_flatMap_const _ 16 _ fun x _ => by simp [length_fourOf],
    length_flatMap_const _ 9 _ fun e _ => e.length_bytes _, h, hschedule, length_byte]

end

/-- Settles O22. -/
theorem statusAndPlanReads : Obligations.StatusAndPlanReads := by
  unfold Obligations.StatusAndPlanReads
  intro four
  refine ⟨?status, ?plan, rfl, rfl, rfl, rfl, rfl, rfl, rfl, rfl, fun _ => rfl, rfl, rfl, rfl, rfl, fun _ => ⟨rfl, rfl⟩, rfl, rfl, rfl,
    rfl, rfl⟩
  case status =>
    intro s part hp c gives u t l g p k b lv started held
    have hheld : ∀ v, s.held v = held v := State.held_eq hp
    have gives_of {body : List Byte} : s.statusData part = some (byte s.startup.state.code ++ body) → gives body :=
      exec_statusRead_of_part hp
    refine ⟨?part, ?time, ?line, ?neighbours, ?planner, ?gate, ?balance, ?turnouts, ?billing, exec_statusRead_of_out hp⟩
    case part => rintro rfl; exact gives_of rfl
    case time =>
      rintro rfl
      refine gives_of ?_
      simp only [← hheld]
      rfl
    case line => rintro rfl; exact gives_of rfl
    case neighbours =>
      rintro rfl
      refine gives_of ?_
      rw [← State.watchOn_eq hp]
      rfl
    case planner =>
      rintro rfl
      refine gives_of ?_
      simp only [State.statusData, State.statusPlanner, State.releaseBytes, p]
      cases s.planner.results <;> rfl
    case gate =>
      rintro rfl
      refine gives_of ?_
      dsimp only [State.statusData, State.statusGate, g, lv]
      rw [Gate.levelCause_eq]
      cases s.gate.closed <;> rfl
    case balance =>
      rintro rfl
      refine gives_of ?_
      simp only [← hheld]
      rfl
    case turnouts =>
      rintro rfl
      refine gives_of ?_
      simp only [State.statusData, State.statusTurnouts, funext (State.turnoutMarks_eq hp)]
      rfl
    case billing => rintro rfl; exact gives_of rfl
  case plan =>
    intro s part hw c p has key offsets gives sized release summary classes planned slotRow neighbour
    have gives_of {body : List Byte} :
        s.planData part = some (toBytes 4 s.reportedPlanKey ++ markByte s.planner.results.isSome ++ body) → gives body :=
      exec_planRead_of_part hw
    have hoffsets : s.reportedOffsets = offsets := s.reportedOffsets_eq
    have hsummary : s.planSummary = summary := by
      simp only [State.planSummary, summary, release, p, List.append_assoc]
      cases s.planner.results <;> rfl
    have hclasses : classes = s.reportedOffsets.flatMap OffsetPlan.classPart := by rw [hoffsets]; rfl
    have hslot : s.planSlot = slotRow := by
      funext slot
      rw [State.planSlot_eq, hoffsets]
    have hneighbour : s.planNeighbour = neighbour := by
      funext j
      rw [State.planNeighbour, funext (DownEntry.bytes_eq _), hoffsets]
      rfl
    refine ⟨?summary, ?classes, ?orders, ?neighbours, ?out, ?length, ?sizes⟩
    case summary => rintro rfl; rw [← hsummary]; exact gives_of rfl
    case classes => rintro rfl; rw [hclasses]; exact gives_of rfl
    case orders =>
      intro hlow hhigh
      rw [← hslot]
      obtain rfl | rfl | rfl : part = 2 ∨ part = 3 ∨ part = 4 := by omega
      all_goals exact gives_of rfl
    case neighbours =>
      intro hlow hhigh
      rw [← hneighbour]
      obtain rfl | rfl | rfl : part = 5 ∨ part = 6 ∨ part = 7 := by omega
      all_goals exact gives_of rfl
    case out => exact exec_planRead_of_out hw
    case length => exact hsummary ▸ s.length_planSummary
    case sizes =>
      rintro ⟨hresults, hschedules⟩
      have hlength : s.reportedOffsets.length = 12 := State.length_reportedOffsets hresults
      refine ⟨?_, fun slot => hslot ▸ State.length_planSlot hlength slot, fun j => hneighbour ▸ State.length_planNeighbour hlength hschedules j⟩
      rw [hclasses, length_flatMap_const _ 44 _ fun x _ => x.length_classPart, hlength]

end Sys2Proof.Machine
end

section
/-! The receiver of the station link, and the command that a complete frame stands for (R168, R170, R192). -/

namespace Sys2Proof.Machine

section

variable {p : List Byte} {offset n : Nat}

/-! ## Fields written again (R187) -/

/-- The bytes of a field are the bytes from which it was read. -/
theorem toBytes_fieldAt (h : offset + n ≤ p.length) : toBytes n (fieldAt p offset n) = (p.drop offset).take n := by
  have hlength : ((p.drop offset).take n).length = n := by simp; omega
  have hbytes := toBytes_ofBytes ((p.drop offset).take n)
  rwa [hlength] at hbytes

/-- The first field. -/
theorem toBytes_fieldAt_zero (h : n ≤ p.length) : toBytes n (fieldAt p 0 n) = p.take n := by
  rw [toBytes_fieldAt (by omega), List.drop_zero]

/-- A field behind the bytes before it. -/
theorem take_append_toBytes_fieldAt (h : offset + n ≤ p.length) :
    p.take offset ++ toBytes n (fieldAt p offset n) = p.take (offset + n) := by
  rw [toBytes_fieldAt h, List.take_add]

/-- A byte behind the bytes before it. -/
theorem take_append_byteAt (h : offset < p.length) : p.take offset ++ [byteAt p offset] = p.take (offset + 1) := by
  rw [byteAt, List.getD_eq_getElem _ _ h, List.take_append_getElem]

/-- Bytes read as a signed number and written again. -/
theorem toBytesSigned_ofBytesSigned (bs : List Byte) : toBytesSigned bs.length (ofBytesSigned bs) = bs := by
  have hlt : (ofBytes bs : Int) < ((256 ^ bs.length : Nat) : Int) := by exact_mod_cast ofBytes_lt bs
  have hmod : (ofBytesSigned bs % ((256 ^ bs.length : Nat) : Int)).toNat = ofBytes bs := by
    unfold ofBytesSigned
    dsimp only
    split
    · rw [Int.emod_eq_of_lt (by omega) hlt, Int.toNat_natCast]
    · rw [Int.sub_emod_right, Int.emod_eq_of_lt (by omega) hlt, Int.toNat_natCast]
  rw [toBytesSigned, hmod, toBytes_ofBytes]

/-- The marks of three bytes written again. -/
theorem toBytes_readMarks (h : p.length = 3) : toBytes 3 (readMarks p).toNat = p := by
  have hfield : fieldAt p 0 3 = ofBytes p := by rw [fieldAt, List.drop_zero, List.take_of_length_le (Nat.le_of_eq h)]
  have hlt := ofBytes_lt p
  have hbytes := toBytes_ofBytes p
  rw [h] at hlt hbytes
  rw [readMarks, hfield, BitVec.toNat_ofNat, Nat.mod_eq_of_lt (show ofBytes p < 2 ^ 24 from hlt), hbytes]

end

/-! ## The rows of the table of R192 -/

/-- What a row reads from a payload of its length is the command of that kind and payload. -/
def Rereads (r : LinkRow) : Prop := ∀ p : List Byte, r.fits p.length = true → linkPayload (r.read p) = some (r.kind, p)

section

variable {kind : Byte} {length : Nat} {read : List Byte → Instr}

/-- A row of one length. -/
theorem rereads_fixedRow (h : ∀ p : List Byte, p.length = length → linkPayload (read p) = some (kind, p)) :
    Rereads (fixedRow kind length read) := fun p hp => h p (by simpa [fixedRow] using hp)

/-- A row without payload. -/
theorem rereads_empty {c : Instr} (h : linkPayload c = some (kind, [])) : Rereads (fixedRow kind 0 fun _ => c) :=
  rereads_fixedRow fun p hp => by rw [h, List.eq_nil_of_length_eq_zero hp]

/-- A row of one field. -/
theorem rereads_field {command : Nat → Instr} (h : ∀ v, linkPayload (command v) = some (kind, toBytes length v)) :
    Rereads (fixedRow kind length fun p => command (fieldAt p 0 length)) :=
  rereads_fixedRow fun p hp => by rw [h, toBytes_fieldAt_zero (Nat.le_of_eq hp.symm), List.take_of_length_le (Nat.le_of_eq hp)]

/-- A row of several fields: their bytes behind one another are the first bytes of the payload, so all of it. -/
theorem rereads_fields {fields : List Byte → List Byte} (h : ∀ p, linkPayload (read p) = some (kind, fields p))
    (hfields : ∀ p : List Byte, p.length = length → fields p = p.take length) : Rereads (fixedRow kind length read) :=
  rereads_fixedRow fun p hp => by rw [h, hfields p hp, List.take_of_length_le (Nat.le_of_eq hp)]

end

theorem rereads_readRows : ∀ r ∈ readRows, Rereads r := by
  simp only [readRows, List.forall_mem_cons]
  exact ⟨rereads_field fun _ => rfl, rereads_field fun _ => rfl, rereads_field fun _ => rfl, rereads_empty rfl,
    rereads_field fun _ => rfl, rereads_field fun _ => rfl, rereads_field fun _ => rfl, rereads_empty rfl, List.forall_mem_nil _⟩

/-- The two marks fields of ALERT_ACK and ALERT_MASK. -/
theorem rereads_marks {kind : Byte} {command : BitVec 24 → Instr}
    (h : ∀ m, linkPayload (command m) = some (kind, toBytes 3 m.toNat)) : Rereads (fixedRow kind 3 fun p => command (readMarks p)) :=
  rereads_fixedRow fun p hp => by rw [h, toBytes_readMarks hp]

/-- The signed byte of TIME_TRIM. -/
theorem rereads_timeTrim : Rereads (fixedRow 0x11 1 fun p => .timeTrim (ofBytesSigned (p.take 1))) :=
  rereads_fixedRow fun p hp => by
    rw [List.take_of_length_le (Nat.le_of_eq hp)]
    have hbytes := toBytesSigned_ofBytesSigned p
    rw [hp] at hbytes
    rw [linkPayload, hbytes]

/-- The bytes of CONFIG_DATA behind its offset. -/
theorem rereads_configData : Rereads
    { kind := 0x30, fits := fun n => decide (3 ≤ n) && decide (n ≤ 514), read := fun p => .configData (fieldAt p 0 2) (p.drop 2) } := by
  intro p hp
  have hlength : 3 ≤ p.length := by simp at hp; omega
  rw [linkPayload, toBytes_fieldAt_zero (by omega), List.take_append_drop]

/-- Every other command, by its fields. -/
theorem rereads_writeRows : ∀ r ∈ writeRows, Rereads r := by
  simp only [writeRows, List.forall_mem_cons]
  refine ⟨rereads_fields (fun _ => rfl) fun p hp => ?timeSet, rereads_timeTrim, rereads_field fun _ => rfl, rereads_field fun _ => rfl,
    rereads_fields (fun _ => rfl) fun p hp => ?orderPlace, rereads_field fun _ => rfl, rereads_field fun _ => rfl,
    rereads_fields (fun _ => rfl) fun p hp => ?accountSet, rereads_fields (fun _ => rfl) fun p hp => ?turnoutService,
    rereads_fields (fun _ => rfl) fun p hp => ?turnoutAck, rereads_fields (fun _ => rfl) fun p hp => ?ratesStage,
    rereads_field fun _ => rfl, rereads_fields (fun _ => rfl) fun p hp => ?gateMode, rereads_empty rfl, rereads_field fun _ => rfl,
    rereads_marks fun _ => rfl, rereads_marks fun _ => rfl, rereads_empty rfl, rereads_empty rfl, rereads_empty rfl,
    rereads_configData, rereads_empty rfl, List.forall_mem_nil _⟩
  case turnoutAck =>
    rw [byte_eq_toBytes, toBytes_fieldAt_zero (by omega), take_append_byteAt (by omega)]
  case orderPlace =>
    simp (disch := omega) only [orderBytes, readOrder, byte_eq_toBytes, toBytes_fieldAt_zero, take_append_toBytes_fieldAt,
      Nat.reduceAdd]
  case ratesStage =>
    simp (disch := omega) only [rateBytes, readRates, classRow, readClasses, ← List.append_assoc, toBytes_fieldAt_zero,
      take_append_toBytes_fieldAt, Nat.reduceAdd]
  all_goals
    simp (disch := omega) only [byte_eq_toBytes, toBytes_fieldAt_zero, take_append_toBytes_fieldAt, Nat.reduceAdd]

/-! ## The command of a frame (R168) -/

section

variable {kind : Byte} {p : List Byte} {r : LinkRow}

/-- Each kind code names one row. -/
theorem find_linkRows : ∀ r ∈ linkRows, linkRows.find? (fun q => q.kind == r.kind) = some r := by
  simp only [linkRows, readRows, writeRows, List.cons_append, List.nil_append, List.forall_mem_cons]
  refine ⟨?_, ?_, ?_, ?_, ?_, ?_, ?_, ?_, ?_, ?_, ?_, ?_, ?_, ?_, ?_, ?_, ?_, ?_, ?_, ?_, ?_, ?_, ?_, ?_, ?_, ?_, ?_, ?_, ?_, ?_,
    List.forall_mem_nil _⟩ <;> rfl

/-- A payload that its row calls for gives the command of its kind and payload. -/
theorem linkPayload_decodeCommand (hr : r ∈ linkRows) (hfits : r.fits p.length = true) :
    linkPayload (decodeCommand r.kind p) = some (r.kind, p) := by
  have hrereads : Rereads r := (List.mem_append.1 hr).elim (rereads_readRows r) (rereads_writeRows r)
  simp only [decodeCommand, find_linkRows r hr, hfits, if_true]
  exact hrereads p hfits

/-- A payload that no row calls for gives UNKNOWN_COMMAND. -/
theorem decodeCommand_of_uncalled (h : ∀ r ∈ linkRows, r.kind = kind → r.fits p.length = false) :
    decodeCommand kind p = .unknownCommand kind := by
  unfold decodeCommand
  split
  case h_1 r hr =>
    have hkind : r.kind = kind := by simpa using List.find?_some hr
    rw [h r (List.mem_of_find?_eq_some hr) hkind]
    rfl
  case h_2 => rfl

end

/-! ## The lengths that the rows call for (R192) -/

/-- The kind codes with one payload length, and that length. -/
def fixedLengths : List (Byte × Nat) :=
  [(0x01, 1), (0x02, 1), (0x03, 2), (0x04, 0), (0x05, 1), (0x06, 1), (0x07, 1), (0x08, 0), (0x10, 7), (0x11, 1), (0x12, 2),
   (0x13, 4), (0x14, 13), (0x15, 2), (0x16, 2), (0x17, 10), (0x18, 2), (0x19, 2), (0x1A, 34), (0x1B, 2), (0x1C, 3), (0x1D, 0),
   (0x1E, 2), (0x1F, 3), (0x20, 3), (0x21, 0), (0x22, 0), (0x23, 0), (0x31, 0)]

/-- A payload of this kind and length is called for: by a row of one length, or by CONFIG_DATA. -/
def Called (kind : Byte) (n : Nat) : Prop := (kind, n) ∈ fixedLengths ∨ (kind = 0x30 ∧ 3 ≤ n ∧ n ≤ 514)

section

variable {kind : Byte} {n : Nat}

theorem called_of_fixedRow {length : Nat} {read : List Byte → Instr} (h : (kind, length) ∈ fixedLengths)
    (hfits : (fixedRow kind length read).fits n = true) : Called kind n := by
  obtain rfl : n = length := by simpa [fixedRow] using hfits
  exact .inl h

theorem called_of_row : ∀ r ∈ linkRows, r.fits n = true → Called r.kind n := by
  simp only [linkRows, readRows, writeRows, List.cons_append, List.nil_append, List.forall_mem_cons]
  refine ⟨?_, ?_, ?_, ?_, ?_, ?_, ?_, ?_, ?_, ?_, ?_, ?_, ?_, ?_, ?_, ?_, ?_, ?_, ?_, ?_, ?_, ?_, ?_, ?_, ?_, ?_, ?_, ?_, ?configData,
    ?_, List.forall_mem_nil _⟩
  case configData => exact fun hfits => .inr ⟨rfl, by simpa using hfits⟩
  all_goals exact called_of_fixedRow (by decide)

/-- A payload is called for when some row of its kind takes its length. -/
theorem called_iff : Called kind n ↔ ∃ r ∈ linkRows, r.kind = kind ∧ r.fits n = true := by
  constructor
  · rintro (hfixed | ⟨rfl, hlow, hhigh⟩)
    · have hrow : ∀ x ∈ fixedLengths, (linkRows.any fun r => r.kind == x.1 && r.fits x.2) = true := by decide
      simpa using hrow _ hfixed
    · exact ⟨_, List.mem_of_find?_eq_some (p := fun q => q.kind == 0x30) rfl, rfl, by simp [hlow, hhigh]⟩
  · rintro ⟨r, hr, rfl, hfits⟩
    exact called_of_row r hr hfits

end

section

variable {f : LinkFrame}

/-- A frame passes when no character had a framing error, its bytes are as many as its length says, that is at most 1 024, and its check
agrees. -/
theorem framePasses_iff : framePasses f = true ↔
    f.bad = false ∧ f.chars.length = 5 + fieldAt f.chars 1 2 ∧ fieldAt f.chars 1 2 ≤ 1024 ∧
      crcBytes (f.chars.take (fieldAt f.chars 1 2 + 3)) = f.chars.drop (fieldAt f.chars 1 2 + 3) := by
  simp only [framePasses, Bool.and_eq_true, Bool.not_eq_true', decide_eq_true_eq, and_assoc]
  refine and_congr_right fun _ => and_congr_right fun hlength => ?_
  rw [show f.chars.length - 2 = fieldAt f.chars 1 2 + 3 by omega]

theorem decodeLink_of_failed (h : ¬framePasses f = true) : decodeLink f = .check (byteAt f.chars 0) := if_neg h

/-- The frame that passes is decoded by its kind and its payload. -/
theorem decodeLink_of_passes (h : framePasses f = true) :
    decodeLink f = decodeCommand (byteAt f.chars 0) ((f.chars.drop 3).take (fieldAt f.chars 1 2)) := by
  obtain ⟨-, hlength, -⟩ := framePasses_iff.1 h
  rw [decodeLink, if_pos h, show f.chars.length - 5 = fieldAt f.chars 1 2 by omega]

/-- The payload of a frame that passes has the length that the frame says. -/
theorem length_payload_of_passes (h : framePasses f = true) :
    ((f.chars.drop 3).take (fieldAt f.chars 1 2)).length = fieldAt f.chars 1 2 := by
  obtain ⟨-, hlength, -⟩ := framePasses_iff.1 h
  simp
  omega

end

section

variable {l : StationLink} {now : Nat} {b : Byte} {bad : Bool} {chars : List Byte} {soFar : Bool}

/-! ## The receiver, character by character (R168) -/

/-- The sync byte without framing error begins a frame. -/
theorem linkHunt_eq (b : Byte) (bad : Bool) : linkHunt b bad = if b = 0x5D ∧ bad = false then .frame [] false else .hunt := by
  simp [linkHunt, linkSync]

theorem StationLink.char_of_hunt (h : l.rx = .hunt) : l.char now b bad = { l with rx := linkHunt b bad, lastChar := now } := by
  simp [StationLink.char, h]

/-- After a gap of more than 20 ms the part frame is gone, and the character is hunted. -/
theorem StationLink.char_of_gap (h : l.rx = .frame chars soFar) (hgap : l.lastChar + 20 < now) :
    l.char now b bad = { l with rx := linkHunt b bad, lastChar := now } := by
  simp [StationLink.char, StationLink.gapPassed, h, hgap]

/-- Without such a gap the frame takes the character. -/
theorem StationLink.char_of_frame (h : l.rx = .frame chars soFar) (hgap : now ≤ l.lastChar + 20) :
    l.char now b bad = ({ l with lastChar := now } : StationLink).takeChar (chars ++ [b]) (soFar || bad) := by
  simp [StationLink.char, StationLink.gapPassed, h, Nat.not_lt.2 hgap]

/-- A length above 1 024 ends the frame as failed. -/
theorem StationLink.takeChar_of_long (h : chars.length = 3) (hlong : 1024 < fieldAt chars 1 2) :
    l.takeChar chars bad = { l with rx := .hunt, arrived := l.arrived ++ [{ chars := chars, bad := true }] } := if_pos ⟨h, hlong⟩

/-- The last character completes the frame. -/
theorem StationLink.takeChar_of_last (hlast : chars.length = 5 + fieldAt chars 1 2) :
    l.takeChar chars bad = { l with rx := .hunt, arrived := l.arrived ++ [{ chars := chars, bad := bad }] } := by
  unfold StationLink.takeChar
  dsimp only
  rw [if_neg (by omega), if_pos ⟨by omega, hlast⟩]

/-- Any other character joins the frame. -/
theorem StationLink.takeChar_of_other (h : chars.length < 3 ∨ (chars.length = 3 ∧ fieldAt chars 1 2 ≤ 1024) ∨
    (3 < chars.length ∧ chars.length ≠ 5 + fieldAt chars 1 2)) : l.takeChar chars bad = { l with rx := .frame chars bad } := by
  unfold StationLink.takeChar
  dsimp only
  rw [if_neg (by omega), if_neg (by omega)]

/-! ## The frames in the input buffer (R170) -/

theorem StationLink.join_of_room {f : LinkFrame} (h : l.buffer.length < 2) : l.join f = { l with buffer := l.buffer ++ [f] } := if_pos h

theorem StationLink.join_of_full {f : LinkFrame} (h : 2 ≤ l.buffer.length) : l.join f = { l with overrun := true } :=
  if_neg (Nat.not_lt.2 h)

end

section

variable {s : State}

/-- With supply a character reaches the receiver in every start state. -/
theorem exec_linkCharacterReceived {l' : StationLink} {b : Byte} {bad : Bool} (hp : s.startup.powered = true)
    (h : s.link.char s.time.elapsed b bad = l') : exec (.linkCharacterReceived b bad) s = .next { s with link := l' } := by
  rw [← h]
  exact if_pos hp

theorem exec_linkFrameGap_of_frame {chars : List Byte} {soFar : Bool} (hp : s.startup.powered = true)
    (h : s.link.rx = .frame chars soFar) (hgap : s.link.lastChar + 20 < s.time.elapsed) :
    exec .linkFrameGap s = .next { s with link := { s.link with rx := .hunt } } :=
  if_pos (by simp [hp, h, hgap, LinkRx.inFrame, StationLink.gapPassed])

/-- With supply a complete frame leaves the receiver and joins the input buffer. -/
theorem exec_linkFrameReceived {l' : StationLink} {f : LinkFrame} (hp : s.startup.powered = true)
    (h : ({ s.link with arrived := dropHead s.link.arrived f } : StationLink).join f = l') :
    exec (.linkFrameReceived f.chars f.bad) s = .next { s with link := l' } := by
  rw [← h]
  exact if_pos hp

end

/-- Settles O60: the frame by its checks and its row, and the receiver by its state and the gap. -/
theorem linkReceiver : Obligations.LinkReceiver := by
  refine ⟨?decoded, fun s hp => ?receiver⟩
  case decoded =>
    intro f n kind payload passes lengths called
    have hpasses : framePasses f = true ↔ passes := framePasses_iff
    have hcalled : called ↔ ∃ r ∈ linkRows, r.kind = kind ∧ r.fits n = true := called_iff
    refine ⟨fun hfailed => decodeLink_of_failed (hpasses.not.2 hfailed), fun hpass hunknown => ?unknown, fun hpass hknown => ?known⟩
    case unknown =>
      rw [decodeLink_of_passes (hpasses.2 hpass)]
      refine decodeCommand_of_uncalled fun r hr hkind => ?_
      rw [length_payload_of_passes (hpasses.2 hpass)]
      exact Bool.eq_false_iff.2 fun hfits => hunknown (hcalled.2 ⟨r, hr, hkind, hfits⟩)
    case known =>
      obtain ⟨r, hr, hkind, hfits⟩ := hcalled.1 hknown
      rw [decodeLink_of_passes (hpasses.2 hpass), show byteAt f.chars 0 = r.kind from hkind.symm, ← hkind]
      exact linkPayload_decodeCommand hr (by rwa [length_payload_of_passes (hpasses.2 hpass)])
  case receiver =>
    intro l now
    refine ⟨fun b bad => ?character, fun chars soFar hrx hgap => exec_linkFrameGap_of_frame hp hrx hgap, fun frame bad => ?frame,
      fun kind => ⟨congrArg _ (State.serve_always _ _ _ hp), congrArg _ (State.serve_always _ _ _ hp)⟩⟩
    case character =>
      intro leads hunted
      have of_char {l' : StationLink} : l.char now b bad = { l' with lastChar := now } → leads l' := exec_linkCharacterReceived hp
      have hhunt : linkHunt b bad = hunted := linkHunt_eq b bad
      rw [← hhunt]
      refine ⟨fun hrx => of_char (StationLink.char_of_hunt hrx), ?inFrame⟩
      intro chars soFar hrx more n
      have taken (hgap : now ≤ l.lastChar + 20) := StationLink.char_of_frame (b := b) (bad := bad) hrx hgap
      exact ⟨fun hgap => of_char (StationLink.char_of_gap hrx hgap),
        fun hgap h hlong => of_char ((taken hgap).trans (StationLink.takeChar_of_long h hlong)),
        fun hgap h => of_char ((taken hgap).trans (StationLink.takeChar_of_other h)),
        fun hgap _ hlast => of_char ((taken hgap).trans (StationLink.takeChar_of_last hlast))⟩
    case frame =>
      intro f
      exact ⟨fun hroom => exec_linkFrameReceived (f := f) hp (StationLink.join_of_room hroom),
        fun hfull => exec_linkFrameReceived (f := f) hp (StationLink.join_of_full hfull)⟩

end Sys2Proof.Machine
end

section
/-! The commands of the station link by start state (R169, R171): each is served as the table says, and refuses without a change. -/

namespace Sys2Proof.Machine

section

variable {s : State}

/-! ## What an owner answers (R169) -/

/-- An owner never answers NOT_READY, and when it refuses it leaves the part as it was. -/
def Served.Fair (s : State) (x : Served) : Prop := x.result ≠ .notReady ∧ (x.result ≠ .ok → x = s.refuse x.result)

theorem fair_accept (u : State) (data : List Byte) : (u.accept data).Fair s := ⟨by simp, fun h => absurd rfl h⟩

theorem fair_refuse {r : ResultCode} (h : r ≠ .notReady := by decide) : (s.refuse r).Fair s := ⟨h, fun _ => rfl⟩

theorem fair_read (data : Option (List Byte)) {r : ResultCode} (h : r ≠ .notReady := by decide) : (s.read data r).Fair s := by
  cases data with
  | none => exact fair_refuse h
  | some bytes => exact fair_accept s bytes

theorem fair_if {p : Prop} [Decidable p] {x y : Served} (hx : x.Fair s) (hy : y.Fair s) : (if p then x else y).Fair s := by
  split
  · exact hx
  · exact hy

/-! ## The owners one by one -/

theorem State.takeTimeSet_fair (t : DistrictTime) : (s.takeTimeSet t).Fair s :=
  fair_if fair_refuse (fair_if (fair_accept _ _) (fair_if (fair_accept _ _) fair_refuse))

theorem State.takeTimeTrim_fair (x : Int) : (s.takeTimeTrim x).Fair s := fair_if (fair_accept _ _) (fair_accept _ _)

theorem State.takeSupply_fair (flow : Nat) : (s.takeSupply flow).Fair s := fair_if (fair_accept _ _) fair_refuse

theorem State.takeTarget_fair (level : Nat) : (s.takeTarget level).Fair s :=
  fair_if fair_refuse (fair_if fair_refuse (fair_accept _ _))

theorem State.declareWatch_fair (key : Nat) : (s.declareWatch key).Fair s :=
  fair_if fair_refuse (fair_accept _ _)

/-- A check with another code does not fail with NOT_READY. -/
theorem check_ne_notReady {p : Prop} [Decidable p] {code : ResultCode} {rest : Option ResultCode} (hrest : rest ≠ some .notReady)
    (hcode : code ≠ .notReady := by decide) : (if p then some code else rest) ≠ some .notReady := by
  split
  · simpa using hcode
  · exact hrest

/-- No admission check fails with NOT_READY (R24). -/
theorem State.admission_ne_notReady (r : OrderRequest) : s.admission r ≠ some .notReady := by
  unfold State.admission
  iterate 12 refine check_ne_notReady ?_
  simp

theorem State.takeOrder_fair (r : OrderRequest) : (s.takeOrder r).Fair s := by
  refine fair_if fair_refuse ?_
  split
  case h_1 code _ _ hcode => exact fair_refuse fun hready => State.admission_ne_notReady r (hready ▸ hcode)
  case h_2 => exact fair_accept _ _
  case h_3 => exact fair_refuse
  case h_4 => exact fair_refuse

theorem State.takeCancel_fair (number : Nat) : (s.takeCancel number).Fair s := by
  unfold State.takeCancel
  split
  · exact fair_refuse
  · exact fair_if (fair_accept _ _) fair_refuse

theorem State.takeShutoff_fair (number : Nat) : (s.takeShutoff number).Fair s := by
  unfold State.takeShutoff
  split
  · exact fair_refuse
  · split
    · exact fair_accept _ _
    · exact fair_accept _ _
    · exact fair_refuse
    · exact fair_refuse

theorem State.takeAccount_fair (index allotment limit state : Nat) : (s.takeAccount index allotment limit state).Fair s := by
  refine fair_if fair_refuse (fair_if fair_refuse ?_)
  split
  · exact fair_refuse
  · exact fair_accept _ _

theorem State.takeService_fair (i direction : Nat) : (s.takeService i direction).Fair s := by
  refine fair_if fair_refuse ?_
  split
  · exact fair_refuse
  · exact fair_if fair_refuse (fair_if (fair_accept _ _) (fair_accept _ _))

theorem State.takeTurnoutAck_fair (i : Nat) (marks : Byte) : (s.takeTurnoutAck i marks).Fair s :=
  fair_if fair_refuse (fair_if fair_refuse (fair_accept _ _))

theorem State.takeRates_fair (table : RateTable) : (s.takeRates table).Fair s :=
  fair_if (fair_accept _ _) fair_refuse

theorem State.takeGateMode_fair (mode opening : Nat) : (s.takeGateMode mode opening).Fair s := by
  unfold State.takeGateMode
  split
  · exact fair_refuse
  · exact fair_accept _ _

theorem State.takeTripClear_fair : s.takeTripClear.Fair s := fair_if fair_refuse (fair_accept _ _)

theorem State.takeAck_fair (marks : BitVec 24) : (s.takeAck marks).Fair s := by
  unfold State.takeAck
  split
  · exact fair_refuse
  · exact fair_accept _ _

theorem State.takeMask_fair (marks : BitVec 24) : (s.takeMask marks).Fair s := by
  unfold State.takeMask
  split
  · exact fair_refuse
  · exact fair_accept _ _

theorem State.takeSeasonClose_fair : s.takeSeasonClose.Fair s :=
  fair_if fair_refuse (fair_if fair_refuse (fair_accept _ _))

theorem State.loadBytes_fair (offset : Nat) (bytes : List Byte) : (s.loadBytes offset bytes).Fair s :=
  fair_if fair_refuse (fair_if fair_refuse (fair_accept _ _))

theorem State.endLoad_fair : s.endLoad.Fair s := fair_if fair_refuse (fair_accept _ _)

/-! ## Each command served as the table says (R171) -/

/-- The command is served under its kind code, in the start states of the table, by an owner that is fair. -/
def ServedByTable (c : Instr) (kind : Byte) (s : State) : Prop :=
  ∃ k body, exec c s = .next (s.serve c kind k body) ∧ (∀ st, k.refusal st = tableRefusal c st) ∧ body.Fair s

theorem servedByTable (k : Service) {c : Instr} {kind : Byte} {body : Served} (hfair : body.Fair s)
    (hexec : exec c s = .next (s.serve c kind k body))
    (htable : [.loading, .configFault, .waitTime, .run].map k.refusal = [.loading, .configFault, .waitTime, .run].map (tableRefusal c)) :
    ServedByTable c kind s := by
  simp only [List.map_cons, List.cons.injEq] at htable
  obtain ⟨hloading, hfault, hwait, hrun, -⟩ := htable
  exact ⟨k, body, hexec, fun st => by cases st <;> assumption, hfair⟩

end

/-- Every command of the station link is served as the table says. -/
theorem exec_servedByTable (c : Instr) (s : State) {kind : Byte} {payload : List Byte} (h : linkPayload c = some (kind, payload)) :
    ServedByTable c kind s := by
  cases c with
  -- STATUS_READ is served in every start state
  | statusRead _ => cases h; exact servedByTable .always (fair_read _) rfl rfl
  -- the other reads and TIME_SET are served in WAIT_TIME and RUN
  | planRead _ | orderQuery _ | accountQuery _ | turnoutQuery _ => cases h; exact servedByTable .started (fair_read _) rfl rfl
  | bookList | logRead _ | alertRead => cases h; exact servedByTable .started (fair_accept _ _) rfl rfl
  | timeSet _ _ _ _ => cases h; exact servedByTable .started (State.takeTimeSet_fair _) rfl rfl
  -- the load is served in LOADING and CONFIG_FAULT
  | configData _ _ => cases h; exact servedByTable .load (State.loadBytes_fair _ _) rfl rfl
  | configEnd => cases h; exact servedByTable .load State.endLoad_fair rfl rfl
  -- the others are served in RUN
  | timeTrim _ => cases h; exact servedByTable .run (State.takeTimeTrim_fair _) rfl rfl
  | supplySet _ => cases h; exact servedByTable .run (State.takeSupply_fair _) rfl rfl
  | watchDeclare _ => cases h; exact servedByTable .run (State.declareWatch_fair _) rfl rfl
  | orderPlace _ => cases h; exact servedByTable .run (State.takeOrder_fair _) rfl rfl
  | orderCancel _ => cases h; exact servedByTable .run (State.takeCancel_fair _) rfl rfl
  | orderShutoff _ => cases h; exact servedByTable .run (State.takeShutoff_fair _) rfl rfl
  | accountSet _ _ _ _ => cases h; exact servedByTable .run (State.takeAccount_fair _ _ _ _) rfl rfl
  | turnoutService _ _ => cases h; exact servedByTable .run (State.takeService_fair _ _) rfl rfl
  | turnoutAck _ _ => cases h; exact servedByTable .run (State.takeTurnoutAck_fair _ _) rfl rfl
  | ratesStage _ => cases h; exact servedByTable .run (State.takeRates_fair _) rfl rfl
  | targetStage _ => cases h; exact servedByTable .run (State.takeTarget_fair _) rfl rfl
  | gateMode _ _ => cases h; exact servedByTable .run (State.takeGateMode_fair _ _) rfl rfl
  | tripClear => cases h; exact servedByTable .run State.takeTripClear_fair rfl rfl
  | alertAck _ => cases h; exact servedByTable .run (State.takeAck_fair _) rfl rfl
  | alertMask _ => cases h; exact servedByTable .run (State.takeMask_fair _) rfl rfl
  | seasonClose => cases h; exact servedByTable .run State.takeSeasonClose_fair rfl rfl
  | logRelease _ | restart | noticeNow => cases h; exact servedByTable .run (fair_accept _ _) rfl rfl
  -- the other rows of the table have no payload
  | _ => cases h

section

variable {s : State} {c : Instr} {kind : Byte}

/-- Where the table refuses a command, the answer is that refusal. -/
theorem ServedByTable.exec_of_refused (h : ServedByTable c kind s) (hp : s.startup.powered = true) {r : ResultCode}
    (hr : tableRefusal c s.startup.state = some r) : exec c s = s.refuses c kind r := by
  obtain ⟨k, body, hexec, htable, -⟩ := h
  rw [hexec, State.serve_of_refused _ _ _ _ hp ((htable _).trans hr)]
  rfl

/-- Where it does not, the answer is what a fair owner makes of the command. -/
theorem ServedByTable.exec_of_served (h : ServedByTable c kind s) (hp : s.startup.powered = true)
    (hr : tableRefusal c s.startup.state = none) :
    ∃ body : Served, body.Fair s ∧ exec c s = .next (body.state.answer kind body.result body.data (body.state.atHead c)) := by
  obtain ⟨k, body, hexec, htable, hfair⟩ := h
  exact ⟨body, hfair, by rw [hexec, State.serve_of_served _ _ _ _ hp ((htable _).trans hr)]⟩

end

/-- Settles O20, by whether the table refuses the command. -/
theorem startStateRefusals : Obligations.StartStateRefusals := by
  intro c s kind payload hp hpayload
  have hserved := exec_servedByTable c s hpayload
  refine ⟨fun r hr => hserved.exec_of_refused hp hr, ?_⟩
  cases hr : tableRefusal c s.startup.state with
  | some r => exact ⟨_, _, hserved.exec_of_refused hp hr, rfl, rfl, nofun, fun _ => rfl⟩
  | none =>
    obtain ⟨body, ⟨hready, hrefused⟩, hexec⟩ := hserved.exec_of_served hp hr
    refine ⟨_, _, hexec, rfl, rfl, fun _ => hready, fun hok => ?_⟩
    rw [hrefused hok]
    rfl

end Sys2Proof.Machine
end

section
/-! The bounded collections and the mask marks of a state in one record, and what the shared operations leave of it (R42, R44, R92, R109,
R110, R132, R136, R170). -/

namespace Sys2Proof.Machine

/-- What the bounds and the marks of the two level-3 causes are about: the mask marks, the input buffer, the attempt count, the
closing-volume history, the balance queue and the level window. -/
structure BoundedPart where
  masks : BitVec 17
  buffer : List LinkFrame
  attempt : Nat
  history : List ClosingPair
  queue : List BalanceEntry
  window : List (Nat × Nat)

def State.boundedPart (s : State) : BoundedPart :=
  { masks := s.alerts.masks, buffer := s.link.buffer, attempt := s.line.attempt, history := s.close.history, queue := s.close.queue
    window := s.gate.window }

section

variable {s : State}

/-! ## Replacing one block -/

@[simp] theorem State.withPending_boundedPart (x : List Instr) : (s.withPending x).boundedPart = s.boundedPart := rfl
@[simp] theorem State.withStartup_boundedPart (x : StartUp) : (s.withStartup x).boundedPart = s.boundedPart := rfl
@[simp] theorem State.withTime_boundedPart (x : TimeBase) : (s.withTime x).boundedPart = s.boundedPart := rfl
@[simp] theorem State.withInbox_boundedPart (x : Inbox) : (s.withInbox x).boundedPart = s.boundedPart := rfl
@[simp] theorem State.withBook_boundedPart (x : OrderBook) : (s.withBook x).boundedPart = s.boundedPart := rfl
@[simp] theorem State.withNeigh_boundedPart (x : NeighbourTable) : (s.withNeigh x).boundedPart = s.boundedPart := rfl
@[simp] theorem State.withPlanner_boundedPart (x : Planner) : (s.withPlanner x).boundedPart = s.boundedPart := rfl
@[simp] theorem State.withMeters_boundedPart (x : MeterUnit) : (s.withMeters x).boundedPart = s.boundedPart := rfl
@[simp] theorem State.withBilling_boundedPart (x : Billing) : (s.withBilling x).boundedPart = s.boundedPart := rfl

theorem State.withAlerts_boundedPart {x : Alerts} (h : x.masks = s.alerts.masks) : (s.withAlerts x).boundedPart = s.boundedPart := by
  simp [State.boundedPart, h]

theorem State.withLine_boundedPart {x : LineInterface} (h : x.attempt = s.line.attempt) :
    (s.withLine x).boundedPart = s.boundedPart := by simp [State.boundedPart, h]

theorem State.withGate_boundedPart {x : Gate} (h : x.window = s.gate.window) : (s.withGate x).boundedPart = s.boundedPart := by
  simp [State.boundedPart, h]

theorem State.withLink_boundedPart {x : StationLink} (h : x.buffer = s.link.buffer) : (s.withLink x).boundedPart = s.boundedPart := by
  simp [State.boundedPart, h]

/-! ## Alerts and requests (R174, R175, R177, R47 to R50) -/

@[simp] theorem State.raise_boundedPart (c : Cause) : (s.raise c).boundedPart = s.boundedPart := rfl

@[simp] theorem State.raiseIf_boundedPart (b : Bool) (c : Cause) : (s.raiseIf b c).boundedPart = s.boundedPart := by
  cases b <;> rfl

@[simp] theorem State.moderate_boundedPart : s.moderate.boundedPart = s.boundedPart := by unfold State.moderate; split <;> rfl

@[simp] theorem LineInterface.wake_attempt (inRun : Bool) (l : LineInterface) : (l.wake inRun).attempt = l.attempt := by
  unfold LineInterface.wake; split <;> rfl

@[simp] theorem State.requestReach_boundedPart : s.requestReach.boundedPart = s.boundedPart :=
  State.withLine_boundedPart (by simp)

@[simp] theorem State.requestWatch_boundedPart : s.requestWatch.boundedPart = s.boundedPart := by
  unfold State.requestWatch
  split
  · exact State.withLine_boundedPart (by simp)
  · rfl

@[simp] theorem State.comparePlan_boundedPart (r : PlanResults) : (s.comparePlan r).boundedPart = s.boundedPart := by
  unfold State.comparePlan; split <;> simp

@[simp] theorem State.raiseWatch_boundedPart (key : Nat) : (s.raiseWatch key).boundedPart = s.boundedPart := by
  unfold State.raiseWatch; split <;> simp

@[simp] theorem State.mergeWatch_boundedPart (key : Nat) : (s.mergeWatch key).boundedPart = s.boundedPart :=
  State.raiseWatch_boundedPart _

end

section

variable {c : Config.Settings} {now : Nat} {g : Gate}

/-! ## The level window over the drive and the targets (chapter 6) -/

theorem Gate.startRule_window : (g.startRule c now).window = g.window := by
  rcases g.startRule_cases c now with h | ⟨d, h⟩
  · rw [h]
  · rw [h]; rfl

@[simp] theorem Gate.onTarget_window : (g.onTarget c now).window = g.window := by rw [Gate.onTarget_eq]

@[simp] theorem Gate.computeTarget_window : (g.computeTarget c).window = g.window := by rw [Gate.computeTarget_eq]

theorem Gate.handTarget_window (release : Nat) : (g.handTarget c now release).window = g.window := by rw [Gate.handTarget_eq]

theorem Gate.onPosition_window : (g.onPosition c now).window = g.window := by
  unfold Gate.onPosition
  split
  · repeat' split
    all_goals rfl
  · exact Gate.onTarget_window

theorem Gate.closeOnce_window (key : Nat) : (g.closeOnce key).window = g.window := by unfold Gate.closeOnce; split <;> rfl

theorem Gate.step_window (opening : Bool) : (g.step opening c now).window = g.window := by
  have hcount : (g.count opening).window = g.window := by
    unfold Gate.count
    repeat' split
    all_goals rfl
  unfold Gate.step
  dsimp only
  rw [Gate.onPosition_window]
  split <;> exact hcount

theorem Gate.limitPosition_window (openLimit : Bool) : (g.limitPosition c openLimit).window = g.window := by
  cases openLimit <;> rfl

theorem Gate.setLimit_window (openLimit active : Bool) : (g.setLimit openLimit active).window = g.window := by cases openLimit <;> rfl

theorem Gate.setFault_window (r : FaultRecord) : (g.setFault now r).window = g.window := by
  unfold Gate.setFault
  dsimp only
  split <;> rfl

theorem Gate.limitStop_window (openLimit : Bool) : (g.limitStop now openLimit).window = g.window := by
  unfold Gate.limitStop
  repeat' split
  all_goals rfl

theorem Gate.limitActive_window (openLimit : Bool) : (g.limitActive openLimit c now).window = g.window := by
  unfold Gate.limitActive
  dsimp only
  split
  · rw [Gate.setFault_window, Gate.limitPosition_window]
  · rw [Gate.onPosition_window, Gate.limitStop_window, Gate.limitPosition_window]

theorem Gate.supplyLowChanged_window : (g.supplyLowChanged c now).window = g.window := by
  unfold Gate.supplyLowChanged
  split
  · split <;> rfl
  · exact Gate.startRule_window

theorem Gate.tripAct_window : (g.tripAct c now).window = g.window := by
  unfold Gate.tripAct
  dsimp only
  repeat' split
  all_goals rfl

theorem Gate.setMode_window (mode : ControlMode) (opening : Nat) : (g.setMode mode opening c now).window = g.window := by
  cases mode <;> simp [Gate.setMode]

theorem Gate.boundary_window (key : Nat) : (g.boundary c now key).window = g.window := by
  unfold Gate.boundary
  dsimp only
  have hclosed := Gate.closeOnce_window (g := g) key
  split <;> split <;> simpa [Gate.resume, Gate.enter] using hclosed

theorem Gate.judgeLimits_window : (g.judgeLimits c now).window = g.window := by
  unfold Gate.judgeLimits
  dsimp only
  repeat' split
  all_goals simp [Gate.setFault_window, Gate.limitPosition_window]

/-! ## The level window over the samples (R92 to R94) -/

/-- A window of at most 8 samples holds at most 8 with the newest (R92). -/
theorem length_joinWindow_le {w : List (Nat × Nat)} (h : w.length ≤ 8) (sample : Nat × Nat) : (joinWindow w sample).length ≤ 8 := by
  unfold joinWindow
  split
  · simp; omega
  · simp; omega

theorem Gate.computeFlow_window (hU hD : Nat) : (g.computeFlow c hU hD).window = g.window := by
  unfold Gate.computeFlow
  dsimp only
  repeat' split
  all_goals rfl

theorem Gate.goodSample_window (inRun : Bool) (u d : Nat) : (g.goodSample c now inRun u d).window = joinWindow g.window (u, d) := by
  unfold Gate.goodSample
  dsimp only
  cases inRun <;> cases g.levelFault <;> simp [Gate.judgeWindow, Gate.addVolume, Gate.computeFlow_window]

/-- A missed sample leaves the window or empties it. -/
theorem Gate.missedSample_window (inRun : Bool) :
    (g.missedSample c now inRun).window = g.window ∨ (g.missedSample c now inRun).window = [] := by
  unfold Gate.missedSample
  dsimp only
  repeat' split
  all_goals simp [Gate.startRule_window, Gate.addVolume]

end

section

variable {s : State}

/-! ## The Planner and the Neighbour Table (R49, R59, R67, R68) -/

@[simp] theorem State.recompute_boundedPart : s.recompute.boundedPart = s.boundedPart := by
  unfold State.recompute
  split
  · rfl
  · rw [State.withGate_boundedPart (Gate.handTarget_window _)]
    simp

@[simp] theorem State.planPeriodChange_boundedPart (newKey : Nat) : (s.planPeriodChange newKey).boundedPart = s.boundedPart := by
  unfold State.planPeriodChange; split <;> simp

@[simp] theorem State.putEntry_boundedPart (i : Nat) (e : Entry) : (s.putEntry i e).boundedPart = s.boundedPart := rfl

@[simp] theorem State.loseEntry_boundedPart (i : Nat) : (s.loseEntry i).boundedPart = s.boundedPart := by
  unfold State.loseEntry; split <;> simp

/-! ## The Order Book and the Billing Unit (chapters 2 and 9) -/

@[simp] theorem State.chargeAccount_boundedPart (index volume amount : Nat) :
    (s.chargeAccount index volume amount).boundedPart = s.boundedPart := by simp [State.chargeAccount]

@[simp] theorem State.enterLog_boundedPart (r : BillRecord) : (s.enterLog r).boundedPart = s.boundedPart := by simp [State.enterLog]

@[simp] theorem State.joinWait_boundedPart (x : WaitItem) : (s.joinWait x).boundedPart = s.boundedPart := by simp [State.joinWait]

@[simp] theorem State.closeOrder_boundedPart (kind : RecordKind) (slot key : Nat) (o : Order) :
    (s.closeOrder kind slot key o).boundedPart = s.boundedPart := by
  unfold State.closeOrder
  dsimp only
  generalize hu : s.chargeAccount o.account _ (closeCharge s kind o) = u
  have hpart : u.boundedPart = s.boundedPart := by rw [← hu, State.chargeAccount_boundedPart]
  split <;> simp [hpart]

@[simp] theorem State.closeSlots_boundedPart (n : Nat) (l : List Nat) : (s.closeSlots n l).boundedPart = s.boundedPart := by
  induction l generalizing s with
  | nil => rfl
  | cons slot rest ih =>
    unfold State.closeSlots
    repeat' split
    all_goals simp [ih]

@[simp] theorem State.cancelOrder_boundedPart (slot : Nat) (late service : Bool) (o : Order) :
    (s.cancelOrder slot late service o).boundedPart = s.boundedPart := State.closeOrder_boundedPart _ _ _ _

@[simp] theorem State.cancelSlots_boundedPart (l : List Nat) : (s.cancelSlots l).boundedPart = s.boundedPart := by
  induction l generalizing s with
  | nil => rfl
  | cons slot rest ih => unfold State.cancelSlots; split <;> simp [ih]

@[simp] theorem State.cancelByCommand_boundedPart (slot : Nat) (o : Order) : (s.cancelByCommand slot o).boundedPart = s.boundedPart := by
  simp [State.cancelByCommand]

@[simp] theorem State.closeReport_boundedPart (n : Nat) : (s.closeReport n).boundedPart = s.boundedPart := by
  unfold State.closeReport; split <;> simp

@[simp] theorem State.putTurnout_boundedPart (i : Nat) (x : Turnout) : (s.putTurnout i x).boundedPart = s.boundedPart := rfl

@[simp] theorem State.billTally_boundedPart (i : Nat) : (s.billTally i).boundedPart = s.boundedPart := by simp [State.billTally]

@[simp] theorem State.offerTally_boundedPart (i : Nat) : (s.offerTally i).boundedPart = s.boundedPart := by
  unfold State.offerTally; split <;> simp

@[simp] theorem State.offerTallies_boundedPart (l : List Nat) : (s.offerTallies l).boundedPart = s.boundedPart := by
  induction l generalizing s with
  | nil => rfl
  | cons i rest ih => rw [State.offerTallies, ih]; split <;> simp

@[simp] theorem State.dayClose_boundedPart : s.dayClose.boundedPart = s.boundedPart := by simp [State.dayClose]

@[simp] theorem State.moveItem_boundedPart (x : WaitItem) : (s.moveItem x).boundedPart = s.boundedPart := by
  unfold State.moveItem
  repeat' split
  all_goals simp

@[simp] theorem State.moveWait_boundedPart (n : Nat) : (s.moveWait n).boundedPart = s.boundedPart := by
  induction n generalizing s with
  | zero => rfl
  | succ n ih =>
    unfold State.moveWait
    repeat' split
    all_goals simp [ih]

@[simp] theorem State.releaseLog_boundedPart (n : Nat) : (s.releaseLog n).boundedPart = s.boundedPart := by simp [State.releaseLog]

@[simp] theorem State.billTallies_boundedPart (l : List Nat) : (s.billTallies l).boundedPart = s.boundedPart := by
  induction l generalizing s with
  | nil => rfl
  | cons i rest ih => rw [State.billTallies, ih, State.billTally_boundedPart]

@[simp] theorem State.seasonClose_boundedPart : s.seasonClose.boundedPart = s.boundedPart := by simp [State.seasonClose]

/-! ## Meters, attribution and turnouts (chapters 7 and 8) -/

@[simp] theorem State.closeMetersOnce_boundedPart (key : Nat) : (s.closeMetersOnce key).boundedPart = s.boundedPart := by
  unfold State.closeMetersOnce State.closeMeters
  repeat' split
  all_goals simp

@[simp] theorem State.closeGateOnce_boundedPart (key : Nat) : (s.closeGateOnce key).boundedPart = s.boundedPart :=
  State.withGate_boundedPart (Gate.closeOnce_window key)

@[simp] theorem State.attribute_boundedPart (k i : Nat) : (s.attribute k i).boundedPart = s.boundedPart := by
  unfold State.attribute
  dsimp only
  split <;> simp

@[simp] theorem State.attributeAll_boundedPart (k : Nat) (l : List Nat) : (s.attributeAll k l).boundedPart = s.boundedPart := by
  induction l generalizing s with
  | nil => rfl
  | cons i rest ih => rw [State.attributeAll, ih]; split <;> simp

@[simp] theorem State.outOfService_boundedPart (i : Nat) : (s.outOfService i).boundedPart = s.boundedPart := by
  unfold State.outOfService
  dsimp only
  split <;> simp [State.setService]

/-! ## The Time Base and the canal line (chapters 1 and 3) -/

@[simp] theorem State.moveTime_boundedPart (oldKey : Nat) (x : DistrictTime) : (s.moveTime oldKey x).boundedPart = s.boundedPart := by
  unfold State.moveTime
  dsimp only
  split <;> simp

@[simp] theorem State.catchUp_boundedPart : s.catchUp.boundedPart = s.boundedPart := by unfold State.catchUp; split <;> simp

theorem LineInterface.tick_attempt (l : LineInterface) (rate : Nat) : (l.tick rate).attempt = l.attempt := by
  unfold LineInterface.tick; split <;> rfl

@[simp] theorem State.tickElapsed_boundedPart : s.tickElapsed.boundedPart = s.boundedPart :=
  State.withLine_boundedPart (LineInterface.tick_attempt _ _)

@[simp] theorem State.tick_boundedPart : s.tick.boundedPart = s.boundedPart := by
  unfold State.tick
  dsimp only
  repeat' split
  all_goals simp

/-- A character leaves the attempt count (R38, R42). -/
theorem LineInterface.char_attempt (l : LineInterface) (b : Byte) (bad : Bool) : (l.char b bad).attempt = l.attempt := by
  unfold LineInterface.char LineInterface.readBack LineInterface.takeChar
  dsimp only
  repeat' split
  all_goals rfl

@[simp] theorem State.tryAttempt_boundedPart : s.tryAttempt.boundedPart = s.boundedPart := by
  unfold State.tryAttempt
  repeat' split
  all_goals rfl

@[simp] theorem State.enterRun_boundedPart : s.enterRun.boundedPart = s.boundedPart := by
  simp [State.enterRun, State.withLine_boundedPart]

/-! ## The Gate Controller (chapter 6) -/

theorem State.changeGate_boundedPart {f : Config.Settings → Nat → Gate → Gate}
    (h : ∀ c now g, (f c now g).window = g.window) : (s.changeGate f).boundedPart = s.boundedPart :=
  State.withGate_boundedPart (h _ _ _)

@[simp] theorem State.tripOnset_boundedPart : s.tripOnset.boundedPart = s.boundedPart := by unfold State.tripOnset; split <;> rfl

@[simp] theorem State.restartWatch_boundedPart : s.restartWatch.boundedPart = s.boundedPart := rfl

@[simp] theorem State.judgeGate_boundedPart : s.judgeGate.boundedPart = s.boundedPart := by
  unfold State.judgeGate
  dsimp only
  split
  · rw [State.raise_boundedPart]
    exact (State.withGate_boundedPart rfl).trans (State.raiseIf_boundedPart _ _)
  · exact State.raiseIf_boundedPart _ _

end

end Sys2Proof.Machine
end
section
/-! Every command and every step keeps the bounded collections within their sizes, and the mask marks of GATE_TRIP and GATE_FAULT clear
(R42, R44, R92, R109, R110, R132, R136, R170, R178). -/

namespace Sys2Proof.Machine

/-! ## The two invariants in the bounded part -/

/-- The mask marks of the two level-3 causes are clear. -/
def BoundedPart.MasksGood (p : BoundedPart) : Prop := hasCause p.masks .gateTrip = false ∧ hasCause p.masks .gateFault = false

/-- Every collection is within its size. -/
def BoundedPart.Sized (p : BoundedPart) : Prop :=
  p.buffer.length ≤ 2 ∧ p.history.length ≤ 2 ∧ p.window.length ≤ 8 ∧ p.attempt < 6 ∧ p.queue.length ≤ 3

/-- The oldest entry of the balance queue, if there is one, is incomplete. -/
def HeadIncomplete (queue : List BalanceEntry) : Prop := ∀ e, queue.head? = some e → e.complete = false

def BoundedPart.Good (p : BoundedPart) : Prop := p.Sized ∧ HeadIncomplete p.queue

theorem State.masksGood_iff {s : State} : s.alerts.MasksGood ↔ s.boundedPart.MasksGood := Iff.rfl

theorem State.bounded_iff {s : State} : s.Bounded ↔ s.boundedPart.Good := by
  simp only [State.Bounded, CloseUnit.QueueGood, BoundedPart.Good, BoundedPart.Sized, HeadIncomplete, State.boundedPart, and_assoc]

/-- From one bounded part to the next both invariants are kept. -/
def BoundedPart.Leads (p q : BoundedPart) : Prop := (p.MasksGood → q.MasksGood) ∧ (p.Good → q.Good)

section

variable {p q r : BoundedPart}

theorem BoundedPart.Leads.of_eq (h : q = p) : p.Leads q := h ▸ ⟨id, id⟩

theorem BoundedPart.Leads.trans (h : p.Leads q) (h' : q.Leads r) : p.Leads r := ⟨h'.1 ∘ h.1, h'.2 ∘ h.2⟩

/-- Another change than that of the mask marks keeps the bounds when it keeps the sizes and the head of the queue. -/
theorem BoundedPart.Leads.of_good (hmasks : q.masks = p.masks) (h : p.Good → q.Good) : p.Leads q :=
  ⟨fun hp => by rwa [BoundedPart.MasksGood, hmasks], h⟩

/-- The mask marks after a change of them alone. -/
theorem BoundedPart.Leads.of_masks {m : BitVec 17} (h : ({ p with masks := m } : BoundedPart).MasksGood) :
    p.Leads { p with masks := m } := ⟨fun _ => h, id⟩

theorem BoundedPart.Leads.of_buffer {b : List LinkFrame} (h : p.buffer.length ≤ 2 → b.length ≤ 2) :
    p.Leads { p with buffer := b } :=
  .of_good rfl fun ⟨⟨hbuffer, hrest⟩, hhead⟩ => ⟨⟨h hbuffer, hrest⟩, hhead⟩

theorem BoundedPart.Leads.of_attempt {n : Nat} (h : p.attempt < 6 → n < 6) : p.Leads { p with attempt := n } :=
  .of_good rfl fun ⟨⟨hbuffer, hhistory, hwindow, hattempt, hqueue⟩, hhead⟩ => ⟨⟨hbuffer, hhistory, hwindow, h hattempt, hqueue⟩, hhead⟩

theorem BoundedPart.Leads.of_window {w : List (Nat × Nat)} (h : p.window.length ≤ 8 → w.length ≤ 8) :
    p.Leads { p with window := w } :=
  .of_good rfl fun ⟨⟨hbuffer, hhistory, hwindow, hattempt, hqueue⟩, hhead⟩ => ⟨⟨hbuffer, hhistory, h hwindow, hattempt, hqueue⟩, hhead⟩

/-- The part at entry to LOADING and at a start: the collections empty, the attempt count 0. -/
theorem BoundedPart.Leads.of_empty {m : BitVec 17} (h : p.MasksGood → hasCause m .gateTrip = false ∧ hasCause m .gateFault = false) :
    p.Leads { masks := m, buffer := [], attempt := 0, history := [], queue := [], window := [] } :=
  ⟨h, fun _ => ⟨by simp [BoundedPart.Sized], by simp [HeadIncomplete]⟩⟩

end

/-- Both invariants are kept from one state to the next. -/
def Keeps (s t : State) : Prop := s.boundedPart.Leads t.boundedPart

section

variable {s t u : State}

theorem Keeps.of_eq (h : t.boundedPart = s.boundedPart) : Keeps s t := BoundedPart.Leads.of_eq h

theorem Keeps.trans (h : Keeps s t) (h' : Keeps t u) : Keeps s u := BoundedPart.Leads.trans h h'

/-- A state that is followed by another with the same bounded part. -/
theorem Keeps.then_eq (h : Keeps s t) (h' : u.boundedPart = t.boundedPart) : Keeps s u := h.trans (.of_eq h')

/-- A state that comes from another with the same bounded part. -/
theorem Keeps.after (h : Keeps t u) (h' : t.boundedPart = s.boundedPart) : Keeps s u := (Keeps.of_eq h').trans h

/-! ## The balance queue (R136 to R138) -/

/-- An evaluation of all entries leaves no more of them, and an incomplete one first. -/
theorem CloseUnit.drain_queue (tolerance : Nat) {n : Nat} {x : CloseUnit} (h : x.queue.length ≤ n) :
    (x.drain tolerance n).1.queue.length ≤ x.queue.length ∧ HeadIncomplete (x.drain tolerance n).1.queue := by
  induction n generalizing x with
  | zero => simp [CloseUnit.drain, HeadIncomplete, List.eq_nil_of_length_eq_zero (Nat.le_zero.1 h)]
  | succ n ih =>
    cases hq : x.queue with
    | nil => simp [CloseUnit.drain, HeadIncomplete, hq]
    | cons e rest =>
      cases hc : e.complete with
      | false =>
        have hhead : HeadIncomplete x.queue := by simp [HeadIncomplete, hq, hc]
        rw [CloseUnit.drain_of_incomplete tolerance _ hhead]
        exact ⟨Nat.le_of_eq (by rw [hq]), hhead⟩
      | true =>
        rw [CloseUnit.drain_of_complete tolerance n hq hc]
        have hrest : rest.length ≤ n := by simpa [hq] using h
        obtain ⟨hlength, hhead⟩ := ih (x := CloseUnit.evaluate tolerance { x with queue := rest } e) (by simpa using hrest)
        rw [CloseUnit.evaluate_queue] at hlength
        exact ⟨hlength.trans (by simp), hhead⟩

theorem State.drainQueue_boundedPart (s : State) : s.drainQueue.boundedPart = { s.boundedPart with queue := s.drainQueue.close.queue } := by
  have hhistory : s.drainQueue.close.history = s.close.history := (CloseUnit.periodPart_eq_iff.1 s.drainQueue_periodPart).2.2.1
  have hmasks : s.drainQueue.alerts.masks = s.alerts.masks := by rw [State.drainQueue, State.raiseIf_alerts]; rfl
  simp [State.boundedPart, hhistory, hmasks]

/-- An evaluation of the queue leaves it good, whatever entries it held. -/
theorem State.drainQueue_good (h : s.boundedPart.Sized) : s.drainQueue.boundedPart.Good := by
  have hqueue : s.drainQueue.close.queue = (s.close.drain s.settings.reach.lossTolerance s.close.queue.length).1.queue := by
    simp [State.drainQueue]
  obtain ⟨hlength, hhead⟩ := CloseUnit.drain_queue s.settings.reach.lossTolerance (Nat.le_refl s.close.queue.length)
  obtain ⟨hbuffer, hhistory, hwindow, hattempt, hsize⟩ := h
  rw [State.drainQueue_boundedPart, hqueue]
  exact ⟨⟨hbuffer, hhistory, hwindow, hattempt, hlength.trans hsize⟩, hhead⟩

/-- An evaluation of the queue keeps the invariants after another history and another queue within their sizes. -/
theorem State.drainQueue_keeps {history : List ClosingPair} {queue : List BalanceEntry}
    (ht : t.boundedPart = { s.boundedPart with history := history, queue := queue })
    (h : s.boundedPart.Good → history.length ≤ 2 ∧ queue.length ≤ 3) : Keeps s t.drainQueue := by
  refine .of_good (by rw [State.drainQueue_boundedPart, ht]) fun hgood => State.drainQueue_good ?_
  obtain ⟨hhistory, hqueue⟩ := h hgood
  obtain ⟨⟨hbuffer, -, hwindow, hattempt, -⟩, -⟩ := hgood
  rw [ht]
  exact ⟨hbuffer, hhistory, hwindow, hattempt, hqueue⟩

theorem State.offerPairs_keeps (s : State) (k : Nat) (pairs : List ClosingPair) : Keeps s (s.offerPairs k pairs) := by
  refine State.drainQueue_keeps (queue := pairs.foldl (fun q p => q.map (·.offer k p)) s.close.queue) rfl
    fun ⟨⟨_, hhistory, _, _, hqueue⟩, _⟩ => ⟨hhistory, ?_⟩
  rwa [foldl_map_offer, List.length_map]

/-- A queue of at most 3 entries, an incomplete one first, holds at most 3 after a join. -/
theorem CloseUnit.length_join_queue_le {x : CloseUnit} (h : x.queue.length ≤ 3) (hhead : HeadIncomplete x.queue) (e : BalanceEntry) :
    (x.join e).queue.length ≤ 3 := by
  rcases Nat.lt_or_ge x.queue.length 3 with hroom | hfull
  · rw [CloseUnit.join_of_room (.inl hroom)]
    simp
    omega
  · cases hq : x.queue with
    | nil => simp [hq] at hfull
    | cons first rest =>
      have hfirst : first.complete = false := hhead first (by rw [hq]; rfl)
      rw [CloseUnit.join_of_full (pre := []) hfull hq (by simp) hfirst]
      simpa [hq] using h

section

variable {x : CloseUnit} {k n : Nat} {gate : ClosingPair} {level : Option Nat} {e : BalanceEntry}

/-- The history after a close holds the pair and at most one before it (R132). -/
theorem CloseUnit.length_closed_history_le : (x.closed k n gate level e).history.length ≤ 2 := by
  rw [CloseUnit.closed, CloseUnit.join_eq]
  exact List.length_take_le 2 _

theorem CloseUnit.length_closed_queue_le (h : x.queue.length ≤ 3) (hhead : HeadIncomplete x.queue) :
    (x.closed k n gate level e).queue.length ≤ 3 := by
  rw [CloseUnit.closed]
  refine CloseUnit.length_join_queue_le ?_ ?_ e
  · exact h
  · exact hhead

end

/-- The close of a period: what comes before the evaluation leaves the part but for the pair and the entry that join. -/
theorem State.closePeriod_keeps (s : State) (n : Nat) : Keeps s (s.closePeriod n) := by
  unfold State.closePeriod
  split
  · exact .of_eq rfl
  · dsimp only
    generalize hu : State.closeReport _ n = u
    have hpart : u.boundedPart = s.boundedPart := by simp [← hu]
    have hclose : u.close = s.close := by simp [← hu]
    have hdrained : ∀ gate level e, Keeps s ((u.withClose (u.close.closed s.close.openKey n gate level e)).requestReach).drainQueue := by
      intro gate level e
      refine State.drainQueue_keeps (history := (u.close.closed s.close.openKey n gate level e).history)
        (queue := (u.close.closed s.close.openKey n gate level e).queue) ?_ fun ⟨⟨_, _, _, _, hqueue⟩, hhead⟩ => ?_
      · rw [State.requestReach_boundedPart, ← hpart]
        rfl
      · rw [hclose]
        exact ⟨CloseUnit.length_closed_history_le, CloseUnit.length_closed_queue_le hqueue hhead⟩
    split
    · exact (hdrained _ _ _).then_eq State.recompute_boundedPart
    · exact hdrained _ _ _

theorem State.settleMeters_keeps (s : State) : Keeps s s.settleMeters := by
  unfold State.settleMeters
  split
  · exact List.foldlRecOn (motive := Keeps s) _ _ (.of_eq rfl) fun t ht e _ =>
      (ht.trans (t.closePeriod_keeps _)).then_eq (State.closeMetersOnce_boundedPart _)
  · exact .of_eq rfl

theorem State.settleGate_keeps (s : State) : Keeps s s.settleGate := by
  unfold State.settleGate
  split
  · exact List.foldlRecOn (motive := Keeps s) _ _ (.of_eq rfl) fun t ht e _ =>
      (ht.trans (t.closePeriod_keeps _)).then_eq (State.closeGateOnce_boundedPart _)
  · exact .of_eq rfl

/-! ## The notices (R40, R54 to R58) -/

theorem State.handPairs_keeps (s : State) (role : Role) (f : ReachFields) : Keeps s (s.handPairs role f) := by
  cases role with
  | upstream => exact .of_eq rfl
  | downstream j => exact s.offerPairs_keeps _ _

theorem State.acceptNotice_keeps (s : State) (i : Nat) (e : Entry) (f : ReachFields) : Keeps s (s.acceptNotice i e f) := by
  rw [State.acceptNotice_eq]
  generalize hv : (if e.state = .fresh then _ else _ : State) = v
  have hpart : v.boundedPart = s.boundedPart := by rw [← hv]; split <;> rfl
  have hhanded : Keeps s (v.handPairs e.role f) := Keeps.trans (.of_eq hpart) (v.handPairs_keeps _ _)
  split
  · exact hhanded.then_eq State.recompute_boundedPart
  · exact hhanded

theorem State.takeNotice_keeps (s : State) (n : Notice) : Keeps s (s.takeNotice n) := by
  cases n with
  | watch sender key watchEnd =>
    unfold State.takeNotice
    dsimp only
    split
    · exact .of_eq rfl
    · exact .of_eq (State.mergeWatch_boundedPart _)
  | reach sender f =>
    by_cases hrun : s.startup.state = .run
    · cases hi : s.neigh.indexOf sender with
      | none =>
        rw [State.takeNotice_reach_of_stranger hrun hi]
        split
        · exact .of_eq (State.mergeWatch_boundedPart _)
        · exact .of_eq rfl
      | some i =>
        obtain ⟨e, he⟩ := NeighbourTable.getElem?_of_indexOf hi
        rw [State.takeNotice_reach_of_neighbour hrun he hi]
        split
        · exact (s.acceptNotice_keeps i e f).then_eq (State.mergeWatch_boundedPart _)
        · exact .of_eq rfl
    · rw [State.takeNotice_reach_of_not_run hrun]
      exact .of_eq (State.mergeWatch_boundedPart _)

/-! ## The attempts and the samples (R42, R44, R46, R92, R93) -/

/-- The sixth collision begins the count anew (R44). -/
theorem State.collide_keeps (s : State) : Keeps s s.collide := by
  rcases Nat.lt_or_ge (s.line.attempt + 1) 6 with h | h
  · rw [State.collide_of_lt h]
    exact .of_attempt fun _ => h
  · rw [State.collide_of_ge h]
    exact .of_attempt (n := 0) fun _ => by decide

theorem State.completeNotice_keeps (s : State) : Keeps s s.completeNotice := by
  have hpart : s.completeNotice.boundedPart = { s.boundedPart with attempt := 0 } := by
    unfold State.completeNotice
    dsimp only
    split <;> rfl
  rw [Keeps, hpart]
  exact .of_attempt fun _ => by decide

theorem State.takeSample_keeps (s : State) (u d : Nat) : Keeps s (s.takeSample u d) := by
  have hgate : Keeps s (s.changeGate fun c now g => g.goodSample c now s.running u d) := by
    refine BoundedPart.Leads.of_window (w := (s.gate.goodSample s.settings s.time.elapsed s.running u d).window) fun h => ?_
    rw [Gate.goodSample_window]
    exact length_joinWindow_le h _
  unfold State.takeSample
  dsimp only
  split
  · exact hgate.then_eq (by simp)
  · exact hgate.then_eq (by simp)

theorem State.missSample_keeps (s : State) : Keeps s s.missSample := by
  have hgate : Keeps s (s.changeGate fun c now g => g.missedSample c now s.running) := by
    refine BoundedPart.Leads.of_window (w := (s.gate.missedSample s.settings s.time.elapsed s.running).window) fun h => ?_
    rcases Gate.missedSample_window (c := s.settings) (now := s.time.elapsed) (g := s.gate) s.running with hw | hw
    · rwa [hw]
    · simp [hw]
  exact hgate.then_eq (State.raiseIf_boundedPart _ _)

/-! ## LOADING and the starts (R51, R92, R109, R110, R170, R174, R179) -/

theorem State.enterLoading_keeps (s : State) : Keeps s s.enterLoading := .of_empty id

/-- Both kinds of start empty the collections and take the mask marks of the image. -/
theorem State.startBlocks_boundedPart (c : Config.Settings) (kind : StartKind) (planKey : Nat) :
    (s.startBlocks c kind planKey).boundedPart =
      { masks := c.alert.masks, buffer := [], attempt := 0, history := [], queue := [], window := [] } := by
  rw [State.startBlocks, State.judgeGate_boundedPart, State.raiseIf_boundedPart]
  simp [State.boundedPart, Gate.judgeLimits_window, startAlerts, startLine, resetLine, resetClose, Gate.atStart, resetGate,
    StationLink.atStart, StationLink.emptied, Alerts.raise]

/-- The mask marks of an image are read with those of the level-3 causes clear (log 17: PRESUMED). -/
theorem readImage_masks (image : List Byte) : hasCause (readImage image).settings.alert.masks .gateTrip = false ∧
    hasCause (readImage image).settings.alert.masks .gateFault = false := by
  simp [readImage, readAlert, hasCause_clearLevel3]

/-- A start leaves the collections empty, whatever it found. -/
theorem State.startWith_boundedPart (m : Image) : (s.startWith m).boundedPart =
    { masks := m.settings.alert.masks, buffer := [], attempt := 0, history := [], queue := [], window := [] } := by
  unfold State.startWith
  split
  · simp [State.coldStart, State.markCold, State.coldBlocks, State.startBlocks_boundedPart]
  · simp [State.warmStart, State.startBlocks_boundedPart]

theorem State.startWith_keeps (s : State) (image : List Byte) : Keeps s (s.startWith (readImage image)) := by
  rw [Keeps, State.startWith_boundedPart]
  exact .of_empty fun _ => readImage_masks image

theorem State.takeMemoryImage_keeps (image : List Byte) : Keeps s (s.takeMemoryImage image) := by
  unfold State.takeMemoryImage
  split
  · exact s.startWith_keeps image
  · split <;> exact .of_eq rfl

theorem State.endLoad_keeps : Keeps s s.endLoad.state := by
  unfold State.endLoad State.takeLinkImage
  split
  · exact .of_eq rfl
  · rw [State.accept_state]
    split
    · exact s.startWith_keeps _
    · exact .of_eq rfl

/-- CONFIG_DATA in CONFIG_FAULT empties the input buffer (R170). -/
theorem State.loadBytes_keeps (offset : Nat) (bytes : List Byte) : Keeps s (s.loadBytes offset bytes).state := by
  unfold State.loadBytes
  dsimp only
  split
  · exact .of_eq rfl
  · split
    · exact .of_eq rfl
    · split
      · exact BoundedPart.Leads.of_buffer (b := []) fun _ => by simp
      · exact .of_eq rfl

theorem State.takeTimeSet_keeps (t : DistrictTime) : Keeps s (s.takeTimeSet t).state := by
  refine .of_eq ?_
  unfold State.takeTimeSet
  repeat' split
  · rfl
  · simp only [State.firstTime, State.accept_state, State.enterRun_boundedPart]
    rfl
  · simp [State.setTime]
  · rfl

/-! ## The station link and the alerts (R168, R170, R175, R178) -/

theorem StationLink.takeChar_buffer (l : StationLink) (chars : List Byte) (bad : Bool) : (l.takeChar chars bad).buffer = l.buffer := by
  unfold StationLink.takeChar
  dsimp only
  repeat' split
  all_goals rfl

/-- A character leaves the input buffer: a complete frame joins it by its own event. -/
theorem StationLink.char_buffer (l : StationLink) (now : Nat) (b : Byte) (bad : Bool) : (l.char now b bad).buffer = l.buffer := by
  unfold StationLink.char
  dsimp only
  repeat' split
  · rfl
  · rfl
  · exact StationLink.takeChar_buffer _ _ _

theorem StationLink.length_join_buffer_le {l : StationLink} (h : l.buffer.length ≤ 2) (f : LinkFrame) : (l.join f).buffer.length ≤ 2 := by
  rcases Nat.lt_or_ge l.buffer.length 2 with hroom | hfull
  · rw [StationLink.join_of_room hroom]
    simp
    omega
  · rwa [StationLink.join_of_full hfull]

/-- A link that differs in the input buffer keeps the invariants when it keeps two entries. -/
theorem State.withLink_keeps {l : StationLink} (h : s.link.buffer.length ≤ 2 → l.buffer.length ≤ 2) : Keeps s (s.withLink l) :=
  BoundedPart.Leads.of_buffer h

theorem State.answer_boundedPart (kind : Byte) (result : ResultCode) (data : List Byte) (entry : Bool) :
    (s.answer kind result data entry).boundedPart = s.boundedPart := State.withLink_boundedPart rfl

/-- A mask command takes the marks of the level-3 causes as clear (R178). -/
theorem State.takeMask_keeps (marks : BitVec 24) : Keeps s (s.takeMask marks).state := by
  unfold State.takeMask
  split
  · exact .of_eq rfl
  · exact BoundedPart.Leads.of_masks (by simp [BoundedPart.MasksGood, hasCause_clearLevel3])

theorem State.takeAck_keeps (marks : BitVec 24) : Keeps s (s.takeAck marks).state := by
  unfold State.takeAck
  split
  · exact .of_eq rfl
  · exact .of_eq (State.moderate_boundedPart.trans (State.withAlerts_boundedPart rfl))

/-! ## The other owners, which leave the part -/

theorem State.takeAccount_boundedPart (index allotment limit state : Nat) :
    (s.takeAccount index allotment limit state).state.boundedPart = s.boundedPart := by
  unfold State.takeAccount
  dsimp only
  repeat' split
  all_goals rfl

theorem State.takeRates_boundedPart (table : RateTable) : (s.takeRates table).state.boundedPart = s.boundedPart := by
  unfold State.takeRates; split <;> rfl

theorem State.takeSeasonClose_boundedPart : s.takeSeasonClose.state.boundedPart = s.boundedPart := by
  unfold State.takeSeasonClose
  repeat' split
  all_goals simp

theorem State.takeOrder_boundedPart (r : OrderRequest) : (s.takeOrder r).state.boundedPart = s.boundedPart := by
  unfold State.takeOrder
  repeat' split
  all_goals simp [State.enterOrder]

theorem State.takeCancel_boundedPart (number : Nat) : (s.takeCancel number).state.boundedPart = s.boundedPart := by
  unfold State.takeCancel
  repeat' split
  all_goals simp

theorem State.takeShutoff_boundedPart (number : Nat) : (s.takeShutoff number).state.boundedPart = s.boundedPart := by
  unfold State.takeShutoff
  repeat' split
  all_goals simp

theorem State.takeService_boundedPart (i direction : Nat) : (s.takeService i direction).state.boundedPart = s.boundedPart := by
  unfold State.takeService
  repeat' split
  all_goals simp [State.setService]

theorem State.takeTurnoutAck_boundedPart (i : Nat) (marks : Byte) : (s.takeTurnoutAck i marks).state.boundedPart = s.boundedPart := by
  unfold State.takeTurnoutAck
  repeat' split
  all_goals rfl

theorem State.takeSupply_boundedPart (flow : Nat) : (s.takeSupply flow).state.boundedPart = s.boundedPart := by
  unfold State.takeSupply; split <;> simp

theorem State.takeTarget_boundedPart (level : Nat) : (s.takeTarget level).state.boundedPart = s.boundedPart := by
  unfold State.takeTarget
  repeat' split
  all_goals rfl

theorem State.declareWatch_boundedPart (key : Nat) : (s.declareWatch key).state.boundedPart = s.boundedPart := by
  unfold State.declareWatch; split <;> simp

theorem State.takeGateMode_boundedPart (mode opening : Nat) : (s.takeGateMode mode opening).state.boundedPart = s.boundedPart := by
  unfold State.takeGateMode
  split
  · rfl
  · exact State.changeGate_boundedPart fun _ _ _ => Gate.setMode_window _ _

theorem State.takeTripClear_boundedPart : s.takeTripClear.state.boundedPart = s.boundedPart := by
  unfold State.takeTripClear; dsimp only; split <;> rfl

theorem State.takeTimeTrim_boundedPart (seconds : Int) : (s.takeTimeTrim seconds).state.boundedPart = s.boundedPart := by
  unfold State.takeTimeTrim; split <;> simp

end

/-! ## Every command and every step -/

section

variable {s t : State}

/-- The answer of a command keeps the invariants. -/
def KeepsOut (s : State) (o : Out) : Prop := ∀ t, o = .next t → Keeps s t

theorem keepsOut_next (h : Keeps s t) : KeepsOut s (.next t) := by rintro _ ⟨⟩; exact h

/-- A next state with the same bounded part. -/
theorem keepsOut_same (h : t.boundedPart = s.boundedPart) : KeepsOut s (.next t) := keepsOut_next (.of_eq h)

/-- Two answers that a condition chooses between. -/
theorem keepsOut_if {p : Prop} [Decidable p] {a b : Out} (ha : KeepsOut s a) (hb : KeepsOut s b) : KeepsOut s (if p then a else b) := by
  split
  · exact ha
  · exact hb

/-- An event: under its condition it keeps the invariants, and otherwise it leaves the whole state. -/
theorem keepsOut_event {p : Prop} [Decidable p] (h : Keeps s t) : KeepsOut s (if p then .next t else .next s) :=
  keepsOut_if (keepsOut_next h) (keepsOut_same rfl)

/-- An event that leaves the bounded part. -/
theorem keepsOut_ite {p : Prop} [Decidable p] (h : t.boundedPart = s.boundedPart) : KeepsOut s (if p then .next t else .next s) :=
  keepsOut_event (.of_eq h)

section

variable {c : Instr} {kind : Byte} {k : Service} {body : Served}

/-- A served command keeps the invariants when its owner does: neither a refusal by the start state nor the reply changes them. -/
theorem keepsOut_serve (h : Keeps s body.state) : KeepsOut s (.next (s.serve c kind k body)) := by
  refine keepsOut_next ?_
  have hresult : Keeps s (s.result k body).state := by
    unfold State.result
    split
    · exact .of_eq rfl
    · exact h
  unfold State.serve
  split
  · exact hresult.then_eq (State.answer_boundedPart _ _ _ _)
  · exact .of_eq rfl

/-- A served command whose owner leaves the bounded part. -/
theorem keepsOut_serve_same (h : body.state.boundedPart = s.boundedPart) : KeepsOut s (.next (s.serve c kind k body)) :=
  keepsOut_serve (.of_eq h)

end

theorem execReplySent_keeps (s : State) : KeepsOut s (execReplySent s) := by
  unfold execReplySent
  split
  · exact keepsOut_same rfl
  · rename_i r _
    have hsent : Keeps s (s.withLink { s.link with
        reply := none, buffer := if r.entry then s.link.buffer.tail else s.link.buffer }) :=
      State.withLink_keeps fun h => by split <;> simp <;> omega
    exact keepsOut_if (keepsOut_next (hsent.trans (State.enterLoading_keeps _))) (keepsOut_next hsent)

theorem execLevelSample_keeps (record : List Byte) (s : State) : KeepsOut s (execLevelSample record s) := by
  refine keepsOut_if ?_ (keepsOut_same rfl)
  have hready : Keeps s s.settleGate.restartWatch := s.settleGate_keeps.then_eq (State.restartWatch_boundedPart)
  split
  · exact keepsOut_next (hready.trans (State.takeSample_keeps _ _ _))
  · exact keepsOut_next (hready.trans (State.missSample_keeps _))

end

/-- Every command keeps both invariants: those of the Line Interface, the close of a period, the samples, the input buffer, the mask marks
and the starts by their own lemmas; the others leave the bounded part. -/
theorem exec_keepsBounds (c : Instr) (s : State) : KeepsOut s (exec c s) := by
  cases c with
  -- the Billing Unit and the Order Book
  | billingDayClose =>
    simp only [exec, execBillingDayClose]
    split
    · exact keepsOut_ite (by simp)
    · exact keepsOut_same rfl
  | accountSet _ _ _ _ => exact keepsOut_serve_same (State.takeAccount_boundedPart _ _ _ _)
  | ratesStage _ => exact keepsOut_serve_same (State.takeRates_boundedPart _)
  | logRelease _ => exact keepsOut_serve_same (State.releaseLog_boundedPart _)
  | seasonClose => exact keepsOut_serve_same State.takeSeasonClose_boundedPart
  | orderPlace _ => exact keepsOut_serve_same (State.takeOrder_boundedPart _)
  | orderCancel _ => exact keepsOut_serve_same (State.takeCancel_boundedPart _)
  | orderShutoff _ => exact keepsOut_serve_same (State.takeShutoff_boundedPart _)
  | turnoutService _ _ => exact keepsOut_serve_same (State.takeService_boundedPart _ _)
  -- the closes of periods, by their event or before a pulse or a sample is counted
  | periodClose =>
    simp only [exec, execPeriodClose]
    split
    · exact keepsOut_event ((State.closePeriod_keeps _ _).after (State.withInbox_boundedPart _))
    · exact keepsOut_same rfl
  | meterPulse _ | noFlowExpiry _ => exact keepsOut_event (s.settleMeters_keeps.then_eq (State.putTurnout_boundedPart _ _))
  | levelSample record => exact execLevelSample_keeps record s
  | sampleWatchExpiry =>
    exact keepsOut_event ((s.settleGate_keeps.then_eq (State.restartWatch_boundedPart)).trans (State.missSample_keeps _))
  -- the Start-up Controller
  | imageReadComplete _ => exact keepsOut_event (State.takeMemoryImage_keeps _)
  | configEnd => exact keepsOut_serve State.endLoad_keeps
  | configData _ _ => exact keepsOut_serve (State.loadBytes_keeps _ _)
  | resetRelease _ _ _ =>
    exact keepsOut_next (((State.enterLoading_keeps _).after (State.withStartup_boundedPart _)).then_eq (State.withLink_boundedPart rfl))
  | supplyLoss => exact keepsOut_next (s.enterLoading_keeps.then_eq (State.withLink_boundedPart rfl))
  | restart => exact keepsOut_serve_same rfl
  | replySent => exact execReplySent_keeps s
  -- the Time Base
  | catchUp => exact keepsOut_same State.catchUp_boundedPart
  | periodBoundary => exact keepsOut_ite (by simp)
  | crystalStop => exact keepsOut_if (keepsOut_same rfl) (keepsOut_if (keepsOut_same rfl) (keepsOut_same rfl))
  | crystalRunning => exact keepsOut_if (keepsOut_same rfl) (keepsOut_same rfl)
  | timeSet _ _ _ _ => exact keepsOut_serve (State.takeTimeSet_keeps _)
  | timeTrim _ => exact keepsOut_serve_same (State.takeTimeTrim_boundedPart _)
  -- the other period events
  | planPeriodChange =>
    simp only [exec, execPlanPeriodChange]
    split
    · exact keepsOut_ite (by simp)
    · exact keepsOut_same rfl
  | gatePeriodBoundary =>
    simp only [exec, execGatePeriodBoundary]
    split
    · exact keepsOut_ite (State.withGate_boundedPart (Gate.boundary_window _))
    · exact keepsOut_same rfl
  | meterPeriodClose =>
    simp only [exec, execMeterPeriodClose]
    split
    · exact keepsOut_ite (by simp)
    · exact keepsOut_same rfl
  -- the Line Interface and the Neighbour Table
  | lineFrameReceived _ =>
    refine keepsOut_if ?_ (keepsOut_same rfl)
    split
    · exact keepsOut_next ((State.takeNotice_keeps _ _).after (State.withLine_boundedPart rfl))
    · exact keepsOut_same rfl
  | lineCharacterReceived _ _ => exact keepsOut_ite (State.withLine_boundedPart (LineInterface.char_attempt _ _ _))
  | lineFrameGap => exact keepsOut_ite rfl
  | accessGapReached | backoffExpiry => exact keepsOut_ite State.tryAttempt_boundedPart
  | collision => exact keepsOut_event s.collide_keeps
  | noticeComplete => exact keepsOut_event s.completeNotice_keeps
  | holdoffExpiry => exact keepsOut_ite (State.withLine_boundedPart (LineInterface.wake_attempt _ _))
  | noticeTimerExpiry => exact keepsOut_ite (State.requestReach_boundedPart.trans (State.withLine_boundedPart rfl))
  | holdExpiry _ => exact keepsOut_ite (State.loseEntry_boundedPart _)
  | noticeNow => exact keepsOut_serve_same State.requestReach_boundedPart
  | watchDeclare _ => exact keepsOut_serve_same (State.declareWatch_boundedPart _)
  -- the Gate Controller and the Planner
  | encoderStep _ => exact keepsOut_ite (State.changeGate_boundedPart fun _ _ _ => Gate.step_window _)
  | restExpiry => exact keepsOut_ite (State.changeGate_boundedPart fun _ _ _ => Gate.startRule_window)
  | stallExpiry =>
    exact keepsOut_ite ((State.raise_boundedPart _).trans (State.changeGate_boundedPart fun _ _ _ => Gate.setFault_window _))
  | tripWaitExpiry => exact keepsOut_ite (State.changeGate_boundedPart fun _ _ _ => Gate.tripAct_window)
  | limitInputChange openLimit active =>
    have hinput := State.withGate_boundedPart (s := s) (Gate.setLimit_window (g := s.gate) openLimit active)
    refine keepsOut_if (keepsOut_same rfl) (keepsOut_if (keepsOut_same hinput) (keepsOut_if (keepsOut_same ?_) (keepsOut_same ?_)))
    · rw [State.raiseIf_boundedPart, State.changeGate_boundedPart fun _ _ _ => Gate.limitActive_window _, hinput]
    · rw [State.changeGate_boundedPart fun _ _ _ => Gate.startRule_window, hinput]
  | supplyLowChange _ =>
    exact keepsOut_if (keepsOut_same rfl)
      (keepsOut_if (keepsOut_same (State.changeGate_boundedPart fun _ _ _ => Gate.supplyLowChanged_window)) (keepsOut_same rfl))
  | tripInputChange _ =>
    exact keepsOut_if (keepsOut_same rfl) (keepsOut_if (keepsOut_same State.tripOnset_boundedPart) (keepsOut_same rfl))
  | gateMode _ _ => exact keepsOut_serve_same (State.takeGateMode_boundedPart _ _)
  | tripClear => exact keepsOut_serve_same State.takeTripClear_boundedPart
  | supplySet _ => exact keepsOut_serve_same (State.takeSupply_boundedPart _)
  | targetStage _ => exact keepsOut_serve_same (State.takeTarget_boundedPart _)
  | turnoutAck _ _ => exact keepsOut_serve_same (State.takeTurnoutAck_boundedPart _ _)
  -- the Station Link and the alerts
  | linkCharacterReceived _ _ => exact keepsOut_ite (State.withLink_boundedPart (StationLink.char_buffer _ _ _ _))
  | linkFrameReceived _ _ => exact keepsOut_event (State.withLink_keeps fun h => StationLink.length_join_buffer_le (by exact h) _)
  | linkFrameGap | moderationExpiry => exact keepsOut_ite rfl
  | check _ | unknownCommand _ | bookList | logRead _ | alertRead => exact keepsOut_serve_same rfl
  | alertAck _ => exact keepsOut_serve (State.takeAck_keeps _)
  | alertMask _ => exact keepsOut_serve (State.takeMask_keeps _)
  | statusRead _ | planRead _ | orderQuery _ | accountQuery _ | turnoutQuery _ =>
    exact keepsOut_serve_same (by rw [State.read_state])

/-- A step keeps both invariants: the queue and the passing of time leave the bounded part. -/
theorem step_keepsBounds {s t : State} (h : step s = .next t) : Keeps s t := by
  unfold step at h
  split at h
  case h_1 c rest _ => exact exec_keepsBounds c (s.withPending rest) t h
  case h_2 =>
    split at h
    case h_1 c _ => exact exec_keepsBounds c s t h
    case h_2 =>
      cases h
      exact .of_eq State.tick_boundedPart

/-- Settles O6: the marks are kept clear, and a pending cause of level 3 asserts the line by itself. -/
theorem stepKeepsLevel3Unmasked : Obligations.StepKeepsLevel3Unmasked := by
  refine ⟨fun s t hmasks hstep => (step_keepsBounds hstep).1 hmasks, fun s hstate hpending => ?_⟩
  rcases hpending with h | h
  · exact State.alertLine_of_level3 hstate h rfl
  · exact State.alertLine_of_level3 hstate h rfl

/-- Settles O7, in the bounded part of the state. -/
theorem stepKeepsBounds : Obligations.StepKeepsBounds := by
  intro s t hbounded hstep
  exact State.bounded_iff.2 ((step_keepsBounds hstep).2 (State.bounded_iff.1 hbounded))

end Sys2Proof.Machine
end
section
/-! Reset, the entries to LOADING, the end of a reply and the link load (R50, R51, R169, R170, R179 to R183, R186). -/

namespace Sys2Proof.Machine

section

variable {s : State}

/-! ## LOADING (R179, R182, section 11.3) -/

/-- The source that the latched straps choose: MEMORY for START 00 and 10, LINK for 01 and 11 (R179). -/
theorem loadSource_eq (start : BitVec 2) : loadSource start = if start = 0 ∨ start = 2 then .memory else .link := by
  revert start; decide

/-- The part in LOADING after a reset or a loss of supply: what is not retained is gone, a part frame of the station link too (log 27:
DESIGN CHOICE), and the Start-up Controller is left as `u` at the beginning of a load (R180). -/
def State.stopped (s : State) (u : StartUp) : State :=
  (s.clearVolatile.withStartup { u with state := .loading, failing := none, image := [], catchUpDue := false }).withLink
    { s.link.emptied with rx := .hunt }

/-- RESET_RELEASE latches the straps; a backup cell that failed leaves the marker INVALID (R179, R183). -/
theorem exec_resetRelease (start : BitVec 2) (forceCold held : Bool) :
    exec (.resetRelease start forceCold held) s = .next (s.stopped { s.startup with
      powered := true, start := start, forceCold := forceCold, source := loadSource start
      marker := { s.startup.marker with valid := s.startup.marker.valid && held } }) := rfl

/-- SUPPLY_LOSS leaves the straps and the marker (R182). -/
theorem exec_supplyLoss :
    exec .supplyLoss s = .next (s.stopped { s.startup with powered := false, source := loadSource s.startup.start }) := rfl

/-- A turnout keeps its in-service flag, its tally and its due mark (R128). -/
theorem State.stopped_turnout (u : StartUp) {i : Nat} {x : Turnout} (h : s.meters.turnouts[i]? = some x) :
    (s.stopped u).meters.turnouts[i]? = some x.kept :=
  List.getElem?_map.trans (congrArg (Option.map Turnout.kept) h)

end

/-- Settles O45: both events stop the part, which keeps every retained item. -/
theorem resetAndSupplyLoss : Obligations.ResetAndSupplyLoss := by
  intro s start forceCold held kept
  have hkept : ∀ u : StartUp, u.lastStart = s.startup.lastStart → kept (s.stopped u) := fun u hlast =>
    ⟨rfl, rfl, rfl, rfl, rfl, rfl, rfl, rfl, rfl, fun _ x hx => ⟨x.kept, State.stopped_turnout u hx, rfl, rfl, rfl⟩,
      rfl, rfl, rfl, hlast, rfl, rfl, rfl, rfl, rfl, rfl, rfl, rfl, rfl, rfl⟩
  refine ⟨⟨_, exec_resetRelease start forceCold held, hkept _ rfl, rfl, rfl, rfl, ?_, rfl⟩, _, exec_supplyLoss, hkept _ rfl, rfl, rfl⟩
  exact loadSource_eq start

/-! ## The machine right after reset (R179) -/

/-- No slot holds an order after reset. -/
theorem State.reset_at? (slot : Nat) : State.reset.book.at? slot = none := by
  change ((List.replicate 48 (none : Option Order))[slot]?).join = none
  rw [List.getElem?_replicate]
  split <;> rfl

/-- Settles O4: every collection is empty and no timer of the drive runs. -/
theorem resetIsLoading : Obligations.ResetIsLoading := by
  have hlog : State.reset.billing.LogGood := ⟨by decide, by decide, by decide, fun i r h => absurd h (by simp [State.reset])⟩
  have hqueue : State.reset.close.QueueGood := ⟨by decide, fun e h => absurd h (by simp [State.reset, resetClose])⟩
  have hrest : State.reset.RestKept :=
    ⟨fun x h => absurd h (by simp [State.reset, resetGate]), fun _ x h => absurd h (by simp [State.reset, resetGate]),
      fun h => absurd h (by decide)⟩
  have hnumbers : State.reset.book.NumbersDistinct := fun i _ o _ h => absurd h (by simp [State.reset_at?])
  have hwait : State.reset.billing.waitList = [] := rfl
  refine ⟨rfl, rfl, rfl, rfl, rfl, rfl, rfl, rfl, rfl, rfl, rfl, rfl, rfl, hlog, fun h => absurd hwait h, ⟨rfl, rfl⟩,
    ⟨by decide, by decide, by decide, by decide, hqueue⟩, hrest, hnumbers, ?_⟩
  exact ⟨hwait ▸ List.nodup_nil, fun _ h => absurd h (hwait ▸ List.not_mem_nil), fun _ h => absurd h (hwait ▸ List.not_mem_nil)⟩

section

variable {s : State}

/-! ## RESTART, NOTICE_NOW and REPLY_SENT (R50, R169, R170, R186) -/

/-- RESTART in RUN changes nothing but the reply. -/
theorem exec_restart (hrun : s.running = true) : exec .restart s = s.replies .restart 0x22 [] :=
  State.serve_run_accept hrun rfl

/-- NOTICE_NOW in RUN makes a REACH request. -/
theorem exec_noticeNow (hrun : s.running = true) : exec .noticeNow s = s.requestReach.replies .noticeNow 0x23 [] :=
  State.serve_run_accept hrun rfl

/-- The last character of a reply frees the entry of its command; after the OK of a RESTART the part enters LOADING. -/
theorem exec_replySent {r : Reply} (h : s.link.reply = some r) :
    let t := s.withLink { s.link with reply := none, buffer := if r.entry = true then s.link.buffer.drop 1 else s.link.buffer }
    exec .replySent s = if r.kind = 0x22 ∧ r.result = .ok then .next t.enterLoading else .next t := by
  simp only [exec, execReplySent, h, List.drop_one]

end

/-- Settles O43. -/
theorem restartNoticeAndReplySent : Obligations.RestartNoticeAndReplySent := by
  refine ⟨fun s hrun => ⟨exec_restart hrun, ?notice⟩, fun s r hr => ⟨fun h => ?kept, fun h => ?restart⟩⟩
  case notice =>
    rw [exec_noticeNow hrun, State.requestReach_of_running hrun]
    rfl
  case kept => exact (exec_replySent hr).trans (if_neg h)
  case restart => exact (exec_replySent hr).trans (if_pos h)

/-! ## The link load (R180, R181) -/

section

variable {s : State} {offset : Nat} {bytes : List Byte}

/-- CONFIG_DATA in LOADING and CONFIG_FAULT is answered with what the load makes of it. -/
theorem exec_configData (hp : s.startup.powered = true) (h : s.startup.state = .loading ∨ s.startup.state = .configFault)
    (offset : Nat) (bytes : List Byte) :
    let r := s.loadBytes offset bytes
    exec (.configData offset bytes) s = .next (r.state.answer 0x30 r.result r.data (r.state.atHead (.configData offset bytes))) :=
  congrArg _ (State.serve_load _ _ _ hp h)

/-- CONFIG_END in LOADING and CONFIG_FAULT is answered with what the check makes of the bytes. -/
theorem exec_configEnd (hp : s.startup.powered = true) (h : s.startup.state = .loading ∨ s.startup.state = .configFault) :
    exec .configEnd s = .next (s.endLoad.state.answer 0x31 s.endLoad.result s.endLoad.data (s.endLoad.state.atHead .configEnd)) :=
  congrArg _ (State.serve_load _ _ _ hp h)

/-- While the image is read from MEMORY no bytes are taken. -/
theorem State.loadBytes_of_memory (h : s.startup.state = .loading ∧ s.startup.source = .memory) :
    s.loadBytes offset bytes = s.refuse .state := if_pos h

/-- Bytes out of place, past the longest image, none or too many. -/
theorem State.loadBytes_of_out (h : ¬(s.startup.state = .loading ∧ s.startup.source = .memory))
    (hout : s.startup.image.length < offset ∨ 8192 < offset + bytes.length ∨ bytes.length = 0 ∨ 512 < bytes.length) :
    s.loadBytes offset bytes = s.refuse .badValue := (if_neg h).trans (if_pos hout)

/-- Bytes that the load takes, in CONFIG_FAULT with an entry to LOADING (R170). -/
theorem State.loadBytes_of_in (h : ¬(s.startup.state = .loading ∧ s.startup.source = .memory))
    (hin : ¬(s.startup.image.length < offset ∨ 8192 < offset + bytes.length ∨ bytes.length = 0 ∨ 512 < bytes.length)) :
    s.loadBytes offset bytes =
      ((if s.startup.state = .configFault then s.withLink s.link.emptied else s).withStartup { s.startup with
        state := .loading, source := .link, failing := none, image := s.startup.image.take offset ++ bytes }).accept [] :=
  (if_neg h).trans (if_neg hin)

/-- While the image is read from MEMORY no load ends. -/
theorem State.endLoad_of_memory (h : s.startup.state = .loading ∧ s.startup.source = .memory) : s.endLoad = s.refuse .state :=
  if_pos h

/-- The check of the bytes of a link load (R181). -/
theorem State.endLoad_of_link (h : ¬(s.startup.state = .loading ∧ s.startup.source = .memory)) :
    s.endLoad = let t := s.takeLinkImage s.startup.image; t.accept t.startup.endData := if_neg h

/-- A failing section is sent with its identifier. -/
theorem StartUp.endData_of_failing {u : StartUp} {x : ImageSection} (h : u.failing = some x) :
    u.endData = [1, BitVec.ofNat 8 x.identifier, 0, 0] := by
  rw [StartUp.endData, h]; rfl

/-- A start that has been taken is sent with its kind. -/
theorem StartUp.endData_of_started {u : StartUp} {k : StartKind} (h : u.failing = none) (hk : u.lastStart = some k) :
    u.endData = [0, 0, 1, if k = .cold then 0 else 1] := by
  rw [StartUp.endData, h, hk]; cases k <;> rfl

/-- A start leaves the Start-up Controller with its kind and no failing section (R181, R183). -/
theorem State.startWith_startup (s : State) (m : Image) :
    (s.startWith m).startup.failing = none ∧ (s.startWith m).startup.lastStart = some (s.startKind m) := by
  unfold State.startWith
  cases s.startKind m with
  | cold => exact ⟨rfl, rfl⟩
  | warm => simp [State.warmStart]

end

/-- Settles O44: CONFIG_DATA by its place and size, CONFIG_END by the check of the bytes. -/
theorem linkLoad : Obligations.LinkLoad := by
  intro s hp hstate u link
  refine ⟨?data, ?endMemory, fun hlink => ⟨fun x hx => ?endFailed, fun hgood => ?endStarted⟩⟩
  case data =>
    intro offset bytes c
    refine ⟨fun hmemory => ?_, fun hlink => ⟨fun hoffset hlast hone hmany => ?_, fun hout => ?_⟩⟩
    · rw [exec_configData hp hstate, State.loadBytes_of_memory hmemory]
      rfl
    · have hin : ¬(u.image.length < offset ∨ 8192 < offset + bytes.length ∨ bytes.length = 0 ∨ 512 < bytes.length) := by omega
      rw [exec_configData hp hstate, State.loadBytes_of_in hlink hin]
      rcases hstate with h | h <;> simp only [h, reduceCtorEq, if_true, if_false, link, u] <;> rfl
    · rw [exec_configData hp hstate, State.loadBytes_of_out hlink hout]
      rfl
  case endMemory =>
    intro hmemory
    rw [exec_configEnd hp hstate, State.endLoad_of_memory hmemory]
    rfl
  case endFailed =>
    have hfault : s.takeLinkImage u.image = s.enterConfigFault x := by rw [State.takeLinkImage, hx]
    rw [exec_configEnd hp hstate, State.endLoad_of_link hlink, hfault]
    dsimp only
    rw [StartUp.endData_of_failing (x := x) rfl]
    rfl
  case endStarted =>
    have hstart : s.takeLinkImage u.image = s.startWith (readImage u.image) := by rw [State.takeLinkImage, hgood]
    obtain ⟨hfailing, hkind⟩ := s.startWith_startup (readImage u.image)
    rw [exec_configEnd hp hstate, State.endLoad_of_link hlink, hstart]
    dsimp only
    rw [StartUp.endData_of_started hfailing hkind]
    rfl

end Sys2Proof.Machine
end
section
/-! The configuration image: the place of every field, what each section's check asks of its fields, the order of the check, and the value
that an image gives (R52, R116, R144, R180, R181, R193). -/

namespace Sys2Proof.Machine

/-! ## Codes -/

/-- The account state of a code of the image. -/
theorem accountStateOf?_getD (code : Nat) :
    (accountStateOf? code).getD .good = if code = 1 then .hold else if code = 2 then .closed else .good := by
  unfold accountStateOf?
  split <;> simp_all

/-! ## Ranges and lists without repetition -/

/-- A range. -/
@[simp] theorem within_iff {lo hi v : Nat} : within lo hi v = true ↔ lo ≤ v ∧ v ≤ hi := by simp [within]

/-- A byte coded 0 or 1. -/
@[simp] theorem codedMark_iff {v : Nat} : codedMark v = true ↔ v ≤ 1 := by simp [codedMark]

/-- The check for values that stand twice. -/
theorem distinct_iff {xs : List Nat} : distinct xs = true ↔ xs.Nodup := by
  induction xs with
  | nil => simp [distinct]
  | cons x xs ih => simp [distinct, ih]

/-- The values at 0 to n - 1 that pass a test stand once each when none of them stands earlier. -/
theorem nodup_filter_map_range {f : Nat → Nat} {p : Nat → Bool} {n : Nat} :
    (((List.range n).map f).filter p).Nodup ↔ ∀ j, j < n → ∀ i, i < j → p (f j) = true → f i ≠ f j := by
  rw [List.Nodup, List.pairwise_filter, List.pairwise_map, List.pairwise_iff_getElem]
  simp only [List.length_range, List.getElem_range]
  constructor
  · intro h j hj i hij hp heq
    exact h i j (hij.trans hj) hj hij (heq ▸ hp) hp heq
  · intro h i j _ hj hij _ hp
    exact h j hj i hij hp

/-- The values at 0 to n - 1 stand once each when none of them stands earlier. -/
theorem nodup_map_range {f : Nat → Nat} {n : Nat} :
    ((List.range n).map f).Nodup ↔ ∀ j, j < n → ∀ i, i < j → f i ≠ f j := by
  have h := nodup_filter_map_range (f := f) (p := fun _ => true) (n := n)
  simpa using h

/-- The numbers of the formed entries, the upstream one first when it is not 0: the own number is none of them, and none stands twice. -/
theorem numbers_distinct_iff {up own n : Nat} {f : Nat → Nat} (hpos : ∀ j, j < n → 1 ≤ f j) :
    let numbers := (if up = 0 then [] else [up]) ++ (List.range n).map f
    own ∉ numbers ∧ numbers.Nodup ↔
      (up = 0 ∨ up ≠ own) ∧ ∀ j, j < n → f j ≠ own ∧ f j ≠ up ∧ ∀ i, i < j → f i ≠ f j := by
  intro numbers
  have hlast : own ∉ (List.range n).map f ↔ ∀ j, j < n → f j ≠ own := by simp
  by_cases hup : up = 0
  · have hnumbers : numbers = (List.range n).map f := by simp only [numbers, if_pos hup, List.nil_append]
    rw [hnumbers, hlast, nodup_map_range]
    exact ⟨fun ⟨hown, hsame⟩ => ⟨.inl hup, fun j hj => ⟨hown j hj, by have := hpos j hj; omega, hsame j hj⟩⟩,
      fun ⟨_, h⟩ => ⟨fun j hj => (h j hj).1, fun j hj => (h j hj).2.2⟩⟩
  · have hnumbers : numbers = up :: (List.range n).map f := by simp only [numbers, if_neg hup, List.singleton_append]
    have hfirst : up ∉ (List.range n).map f ↔ ∀ j, j < n → f j ≠ up := by simp
    rw [hnumbers, List.mem_cons, not_or, List.nodup_cons, hlast, hfirst, nodup_map_range]
    exact ⟨fun ⟨⟨hne, hown⟩, hother, hsame⟩ => ⟨.inr (Ne.symm hne), fun j hj => ⟨hown j hj, hother j hj, hsame j hj⟩⟩,
      fun ⟨hne, h⟩ => ⟨⟨Ne.symm (hne.resolve_left hup), fun j hj => (h j hj).1⟩, fun j hj => (h j hj).2.1, fun j hj => (h j hj).2.2⟩⟩

section

variable {b : List Byte} {offset n : Nat}

/-! ## The place of a field (R193) -/

/-- The ten sections one after the other, behind the header. -/
theorem ImageSection.start_eq :
    ImageSection.station.start = 8 ∧ ImageSection.time.start = 16 ∧ ImageSection.line.start = 20 ∧
      ImageSection.neighbours.start = 28 ∧ ImageSection.reachAndGate.start = 47 ∧ ImageSection.levelsAndControl.start = 74 ∧
      ImageSection.turnouts.start = 101 ∧ ImageSection.accounts.start = 296 ∧ ImageSection.rates.start = 1067 ∧
      ImageSection.alertSettings.start = 1104 := by decide

/-- A field of the settings of a section stands in the image behind the section's identifier and length. -/
theorem fieldAt_settings {x : ImageSection} (h : offset + n ≤ x.size) :
    fieldAt (x.settings b) offset n = fieldAt b (x.start + 3 + offset) n := by
  rw [fieldAt, ImageSection.settings, List.drop_take, List.take_take, List.drop_drop, Nat.min_eq_left (by omega), fieldAt]

/-- A field of a record of twelve bytes in the turnouts' section. -/
theorem fieldAt_turnouts {i k : Nat} (hi : i < 16) (hk : k + n ≤ 12) :
    fieldAt (ImageSection.turnouts.settings b) (12 * i + k) n = fieldAt b (104 + 12 * i + k) n := by
  rw [fieldAt_settings (by simp only [ImageSection.size]; omega)]
  simp only [ImageSection.start_eq, ← Nat.add_assoc]

/-- A field of a record of twelve bytes in the accounts' section. -/
theorem fieldAt_accounts {i k : Nat} (hi : i < 64) (hk : k + n ≤ 12) :
    fieldAt (ImageSection.accounts.settings b) (12 * i + k) n = fieldAt b (299 + 12 * i + k) n := by
  rw [fieldAt_settings (by simp only [ImageSection.size]; omega)]
  simp only [ImageSection.start_eq, ← Nat.add_assoc]

/-- The number of an account of the image. -/
theorem readAccountNumber_settings {i : Nat} (hi : i < 64) :
    readAccountNumber (ImageSection.accounts.settings b) i = fieldAt b (299 + 12 * i) 3 :=
  fieldAt_accounts (k := 0) hi (by decide)

/-- A downstream position of the image. -/
theorem readDownstream_settings {j : Nat} (hj : j < 3) : readDownstream (ImageSection.neighbours.settings b) j =
    { station := fieldAt b (33 + 4 * j) 1, tau := fieldAt b (34 + 4 * j) 1, lostFlow := fieldAt b (35 + 4 * j) 2 } := by
  have hplace : ∀ k n, k + n ≤ 6 → 2 ≤ k →
      fieldAt (ImageSection.neighbours.settings b) (k + 4 * j) n = fieldAt b (31 + k + 4 * j) n := by
    intro k n hk _
    rw [fieldAt_settings (by simp only [ImageSection.size]; omega)]
    simp only [ImageSection.start_eq, ← Nat.add_assoc]
  rw [readDownstream, hplace 2 1 (by decide) (by decide), hplace 3 1 (by decide) (by decide), hplace 4 2 (by decide) (by decide)]

/-- Section 4, with the formed positions alone (R52). -/
theorem readNeighbours_settings : readNeighbours (ImageSection.neighbours.settings b) =
    { upstream := fieldAt b 31 1, holdTime := fieldAt b 45 2
      downstream := (List.range (min (fieldAt b 32 1) 3)).map fun j =>
        { station := fieldAt b (33 + 4 * j) 1, tau := fieldAt b (34 + 4 * j) 1, lostFlow := fieldAt b (35 + 4 * j) 2 } } := by
  simpa (disch := decide) [readNeighbours, fieldAt_settings, ImageSection.start_eq] using fun j _ hj => readDownstream_settings hj

/-- A turnout entry of the image. -/
theorem readTurnout_settings {i : Nat} (hi : i < 16) : readTurnout (ImageSection.turnouts.settings b) i =
    let o := 104 + 12 * i
    { present := decide (fieldAt b o 1 = 1), inService := decide (fieldAt b (o + 1) 1 = 1), account := fieldAt b (o + 2) 1
      capacity := fieldAt b (o + 3) 2, litres := fieldAt b (o + 5) 2, tau := fieldAt b (o + 7) 1, spacing := fieldAt b (o + 8) 2
      noFlow := fieldAt b (o + 10) 2 } := by
  have hmark : fieldAt (ImageSection.turnouts.settings b) (12 * i) 1 = fieldAt b (104 + 12 * i) 1 := fieldAt_turnouts (k := 0) hi (by decide)
  simp (disch := decide) only [readTurnout, hmark, fieldAt_turnouts hi, beq_eq_decide]

/-- An account entry of the image, with season totals 0 (R144). -/
theorem readAccount_settings {i : Nat} (hi : i < 64) : readAccount (ImageSection.accounts.settings b) i =
    let o := 299 + 12 * i
    { number := fieldAt b o 3, allotment := fieldAt b (o + 3) 4, limit := fieldAt b (o + 7) 4, used := 0, charges := 0
      state := if fieldAt b (o + 11) 1 = 1 then .hold else if fieldAt b (o + 11) 1 = 2 then .closed else .good } := by
  simp (disch := decide) only [readAccount, readAccountNumber_settings hi, fieldAt_accounts hi, accountStateOf?_getD]

/-! ## What each section's check asks (R181) -/

/-- Station: its number is that of the header. -/
theorem ImageSection.station_good_iff : ImageSection.station.good b = true ↔
    (1 ≤ fieldAt b 11 1 ∧ fieldAt b 11 1 ≤ 250) ∧ fieldAt b 11 1 = fieldAt b 5 1 ∧ fieldAt b 12 1 ≤ 144 ∧
      (1 ≤ fieldAt b 13 2 ∧ fieldAt b 13 2 ≤ 4032) ∧ fieldAt b 15 1 ≤ 144 := by
  simp (disch := decide) [ImageSection.good, stationGood, readStation, headerStation, fieldAt_settings, ImageSection.start_eq, and_assoc]

/-- Time: a permitted period length. -/
theorem ImageSection.time_good_iff : ImageSection.time.good b = true ↔ permittedLength (fieldAt b 19 1) := by
  simp (disch := decide) [ImageSection.good, timeGood, permittedLength, fieldAt_settings, ImageSection.start_eq]

/-- Line. -/
theorem ImageSection.line_good_iff : ImageSection.line.good b = true ↔
    fieldAt b 23 1 ≤ 2 ∧ (5 ≤ fieldAt b 24 1 ∧ fieldAt b 24 1 ≤ 60) ∧ (20 ≤ fieldAt b 25 1 ∧ fieldAt b 25 1 ≤ 120) ∧
      5 ≤ fieldAt b 26 2 ∧ fieldAt b 26 2 ≤ 500 := by
  simp (disch := decide) [ImageSection.good, lineGood, readLine, fieldAt_settings, ImageSection.start_eq, and_assoc]

/-- Reach and gate. -/
theorem ImageSection.reachAndGate_good_iff : ImageSection.reachAndGate.good b = true ↔
    fieldAt b 50 2 ≤ 32000 ∧ fieldAt b 52 2 ≤ 2000 ∧ fieldAt b 54 2 ≤ 32000 ∧ fieldAt b 56 2 ≤ 32000 ∧
      (100 ≤ fieldAt b 58 4 ∧ fieldAt b 58 4 ≤ 500000) ∧ fieldAt b 62 4 ≤ 10000000 ∧
      (500 ≤ fieldAt b 66 2 ∧ fieldAt b 66 2 ≤ 750) ∧ (300 ≤ fieldAt b 68 2 ∧ fieldAt b 68 2 ≤ 6000) ∧
      (100 ≤ fieldAt b 70 2 ∧ fieldAt b 70 2 ≤ 2000) ∧ 50 ≤ fieldAt b 72 2 ∧ fieldAt b 72 2 ≤ 5000 := by
  simp (disch := decide) [ImageSection.good, reachGood, readReach, fieldAt_settings, ImageSection.start_eq, and_assoc]

/-- Levels and control. -/
theorem ImageSection.levelsAndControl_good_iff : ImageSection.levelsAndControl.good b = true ↔
    fieldAt b 77 2 ≤ 4000 ∧ fieldAt b 79 1 ≤ 50 ∧ fieldAt b 80 1 ≤ 100 ∧ fieldAt b 81 2 ≤ 2000 ∧ fieldAt b 83 2 ≤ 4000 ∧
      (10 ≤ fieldAt b 85 1 ∧ fieldAt b 85 1 ≤ 200) ∧ (5 ≤ fieldAt b 86 2 ∧ fieldAt b 86 2 ≤ 500) ∧
      (5 ≤ fieldAt b 88 1 ∧ fieldAt b 88 1 ≤ 100) ∧ (1 ≤ fieldAt b 89 1 ∧ fieldAt b 89 1 ≤ 30) ∧
      (2 ≤ fieldAt b 90 1 ∧ fieldAt b 90 1 ≤ 60) ∧ (1 ≤ fieldAt b 91 1 ∧ fieldAt b 91 1 ≤ 10) ∧ fieldAt b 92 2 ≤ 4000 ∧
      fieldAt b 94 2 ≤ 4000 ∧ fieldAt b 96 1 ≤ 1 ∧ fieldAt b 97 1 ≤ 2 ∧ fieldAt b 98 2 ≤ 2000 ∧ fieldAt b 100 1 ≤ 1 := by
  simp (disch := decide) [ImageSection.good, levelsGood, readLevels, fieldAt_settings, ImageSection.start_eq, and_assoc]

/-- Rates: the two fees. -/
theorem ImageSection.rates_good_iff : ImageSection.rates.good b = true ↔ fieldAt b 1096 4 ≤ 1000000 ∧ fieldAt b 1100 4 ≤ 1000000 := by
  simp (disch := decide) [ImageSection.good, feesGood_iff, readRates, fieldAt_settings, ImageSection.start_eq]

/-- Alert settings. -/
theorem ImageSection.alertSettings_good_iff : ImageSection.alertSettings.good b = true ↔
    fieldAt b 1107 1 ≤ 3 ∧ fieldAt b 1108 3 < 131072 ∧ fieldAt b 1111 1 ≤ 60 ∧ 1 ≤ fieldAt b 1112 2 ∧ fieldAt b 1112 2 ≤ 256 := by
  simp (disch := decide) [ImageSection.good, alertGood, readAlert, fieldAt_settings, ImageSection.start_eq, and_assoc]

/-- A formed downstream position. -/
theorem downstreamGood_iff (d : Config.Downstream) :
    downstreamGood d = true ↔ (1 ≤ d.station ∧ d.station ≤ 250) ∧ d.tau ≤ 8 ∧ d.lostFlow ≤ 32000 := by
  simp [downstreamGood, and_assoc]

/-- Neighbours: the formed entries lie in their ranges, and their numbers are distinct and not the own one (R52). -/
theorem ImageSection.neighbours_good_iff : ImageSection.neighbours.good b = true ↔
    fieldAt b 31 1 ≤ 250 ∧ fieldAt b 32 1 ≤ 3 ∧ (60 ≤ fieldAt b 45 2 ∧ fieldAt b 45 2 ≤ 600) ∧
      (fieldAt b 31 1 = 0 ∨ fieldAt b 31 1 ≠ fieldAt b 11 1) ∧
      ∀ j, j < fieldAt b 32 1 → (1 ≤ fieldAt b (33 + 4 * j) 1 ∧ fieldAt b (33 + 4 * j) 1 ≤ 250) ∧ fieldAt b (34 + 4 * j) 1 ≤ 8 ∧
        fieldAt b (35 + 4 * j) 2 ≤ 32000 ∧ fieldAt b (33 + 4 * j) 1 ≠ fieldAt b 11 1 ∧
        fieldAt b (33 + 4 * j) 1 ≠ fieldAt b 31 1 ∧ ∀ i, i < j → fieldAt b (33 + 4 * i) 1 ≠ fieldAt b (33 + 4 * j) 1 := by
  have hvalue := readNeighbours_settings (b := b)
  have hcount : fieldAt (ImageSection.neighbours.settings b) 1 1 = fieldAt b 32 1 := by
    simp (disch := decide) [fieldAt_settings, ImageSection.start_eq]
  have hown : (readStation (ImageSection.station.settings b)).number = fieldAt b 11 1 := by
    simp (disch := decide) [readStation, fieldAt_settings, ImageSection.start_eq]
  by_cases hmax : fieldAt b 32 1 ≤ 3
  swap
  · simp [ImageSection.good, neighboursGood, hcount, hmax]
  rw [Nat.min_eq_left hmax] at hvalue
  have hranges : (readNeighbours (ImageSection.neighbours.settings b)).downstream.all downstreamGood = true ↔
      ∀ j, j < fieldAt b 32 1 → (1 ≤ fieldAt b (33 + 4 * j) 1 ∧ fieldAt b (33 + 4 * j) 1 ≤ 250) ∧ fieldAt b (34 + 4 * j) 1 ≤ 8 ∧
        fieldAt b (35 + 4 * j) 2 ≤ 32000 := by
    simp [hvalue, downstreamGood_iff]
  have hstations : (readNeighbours (ImageSection.neighbours.settings b)).downstream.map Config.Downstream.station =
      (List.range (fieldAt b 32 1)).map fun j => fieldAt b (33 + 4 * j) 1 := by simp [hvalue]
  simp only [ImageSection.good, neighboursGood, hstations, hown, hcount, Bool.and_eq_true, within_iff, distinct_iff, hranges,
    List.contains_eq_mem, Bool.not_eq_true', decide_eq_false_iff_not]
  simp only [hvalue]
  constructor
  · rintro ⟨⟨⟨⟨⟨hup, _⟩, hall⟩, hhold⟩, hown⟩, hsame⟩
    obtain ⟨hne, hnumbers⟩ := (numbers_distinct_iff fun j hj => (hall j hj).1.1).1 ⟨hown, hsame⟩
    refine ⟨hup.2, hmax, hhold, hne, fun j hj => ?_⟩
    obtain ⟨hstation, htau, hlost⟩ := hall j hj
    exact ⟨hstation, htau, hlost, hnumbers j hj⟩
  · rintro ⟨hup, _, hhold, hne, hall⟩
    have hform : ∀ j, j < fieldAt b 32 1 → (1 ≤ fieldAt b (33 + 4 * j) 1 ∧ fieldAt b (33 + 4 * j) 1 ≤ 250) ∧
        fieldAt b (34 + 4 * j) 1 ≤ 8 ∧ fieldAt b (35 + 4 * j) 2 ≤ 32000 := fun j hj => by
      obtain ⟨hstation, htau, hlost, _⟩ := hall j hj
      exact ⟨hstation, htau, hlost⟩
    have hnumbers := fun j hj => (hall j hj).2.2.2
    obtain ⟨hown, hsame⟩ := (numbers_distinct_iff fun j hj => (hform j hj).1.1).2 ⟨hne, hnumbers⟩
    exact ⟨⟨⟨⟨⟨⟨Nat.zero_le _, hup⟩, Nat.zero_le _, hmax⟩, hform⟩, hhold⟩, hown⟩, hsame⟩

/-- Turnouts: of an absent one the in-service byte and the settings are not checked; the default account is configured (R116). -/
theorem ImageSection.turnouts_good_iff : ImageSection.turnouts.good b = true ↔ ∀ i, i < 16 →
    let o := 104 + 12 * i
    fieldAt b o 1 ≤ 1 ∧ (fieldAt b o 1 = 1 → fieldAt b (o + 1) 1 ≤ 1 ∧ fieldAt b (o + 2) 1 ≤ 63 ∧
      fieldAt b (299 + 12 * fieldAt b (o + 2) 1) 3 ≠ 0 ∧ fieldAt b (o + 3) 2 ≤ 32000 ∧
      (1 ≤ fieldAt b (o + 5) 2 ∧ fieldAt b (o + 5) 2 ≤ 1000) ∧ fieldAt b (o + 7) 1 ≤ 8 ∧
      (10 ≤ fieldAt b (o + 8) 2 ∧ fieldAt b (o + 8) 2 ≤ 5000) ∧ 5 ≤ fieldAt b (o + 10) 2 ∧ fieldAt b (o + 10) 2 ≤ 600) := by
  simp only [ImageSection.good, turnoutsGood, List.all_eq_true, List.mem_range]
  refine forall_congr' fun i => forall_congr' fun hi => ?_
  have hmark : fieldAt (ImageSection.turnouts.settings b) (12 * i) 1 = fieldAt b (104 + 12 * i) 1 := fieldAt_turnouts (k := 0) hi (by decide)
  have hserve : fieldAt (ImageSection.turnouts.settings b) (12 * i + 1) 1 = fieldAt b (104 + 12 * i + 1) 1 := fieldAt_turnouts hi (by decide)
  simp only [turnoutGood, readTurnout_settings hi, hmark, hserve, Bool.and_eq_true, Bool.or_eq_true, Bool.not_eq_true', decide_eq_false_iff_not,
    codedMark_iff, within_iff, bne_iff_ne]
  rw [← imp_iff_not_or]
  simp only [and_assoc, Nat.zero_le, true_and]
  refine and_congr_right fun _ => imp_congr_right fun _ => and_congr_right fun _ => and_congr_right fun haccount => ?_
  rw [readAccountNumber_settings (Nat.lt_succ_of_le haccount)]

/-- Accounts: no number but 0 stands twice (R144). -/
theorem ImageSection.accounts_good_iff : ImageSection.accounts.good b = true ↔ ∀ i, i < 64 →
    let o := 299 + 12 * i
    fieldAt b (o + 3) 4 ≤ 4000000 ∧ fieldAt b (o + 11) 1 ≤ 2 ∧
      ∀ j, j < i → fieldAt b o 3 ≠ 0 → fieldAt b (299 + 12 * j) 3 ≠ fieldAt b o 3 := by
  simp only [ImageSection.good, accountsGood, Bool.and_eq_true, distinct_iff, nodup_filter_map_range, List.all_eq_true, List.mem_range,
    within_iff, bne_iff_ne]
  have hnumber : ∀ i, i < 64 → readAccountNumber (ImageSection.accounts.settings b) i = fieldAt b (299 + 12 * i) 3 :=
    fun i hi => readAccountNumber_settings hi
  constructor
  · rintro ⟨hsame, hranges⟩ i hi
    obtain ⟨⟨_, hallotment⟩, _, hcode⟩ := hranges i hi
    rw [fieldAt_accounts hi (by decide)] at hallotment hcode
    refine ⟨hallotment, hcode, fun j hj => ?_⟩
    have hother := hsame i hi j hj
    rwa [hnumber i hi, hnumber j (hj.trans hi)] at hother
  · intro h
    refine ⟨fun i hi j hj => ?_, fun i hi => ?_⟩
    · rw [hnumber i hi, hnumber j (hj.trans hi)]
      exact (h i hi).2.2 j hj
    · obtain ⟨hallotment, hcode, _⟩ := h i hi
      rw [fieldAt_accounts hi (by decide), fieldAt_accounts hi (by decide)]
      exact ⟨⟨Nat.zero_le _, hallotment⟩, Nat.zero_le _, hcode⟩

/-! ## The order of the check (R181) -/

/-- The place of a section: its identifier, its length, and its settings in the image. -/
theorem ImageSection.fits_iff (x : ImageSection) : x.fits b = true ↔
    fieldAt b x.start 1 = x.identifier ∧ fieldAt b (x.start + 1) 2 = x.size ∧ x.start + 3 + x.size ≤ b.length := by
  simp only [ImageSection.fits, Bool.and_eq_true, decide_eq_true_eq, and_assoc]

/-- The header: length, check and format version. -/
theorem headerGood_iff : headerGood b = true ↔
    8 ≤ b.length ∧ b.length ≤ 8192 ∧ fieldAt b 6 2 = b.length ∧ crcBytes (b.drop 2) = b.take 2 ∧ fieldAt b 2 1 = 1 := by
  simp only [headerGood, headerLength, headerSize, imageMax, Bool.and_eq_true, within_iff, beq_iff_eq, and_assoc]
  constructor
  · rintro ⟨hmin, hmax, hlength, hrest⟩
    exact ⟨hlength ▸ hmin, hlength ▸ hmax, hlength, hrest⟩
  · rintro ⟨hmin, hmax, hlength, hrest⟩
    exact ⟨hlength ▸ hmin, hlength ▸ hmax, hlength, hrest⟩

/-- A section passes by its place and its check. -/
def ImageSection.Passes (b : List Byte) (x : ImageSection) : Prop := x.fits b = true ∧ x.good b = true

/-- The sections' check fails where a section does not pass. -/
theorem ImageSection.fails_iff (x : ImageSection) : (!(x.fits b && x.good b)) = true ↔ ¬x.Passes b := by
  rw [ImageSection.Passes, ← Bool.and_eq_true, Bool.not_eq_true', Bool.eq_false_iff, Ne]

/-- A header that fails its check is what the image's check names. -/
theorem imageFailure_of_header (h : ¬headerGood b = true) : imageFailure b = some .header := if_neg h

/-- An image whose sections all pass. -/
theorem imageFailure_of_passes (h : headerGood b = true) (hall : ∀ x ∈ imageSections, x.Passes b) : imageFailure b = none := by
  rw [imageFailure, if_pos h, List.find?_eq_none]
  exact fun x hx hfails => (ImageSection.fails_iff x).1 hfails (hall x hx)

/-- The first section that does not pass is what the check names. -/
theorem imageFailure_of_first {i : Nat} {x : ImageSection} (h : headerGood b = true) (hx : imageSections[i]? = some x)
    (hfails : ¬x.Passes b) (hbefore : ∀ (m : Nat) (y : ImageSection), m < i → imageSections[m]? = some y → y.Passes b) :
    imageFailure b = some x := by
  rw [imageFailure, if_pos h, List.find?_eq_some_iff_getElem]
  obtain ⟨hlt, hget⟩ := List.getElem?_eq_some_iff.1 hx
  refine ⟨(ImageSection.fails_iff x).2 hfails, i, hlt, hget, fun m hm => ?_⟩
  have hpasses := hbefore m _ hm (List.getElem?_eq_getElem (hm.trans hlt))
  simp [hpasses.1, hpasses.2]

/-! ## The value of an image (R193) -/

/-- The settings of an image, field by field. -/
theorem readImage_settings : (readImage b).settings =
    { station := { number := fieldAt b 11 1, minNotice := fieldAt b 12 1, horizon := fieldAt b 13 2, lockTime := fieldAt b 15 1 }
      periodLength := fieldAt b 19 1
      line := { rate := if fieldAt b 23 1 = 0 then 4800 else if fieldAt b 23 1 = 1 then 9600 else 19200
                holdoff := fieldAt b 24 1, noticeInterval := fieldAt b 25 1, changeThreshold := fieldAt b 26 2 }
      neighbours := (readImage b).settings.neighbours
      reach := { cap := fieldAt b 50 2, loss := fieldAt b 52 2, fallback := fieldAt b 54 2, reachCapacity := fieldAt b 56 2
                 poolArea := fieldAt b 58 4, lossTolerance := fieldAt b 62 4, cd := fieldAt b 66 2, width := fieldAt b 68 2
                 aMax := fieldAt b 70 2, encoder := fieldAt b 72 2 }
      levels := { target := fieldAt b 77 2, deadZone := fieldAt b 79 1, gain := fieldAt b 80 1, correctionLimit := fieldAt b 81 2
                  minimum := fieldAt b 83 2, hysteresis := fieldAt b 85 1, guardStep := fieldAt b 86 2, deadband := fieldAt b 88 1
                  restTime := fieldAt b 89 1, stallTime := fieldAt b 90 1, sampleInterval := fieldAt b 91 1, upHigh := fieldAt b 92 2
                  downHigh := fieldAt b 94 2, levelTrip := decide (fieldAt b 96 1 = 1)
                  tripAction := if fieldAt b 97 1 = 0 then .hold else if fieldAt b 97 1 = 1 then .close else .openTo
                  tripOpening := fieldAt b 98 2, autoResume := decide (fieldAt b 100 1 = 1) }
      turnouts := (readImage b).settings.turnouts
      alert := { threshold := fieldAt b 1107 1, masks := clearLevel3 (BitVec.ofNat 17 (fieldAt b 1108 3)), moderation := fieldAt b 1111 1
                 logThreshold := fieldAt b 1112 2 } } := by
  simp (disch := decide) [readImage, readStation, readLine, readReach, readLevels, readAlert, lineRate, tripActionOf, fieldAt_settings,
    ImageSection.start_eq, beq_eq_decide]

/-- The rates of an image, the four classes of one rate together (log 11: DESIGN CHOICE). -/
theorem readImage_rates : (readImage b).rates =
    { tier1 := { c1 := fieldAt b 1070 2, c2 := fieldAt b 1072 2, c3 := fieldAt b 1074 2, c4 := fieldAt b 1076 2 }
      tier2 := { c1 := fieldAt b 1078 2, c2 := fieldAt b 1080 2, c3 := fieldAt b 1082 2, c4 := fieldAt b 1084 2 }
      unused := { c1 := fieldAt b 1086 2, c2 := fieldAt b 1088 2, c3 := fieldAt b 1090 2, c4 := fieldAt b 1092 2 }
      unordered := fieldAt b 1094 2, callOut := fieldAt b 1096 4, lateCancel := fieldAt b 1100 4 } := by
  simp (disch := decide) [readImage, readRates, readClasses, fieldAt_settings, ImageSection.start_eq]

/-- A turnout of an image. -/
theorem readImage_turnout {i : Nat} (hi : i < 16) :
    (readImage b).settings.turnouts[i]? = some (readTurnout (ImageSection.turnouts.settings b) i) := by simp [readImage, hi]

/-- An account of an image. -/
theorem readImage_account {i : Nat} (hi : i < 64) :
    (readImage b).accounts[i]? = some (readAccount (ImageSection.accounts.settings b) i) := by simp [readImage, hi]

end

section

variable {s : State}

/-! ## The check of an image from the memory, and the start decision (R181, R183) -/

/-- IMAGE_READ_COMPLETE checks the bytes that the header's length gives. -/
theorem exec_imageReadComplete (hp : s.startup.powered = true) (h : s.startup.state = .loading) (hm : s.startup.source = .memory)
    (image : List Byte) : exec (.imageReadComplete image) s = .next (s.takeMemoryImage (image.take (headerLength image))) :=
  if_pos (by simp [hp, h, hm])

/-- A good image starts the part. -/
theorem State.takeMemoryImage_of_good {b : List Byte} (h : imageFailure b = none) : s.takeMemoryImage b = s.startWith (readImage b) := by
  rw [State.takeMemoryImage, h]

/-- A bad image waits for a link load with START 10, and else leaves CONFIG_FAULT. -/
theorem State.takeMemoryImage_of_bad {b : List Byte} {x : ImageSection} (h : imageFailure b = some x) :
    s.takeMemoryImage b =
      if s.startup.start = 2 then s.withStartup { s.startup with source := .link, image := [] } else s.enterConfigFault x := by
  rw [State.takeMemoryImage, h]
  rfl

/-- The image marks absent a turnout that is in use: a live order names it, its tally is above 0, or it stands on the wait list. -/
theorem State.absentInUse_iff (c : Config.Settings) : s.absentInUse c = true ↔
    (∃ slot o, s.book.at? slot = some o ∧ present c o.turnout = false) ∨
      ∃ i, i < 16 ∧ present c i = false ∧ (0 < (s.turnout i).tally ∨ WaitItem.tally i ∈ s.billing.waitList) := by
  simp only [State.absentInUse, Bool.or_eq_true, List.any_eq_true, Prod.exists, OrderBook.mem_live, List.mem_range, Bool.and_eq_true,
    Bool.not_eq_true', decide_eq_true_eq, List.contains_iff_mem]

/-- The start decision: cold on any of its grounds. -/
theorem State.startKind_eq_cold_iff (m : Image) : s.startKind m = .cold ↔
    s.startup.forceCold = true ∨ s.startup.marker.valid = false ∨ s.startup.marker.seasonId ≠ m.seasonId ∨
      s.startup.marker.station ≠ m.settings.station.number ∨ s.startup.marker.periodLength ≠ m.settings.periodLength ∨
      s.startup.marker.timeSet = false ∨ s.absentInUse m.settings = true := by
  rw [State.startKind]
  simp only [ite_eq_left_iff, reduceCtorEq, imp_false, not_not, Bool.or_eq_true, Bool.not_eq_true', bne_iff_ne, or_assoc]

end

/-- Settles O46: the outcome, the order of the check, the layout and the ranges, the value of an image, and the start decision. -/
theorem imageOutcome : Obligations.ImageOutcome := by
  refine ⟨?outcome, ?order, ?ranges, ?value, ?decision⟩
  case outcome =>
    intro s image hp hstate hsource b
    have hexec := exec_imageReadComplete hp hstate hsource image
    refine ⟨fun hgood => ?_, fun x hx hstart => ?_, fun x hx hstart => ?_⟩
    · rw [hexec, State.takeMemoryImage_of_good hgood]
    · rw [hexec, State.takeMemoryImage_of_bad hx, if_pos hstart]
      rfl
    · rw [hexec, State.takeMemoryImage_of_bad hx, if_neg hstart]
      rfl
  case order =>
    intro b header inOrder passes
    have hheader : headerGood b = true ↔ header := headerGood_iff
    refine ⟨fun h => imageFailure_of_header (hheader.not.2 h), fun h hall => ?_, fun n x h hx hfails hbefore => ?_⟩
    · exact imageFailure_of_passes (hheader.2 h) hall
    · exact imageFailure_of_first (hheader.2 h) hx hfails hbefore
  case ranges =>
    intro b v lies layout
    refine ⟨fun x start id size hx => ?_, ImageSection.station_good_iff, ImageSection.time_good_iff, ImageSection.line_good_iff,
      ImageSection.neighbours_good_iff, ImageSection.reachAndGate_good_iff, ImageSection.levelsAndControl_good_iff,
      ImageSection.turnouts_good_iff, ImageSection.accounts_good_iff, ImageSection.rates_good_iff, ImageSection.alertSettings_good_iff⟩
    have hlayout : ∀ y ∈ layout, y.1.start = y.2.1 ∧ y.1.identifier = y.2.2.1 ∧ y.1.size = y.2.2.2 := by decide
    obtain ⟨hstart, hid, hsize⟩ := hlayout _ hx
    dsimp only at hstart hid hsize
    rw [x.fits_iff, hstart, hid, hsize]
  case value =>
    intro b v four m c
    have hc := readImage_settings (b := b)
    exact ⟨rfl, congrArg Config.Settings.station hc, congrArg Config.Settings.periodLength hc, congrArg Config.Settings.line hc,
      readNeighbours_settings, congrArg Config.Settings.reach hc, congrArg Config.Settings.levels hc, by simp [c, m, readImage],
      fun i hi => (readImage_turnout hi).trans (congrArg some (readTurnout_settings hi)), by simp [m, readImage],
      fun i hi => (readImage_account hi).trans (congrArg some (readAccount_settings hi)), readImage_rates,
      congrArg Config.Settings.alert hc⟩
  case decision =>
    intro s m k
    refine ⟨?_, ?_⟩
    · rw [State.startKind_eq_cold_iff, State.absentInUse_iff]
    · unfold State.startWith
      cases s.startKind m <;> rfl

end Sys2Proof.Machine
end
section
/-! A cold start and a warm start: the blocks at a start of either kind, the alerts that it raises, and the entry to RUN of a warm one
(R13, R14, R51, R66, R88, R100, R110, R114, R128, R174, R184, R185). -/

namespace Sys2Proof.Machine

open Sys2Proof.Config (Settings)

/-! ## The gate at a start (R114) -/

/-- The encoder counts at a start: those of the stop whose limit input is active, LIM_OPEN last (R100; log 30: DESIGN CHOICE), else the
counts that the kind of start gives. -/
def Gate.countsAtStart (c : Settings) (kind : StartKind) (g : Gate) : Nat :=
  if g.limOpen = true then openStopCounts c else if g.limClosed = true then 0 else if kind = .cold then 0 else g.counts

/-- The gate after a start: the limit inputs judged, then the TRIP input (R114). -/
def Gate.afterStart (c : Settings) (kind : StartKind) (g : Gate) : Gate :=
  { resetGate with
    counts := g.countsAtStart c kind, suspect := !g.limClosed, volumeEst := kind == .warm
    target := min (g.countsAtStart c kind * c.reach.encoder / 1000) c.reach.aMax
    drive := if g.tripIn = true then .tripped .waiting else if g.limClosed = true ∧ g.limOpen = true then .fault else .resting
    restStart := if g.tripIn = false ∧ g.limClosed = true ∧ g.limOpen = true then none else some 0
    record := if g.limClosed = true ∧ g.limOpen = true then .limits else .none
    sampleWatch := some 0, limClosed := g.limClosed, limOpen := g.limOpen, tripIn := g.tripIn, supplyLow := g.supplyLow }

/-- The counts that a kind of start gives. -/
theorem Gate.atStart_counts (c : Settings) (kind : StartKind) (g : Gate) :
    (g.atStart c kind).counts = if kind = .cold then 0 else g.counts := by cases kind <;> rfl

/-- The two limit inputs one after the other (R100; log 30: DESIGN CHOICE): LIM_OPEN sets the counts last, and LIM_CLOSED alone clears
POSITION_SUSPECT. -/
theorem Gate.limitPosition_limits (c : Settings) (g : Gate) :
    let shut := if g.limClosed = true then g.limitPosition c false else g
    (if shut.limOpen = true then shut.limitPosition c true else shut) = { g with
      counts := if g.limOpen = true then openStopCounts c else if g.limClosed = true then 0 else g.counts
      suspect := g.suspect && !g.limClosed } := by
  by_cases hclosed : g.limClosed = true
  · by_cases hopen : g.limOpen = true <;> simp [Gate.limitPosition, hclosed, hopen]
  · have hkept : (g.suspect && !g.limClosed) = g.suspect := by simp [hclosed]
    by_cases hopen : g.limOpen = true
    · simp [Gate.limitPosition, hclosed, hopen]
    · simp only [if_neg hclosed, if_neg hopen, hkept]

/-- A limit input that is active at a start acts as if it had just become so, and two together are a sensor fault (R100, R114). -/
theorem Gate.judgeLimits_atStart (c : Settings) (kind : StartKind) (g : Gate) : (g.atStart c kind).judgeLimits c 0 =
    { g.afterStart c kind with
      drive := if g.limClosed = true ∧ g.limOpen = true then .fault else .resting
      restStart := if g.limClosed = true ∧ g.limOpen = true then none else some 0 } := by
  have hplaced := Gate.limitPosition_limits c (g.atStart c kind)
  have hcounts : (if (g.atStart c kind).limOpen = true then openStopCounts c else if (g.atStart c kind).limClosed = true then 0
      else (g.atStart c kind).counts) = g.countsAtStart c kind := by
    rw [Gate.atStart_counts]
    rfl
  dsimp only at hplaced
  rw [hcounts] at hplaced
  rw [Gate.judgeLimits]
  dsimp only
  rw [hplaced]
  by_cases hlimits : g.limClosed = true ∧ g.limOpen = true
  · rw [if_pos (show ((g.atStart c kind).limClosed && (g.atStart c kind).limOpen) = true by simpa [Gate.atStart] using hlimits)]
    simp [Gate.setFault, Gate.enter, Gate.atStart, Gate.afterStart, Gate.position, Drive.rests, Drive.on, Drive.openOn,
      Drive.closeOn, hlimits, resetGate]
  · rw [if_neg (show ¬((g.atStart c kind).limClosed && (g.atStart c kind).limOpen) = true by simpa [Gate.atStart] using hlimits)]
    simp [Gate.atStart, Gate.afterStart, Gate.position, hlimits, resetGate]

/-- A trip onset of a drive whose outputs are off (R110). -/
theorem Gate.trip_of_off {g : Gate} (h : g.drive.on = false) (now : Nat) :
    g.trip now = { g with drive := .tripped .waiting, restStart := some now, stallStart := none } := by
  rw [Gate.trip, Gate.enter, h]
  rfl

/-- The judgements of a start in their order leave the gate as `Gate.afterStart` says. -/
theorem Gate.judged_atStart (c : Settings) (kind : StartKind) (g : Gate) :
    let judged := (g.atStart c kind).judgeLimits c 0
    (if judged.tripIn = true then judged.trip 0 else judged) = g.afterStart c kind := by
  intro judged
  have hjudged : judged = _ := Gate.judgeLimits_atStart c kind g
  have hoff : judged.drive.on = false := by
    rw [hjudged]
    dsimp only
    split <;> rfl
  rw [Gate.trip_of_off hoff, hjudged]
  cases htrip : g.tripIn <;> simp [Gate.afterStart, htrip, resetGate]

/-- After a start the drive rests, has a fault, or waits in a trip. -/
theorem Gate.afterStart_drive (c : Settings) (kind : StartKind) (g : Gate) :
    (g.afterStart c kind).drive = .resting ∨ (g.afterStart c kind).drive = .fault ∨ (g.afterStart c kind).drive = .tripped .waiting := by
  simp only [Gate.afterStart]
  split
  · exact .inr (.inr rfl)
  · split
    · exact .inr (.inl rfl)
    · exact .inl rfl

/-- After a start the outputs are off. -/
theorem Gate.afterStart_off (c : Settings) (kind : StartKind) (g : Gate) : (g.afterStart c kind).drive.on = false := by
  rcases g.afterStart_drive c kind with h | h | h <;> rw [h] <;> rfl

/-- The release target of the first recompute moves nothing: the drive acts on no target after a start (R101, R105). -/
theorem Gate.handTarget_afterStart (c : Settings) (now release : Nat) (kind : StartKind) (g : Gate) :
    ∃ target lastUsed, (g.afterStart c kind).handTarget c now release =
      { g.afterStart c kind with inHand := some release, target := target, lastUsed := lastUsed } := by
  have hstill : ∀ x : Gate, x.drive = (g.afterStart c kind).drive → x.onTarget c now = x := by
    intro x hx
    rcases g.afterStart_drive c kind with h | h | h <;> simp only [Gate.onTarget, hx, h]
  by_cases hacts : (g.afterStart c kind).ActsOn c release
  · have hcomputed := Gate.computeTarget_eq c { g.afterStart c kind with inHand := some release }
    rw [Gate.handTarget_of_acts hacts, hstill _ (by rw [hcomputed])]
    exact ⟨_, _, hcomputed⟩
  · exact ⟨_, _, Gate.handTarget_of_not_acts hacts⟩

section

variable {s : State}

/-! ## The clock source at a start (R13, R14) -/

/-- Without the main crystal a start begins on the internal oscillator. -/
theorem sourceOf_eq_internal_iff (crystal : Bool) : sourceOf crystal = .internal ↔ crystal = false := by cases crystal <;> decide

/-- The quality at a start follows the crystal. -/
theorem qualityAtStart_sourceOf (crystal : Bool) :
    qualityAtStart (sourceOf crystal) = if crystal = true then .free else .degraded := by cases crystal <;> rfl

/-! ## The alerts at a start (R174) -/

/-- The alert set after a start: its own cause, TIME_DEGRADED on the internal oscillator, GATE_FAULT for both limit inputs and GATE_TRIP for
an active TRIP input. -/
def State.alertsAtStart (s : State) (c : Settings) (kind : StartKind) : Alerts :=
  (((startAlerts c kind).raiseIf (s.time.source == .internal) .timeDegraded).raiseIf
    (decide (s.gate.limClosed = true ∧ s.gate.limOpen = true)) .gateFault).raiseIf s.gate.tripIn .gateTrip

/-- The causes that are pending after a start. -/
theorem State.hasCause_alertsAtStart (c : Settings) (kind : StartKind) (x : Cause) :
    hasCause (s.alertsAtStart c kind).pending x = true ↔ x = startCause kind ∨ (x = .timeDegraded ∧ s.time.source = .internal) ∨
      (x = .gateFault ∧ s.gate.limClosed = true ∧ s.gate.limOpen = true) ∨ (x = .gateTrip ∧ s.gate.tripIn = true) := by
  have hnone : hasCause (0 : BitVec 17) x = false := by simp [hasCause]
  simp only [State.alertsAtStart, startAlerts, Alerts.hasCause_raiseIf, hasCause_raise, hnone, Bool.false_or, Bool.or_eq_true,
    Bool.and_eq_true, decide_eq_true_eq, beq_iff_eq, or_assoc]
  simp only [and_comm]

/-- A raise on a condition leaves the masks and the moderation timer. -/
theorem Alerts.raiseIf_leaves (a : Alerts) (b : Bool) (c : Cause) :
    (a.raiseIf b c).masks = a.masks ∧ (a.raiseIf b c).moderation = a.moderation := by
  cases b <;> exact ⟨rfl, rfl⟩

/-- A start takes the masks of the image, with no moderation. -/
theorem State.alertsAtStart_leaves (c : Settings) (kind : StartKind) :
    (s.alertsAtStart c kind).masks = c.alert.masks ∧ (s.alertsAtStart c kind).moderation = none := by
  simp [State.alertsAtStart, Alerts.raiseIf_leaves, startAlerts]

/-! ## The blocks at a start of either kind -/

/-- The judgement of the gate where no level has been sampled: the sensor fault and the TRIP input (R110, R114). -/
theorem State.judgeGate_of_no_level (h : s.gate.window = []) : s.judgeGate = { s with
    gate := if s.gate.tripIn = true then s.gate.trip s.time.elapsed else s.gate
    alerts := (s.alerts.raiseIf (s.gate.record != .none) .gateFault).raiseIf s.gate.tripIn .gateTrip } := by
  have hcause : s.gate.tripCause s.settings = s.gate.tripIn := by
    simp [Gate.tripCause, Gate.levelCause, Gate.hU, h]
  simp only [State.judgeGate, State.raiseIf_eq, State.withAlerts_gate, State.withAlerts_settings, hcause]
  cases s.gate.tripIn <;> rfl

/-- What both kinds of start set, block by block. -/
theorem State.startBlocks_eq (h : s.time.elapsed = 0) (c : Settings) (kind : StartKind) (planKey : Nat) :
    s.startBlocks c kind planKey = { s with
      settings := c, inbox := resetInbox, line := startLine, neigh := { s.neigh with entries := formEntries c.neighbours }
      planner := startPlanner c planKey, gate := s.gate.afterStart c kind, close := resetClose planKey, link := s.link.atStart
      alerts := s.alertsAtStart c kind } := by
  have hwindow : ((s.gate.atStart c kind).judgeLimits c 0).window = [] := Gate.judgeLimits_window
  have hrecord : (((s.gate.atStart c kind).judgeLimits c 0).record != .none) =
      decide (s.gate.limClosed = true ∧ s.gate.limOpen = true) := by
    rw [Gate.judgeLimits_atStart]
    by_cases hlimits : s.gate.limClosed = true ∧ s.gate.limOpen = true <;> simp [Gate.afterStart, hlimits]
  have htrip : ((s.gate.atStart c kind).judgeLimits c 0).tripIn = s.gate.tripIn := by rw [Gate.judgeLimits_atStart]; rfl
  have hjudged := Gate.judged_atStart c kind s.gate
  dsimp only at hjudged
  rw [State.startBlocks, State.judgeGate_of_no_level (by simpa using hwindow)]
  apply State.ext_blocks
  case h9 => simpa [h] using hjudged
  case h14 => simp [State.raiseIf_eq, hrecord, htrip, State.alertsAtStart]
  all_goals simp

/-! ## A cold start (R184) -/

/-- What a cold start leaves, block by block. -/
theorem State.coldStart_eq (m : Image) : s.coldStart m = { s with
    startup := { s.startup with
      state := .waitTime, failing := none, lastStart := some .cold, image := [], catchUpDue := false
      marker := { valid := true, seasonId := m.seasonId, station := m.settings.station.number,
                  periodLength := m.settings.periodLength, timeSet := false } }
    settings := m.settings, time := s.time.atCold, inbox := resetInbox
    book := { slots := List.replicate 48 none, bookKey := 0 }, line := startLine
    neigh := { entries := formEntries m.settings.neighbours, watchEnd := 0 }, planner := startPlanner m.settings 0
    gate := s.gate.afterStart m.settings .cold
    meters := { turnouts := m.settings.turnouts.map fun t => { resetTurnout with inService := t.inService }, closedKey := none }
    close := resetClose 0, billing := coldBilling m, link := s.link.atStart
    alerts := (s.withTime s.time.atCold).alertsAtStart m.settings .cold } := by
  rw [State.coldStart, State.coldBlocks, State.startBlocks_eq rfl]
  rfl

/-! ## A warm start (R185) -/

/-- The part at a warm start before the first recompute: the retained state and the blocks of a start, in RUN, with the notice timer from 0
and a REACH request that has woken the transmitter (R51). -/
def State.warmBegun (s : State) (m : Image) : State := { s with
  startup := { s.startup with state := .run, failing := none, lastStart := some .warm, image := [], catchUpDue := true }
  settings := m.settings, time := s.time.atWarm m.settings.periodLength, inbox := resetInbox
  line := { startLine with noticeTimer := some 0, reachReq := true, tx := .gap }
  neigh := { s.neigh with entries := formEntries m.settings.neighbours }
  planner := startPlanner m.settings s.time.retainedKey, gate := s.gate.afterStart m.settings .warm
  meters := { turnouts := s.meters.turnouts.zipIdx.map fun p => warmTurnout m.settings p.2 p.1, closedKey := none }
  close := resetClose s.time.retainedKey, link := s.link.atStart
  alerts := (s.withTime (s.time.atWarm m.settings.periodLength)).alertsAtStart m.settings .warm }

/-- A powered part is in RUN from a warm start on. -/
theorem State.warmBegun_running (hp : s.startup.powered = true) (m : Image) : (s.warmBegun m).running = true :=
  State.running_iff.2 ⟨hp, rfl⟩

/-- A warm start ends with the first recompute (R67, R185). -/
theorem State.warmStart_eq (hp : s.startup.powered = true) (m : Image) : s.warmStart m = (s.warmBegun m).recompute := by
  rw [State.warmStart]
  dsimp only
  rw [State.startBlocks_eq rfl]
  refine (State.enterRun_of_running ?_).trans ?_
  · exact State.running_iff.2 ⟨hp, rfl⟩
  · rfl

/-- A recompute moves no transmitter that is not quiet (R41, R49). -/
theorem State.recompute_tx (hrun : s.running = true) (h : s.line.tx ≠ .quiet) : s.recompute.line.tx = s.line.tx := by
  cases hchanged : (s.withPlanner s.recompute.planner).planChanged s.computePlan with
  | true => rw [State.recompute_line_of_changed hrun hchanged, if_neg fun hquiet => h hquiet.1]
  | false => rw [State.recompute_line_of_not_changed hrun hchanged]

/-- A turnout after a warm start: its retained items, estimated where the image marks it present (R128). -/
theorem State.warmBegun_turnout (m : Image) {i : Nat} {x : Turnout} (h : s.meters.turnouts[i]? = some x) :
    (s.warmBegun m).meters.turnouts[i]? =
      some { resetTurnout with inService := x.inService, tally := x.tally, due := x.due, estimated := present m.settings i } := by
  simp [State.warmBegun, List.getElem?_zipIdx, h, warmTurnout, Turnout.kept]

end

/-- Settles O47: the blocks of each kind of start, and for a warm one what the first recompute writes. -/
theorem coldAndWarmStart : Obligations.ColdAndWarmStart := by
  intro s m hp c source quality limits rests counted both raised cold warm
  have hrests : ∀ (kind : StartKind) (inHand lastUsed : Option Nat) (target : Nat),
      rests { s.gate.afterStart c kind with inHand := inHand, target := target, lastUsed := lastUsed } := by
    intro kind inHand lastUsed target
    refine ⟨fun htrip => ?_, fun htrip hlimits => ?_, fun htrip hlimits => ?_, rfl, rfl, rfl, rfl, rfl, rfl, rfl, rfl, rfl, rfl, rfl, rfl,
      rfl, rfl, rfl, rfl, rfl, rfl, rfl, rfl, rfl, rfl, rfl, rfl⟩
    · simp [Gate.afterStart, htrip]
    · simp [Gate.afterStart, htrip, show s.gate.limClosed = true ∧ s.gate.limOpen = true from hlimits]
    · simp [Gate.afterStart, htrip, show ¬(s.gate.limClosed = true ∧ s.gate.limOpen = true) from hlimits]
  refine ⟨?cold, ?warm⟩
  case cold =>
    have hcold : cold = _ := State.coldStart_eq m
    clear_value cold
    subst hcold
    obtain ⟨hmasks, hmoderation⟩ := (s.withTime s.time.atCold).alertsAtStart_leaves c .cold
    refine ⟨⟨rfl, rfl, rfl, rfl, rfl, qualityAtStart_sourceOf s.time.crystal, rfl, rfl, hmasks, hmoderation,
      s.gate.afterStart_off c .cold, hrests .cold _ _ _, rfl, rfl, rfl, rfl, rfl, rfl, rfl, rfl, rfl, rfl, rfl, rfl, rfl⟩,
      rfl, rfl, rfl, rfl, rfl, rfl, rfl, rfl, rfl, rfl, rfl, rfl, rfl, rfl, rfl, rfl, rfl, rfl, rfl, rfl, fun x => ?_⟩
    refine ((s.withTime s.time.atCold).hasCause_alertsAtStart c .cold x).trans ?_
    rw [show (s.withTime s.time.atCold).time.source = sourceOf s.time.crystal from rfl, sourceOf_eq_internal_iff]
    rfl
  case warm =>
    have hwarm : warm = _ := State.warmStart_eq hp m
    clear_value warm
    subst hwarm
    have hrun := State.warmBegun_running hp m
    obtain ⟨horders, _, _, hblocks⟩ := recompute
    obtain ⟨hstartup, hsettings, htime, hinbox, hneigh, hmeters, hclose, hbilling, hlink, hpending, hbookKey, hslots, hfree, hplanner,
      hothers, hgrant, halerts, hline, _⟩ := hblocks (s.warmBegun m) hrun
    obtain ⟨target, lastUsed, hhanded⟩ :=
      Gate.handTarget_afterStart c 0 (s.warmBegun m).computePlan.release.target .warm s.gate
    have hgate : (s.warmBegun m).recompute.gate = _ := (State.recompute_gate hrun).trans hhanded
    have htx : (s.warmBegun m).recompute.line.tx = .gap := State.recompute_tx hrun (show LineTx.gap ≠ .quiet by decide)
    have hreach : (s.warmBegun m).recompute.line.reachReq = true := (State.recompute_of_running hrun).2.1 rfl
    obtain ⟨hmasks, hmoderation⟩ := (s.withTime (s.time.atWarm c.periodLength)).alertsAtStart_leaves c .warm
    have hcauses : ∀ x : Cause, hasCause (s.warmBegun m).alerts.pending x = true ↔ x = .warmStart ∨ raised x := by
      intro x
      refine ((s.withTime (s.time.atWarm c.periodLength)).hasCause_alertsAtStart c .warm x).trans ?_
      rw [show (s.withTime (s.time.atWarm c.periodLength)).time.source = sourceOf s.time.crystal from rfl, sourceOf_eq_internal_iff]
      rfl
    refine ⟨⟨hsettings, hpending, hinbox, congrArg TimeBase.elapsed htime, congrArg TimeBase.source htime,
        (congrArg TimeBase.quality htime).trans (qualityAtStart_sourceOf _), congrArg StartUp.failing hstartup,
        congrArg StartUp.image hstartup, (congrArg Alerts.masks halerts).trans hmasks,
        (congrArg Alerts.moderation halerts).trans hmoderation, ?off, ?rests, congrArg Planner.staged hplanner,
        congrArg Planner.correction hplanner, congrArg Planner.guardCut hplanner, congrArg Planner.target hplanner,
        congrArg Planner.headSupply hplanner, congrArg CloseUnit.history hclose, congrArg CloseUnit.queue hclose,
        congrArg CloseUnit.openLevel hclose, congrArg LineInterface.rx hline, congrArg LineInterface.lastSent hline,
        congrArg StationLink.buffer hlink, congrArg StationLink.reply hlink, congrArg NeighbourTable.entries hneigh⟩,
      congrArg StartUp.state hstartup, congrArg StartUp.lastStart hstartup, congrArg StartUp.catchUpDue hstartup,
      (congrArg StartUp.marker hstartup).trans rfl, congrArg TimeBase.counting htime, (congrArg TimeBase.retainedKey htime).trans rfl,
      congrArg TimeBase.time htime, hbookKey, hslots, hfree, ?orders, (congrArg NeighbourTable.watchEnd hneigh).trans rfl, ?results,
      congrArg Planner.planKey hplanner, congrArg CloseUnit.openKey hclose, htx, hreach, congrArg LineInterface.noticeTimer hline, hbilling,
      ?turnouts, congrArg Gate.counts hgate, congrArg Gate.volumeEst hgate, ?inHand, fun x => ?causes⟩
    case off =>
      rw [hgate]
      exact s.gate.afterStart_off c .warm
    case rests =>
      rw [hgate]
      exact hrests .warm _ _ _
    case orders =>
      intro slot o ho
      obtain ⟨o', ho', hfields, hlength, _, hfloor, hclosed, hentries⟩ := horders (s.warmBegun m) slot o ho
      exact ⟨o', ho', hfields, hlength, hfloor, hclosed, fun i e he => (hentries i e he).1⟩
    case results => rw [hplanner]; rfl
    case turnouts =>
      intro i x hx
      rw [hmeters]
      exact State.warmBegun_turnout m hx
    case inHand =>
      rw [hgate, hplanner]
      rfl
    case causes =>
      by_cases hx : x = .grantChanged
      · subst hx
        have hnone : ¬hasCause (s.warmBegun m).alerts.pending .grantChanged = true := by simp [hcauses, raised]
        simp only [hgrant, hnone, raised, reduceCtorEq, false_and, false_or, true_and]
        rfl
      · rw [hothers x hx, hcauses]
        simp only [hx, false_and, or_false]

end Sys2Proof.Machine
end

section
/-! The commands of the station link through their frames: what each row of the table of R192 reads from the payload of its command, and
that the frame built around a payload passes its checks (R168, R187, R188, R192). -/

namespace Sys2Proof.Machine

/-! ## Fields written and read (R187) -/

theorem fitsBytes_iff {n v : Nat} : fitsBytes n v = true ↔ v < 256 ^ n := decide_eq_true_iff

/-- A number whose bytes are all there is. -/
theorem fieldAt_toBytes_self {n v : Nat} (h : v < 256 ^ n) : fieldAt (toBytes n v) 0 n = v := by
  simpa using fieldAt_toBytes h []

/-- The marks of ALERT_ACK and ALERT_MASK. -/
theorem readMarks_toBytes (m : BitVec 24) : readMarks (toBytes 3 m.toNat) = m := by
  rw [readMarks, fieldAt_toBytes_self m.isLt, BitVec.ofNat_toNat, BitVec.setWidth_eq]

/-- A signed number within the range of its bytes is read back: below 0 its bytes are those of the number above it by their modulus. -/
theorem ofBytesSigned_toBytesSigned {n : Nat} {x : Int} (hlow : -((256 ^ n : Nat) : Int) ≤ 2 * x) (hhigh : 2 * x < ((256 ^ n : Nat) : Int)) :
    ofBytesSigned (toBytesSigned n x) = x := by
  have hmod : x % ((256 ^ n : Nat) : Int) = if 0 ≤ x then x else x + ((256 ^ n : Nat) : Int) := by
    split
    · exact Int.emod_eq_of_lt (by omega) (by omega)
    · rw [← Int.add_emod_right]
      exact Int.emod_eq_of_lt (by omega) (by omega)
  have hbytes : ofBytes (toBytesSigned n x) = (x % ((256 ^ n : Nat) : Int)).toNat := ofBytes_toBytes (by split at hmod <;> omega)
  rw [ofBytesSigned, hbytes, toBytesSigned, length_toBytes]
  split at hmod <;> split <;> omega

/-- The seven fields of ORDER_PLACE. -/
theorem readOrder_orderBytes {r : OrderRequest} (h : r.wellFormed = true) : readOrder (orderBytes r) = r := by
  simp only [OrderRequest.wellFormed, Bool.and_eq_true, fitsBytes_iff] at h
  simp only [readOrder, orderBytes, byte_eq_toBytes, List.append_assoc, fieldAt_append, fieldAt_toBytes, fieldAt_toBytes_self,
    length_toBytes, Nat.reduceLeDiff, Nat.reduceSub, h]

/-- The fifteen values of RATES_STAGE, four classes to a row. -/
theorem readRates_rateBytes {t : RateTable} (h : t.wellFormed = true) : readRates (rateBytes t) = t := by
  simp only [RateTable.wellFormed, ByClass.wellFormed, Bool.and_eq_true, fitsBytes_iff] at h
  simp only [readRates, readClasses, rateBytes, classRow, List.append_assoc, fieldAt_append, fieldAt_toBytes, fieldAt_toBytes_self,
    length_toBytes, Nat.reduceLeDiff, Nat.reduceSub, Nat.reduceAdd, h]

/-! ## The frame built around a payload (R168, R192) -/

section

variable {kind : Byte} {payload : List Byte}

/-- A frame built around a payload that is not too long passes. -/
theorem framePasses_linkChars (h : payload.length ≤ 1024) : framePasses { chars := linkChars kind payload, bad := false } = true := by
  have hfield : fieldAt (linkChars kind payload) 1 2 = payload.length := by
    rw [linkChars, List.cons_append, List.append_assoc]
    exact fieldAt_toBytes (by omega) _
  obtain ⟨body, hbody⟩ : ∃ body, kind :: (toBytes 2 payload.length ++ payload) = body := ⟨_, rfl⟩
  have hlength : body.length = payload.length + 3 := by rw [← hbody]; simp; omega
  have hchars : linkChars kind payload = body ++ crcBytes body := by rw [linkChars, hbody]
  rw [framePasses_iff, hfield, hchars, List.take_left' hlength, List.drop_left' hlength]
  exact ⟨rfl, by simp [hlength]; omega, h, rfl⟩

/-- The frame built around a payload stands for the command of that kind and payload. -/
theorem decodeLink_linkChars (h : payload.length ≤ 1024) :
    decodeLink { chars := linkChars kind payload, bad := false } = decodeCommand kind payload := by
  rw [decodeLink, if_pos (framePasses_linkChars h)]
  have hdrop : (linkChars kind payload).drop 3 = payload ++ crcBytes (kind :: (toBytes 2 payload.length ++ payload)) := rfl
  have hlength : (linkChars kind payload).length - 5 = payload.length := by simp [linkChars]; omega
  rw [hdrop, hlength, List.take_left' rfl]
  rfl

end

/-- A payload that some row calls for has at most 514 bytes. -/
theorem length_le_of_called {kind : Byte} {n : Nat} (h : Called kind n) : n ≤ 514 := by
  rcases h with hfixed | ⟨-, -, hhigh⟩
  · have hshort : ∀ x ∈ fixedLengths, x.2 ≤ 514 := by decide
    exact hshort _ hfixed
  · exact hhigh

/-! ## The commands one by one (R192) -/

/-- A well-formed command of the station link is what its own frame stands for. -/
def RoundTrips (c : Instr) : Prop :=
  c.wellFormed = true → ∀ (kind : Byte) (payload : List Byte), linkPayload c = some (kind, payload) →
    decodeLink { chars := linkChars kind payload, bad := false } = c

section

variable {c : Instr} {kind : Byte} {payload : List Byte} {r : LinkRow}

/-- A command goes round when its row reads it from its payload: the payload fits the row, so the frame passes and is decoded by that row. -/
theorem roundTrips_of_encoding (hfits : Laws.LinkEncoding.Statement c) (hpayload : linkPayload c = some (kind, payload))
    (hrow : linkRows.find? (fun r => r.kind == kind) = some r) (hread : c.wellFormed = true → r.read payload = c) : RoundTrips c := by
  intro hw kind' payload' h
  obtain ⟨rfl, rfl⟩ : kind = kind' ∧ payload = payload' := by simpa [hpayload] using h
  obtain ⟨r', hrow', hfit⟩ := hfits hw _ _ hpayload
  obtain rfl : r = r' := by simpa [hrow] using hrow'
  have hlength := length_le_of_called (called_of_row r (List.mem_of_find?_eq_some hrow) hfit)
  rw [decodeLink_linkChars (by omega), decodeCommand, hrow]
  simp only [hfit, if_true, hread hw]

/-- The command of a row that calls for one length. -/
theorem roundTrips_of_row (hpayload : linkPayload c = some (kind, payload)) (hrow : linkRows.find? (fun r => r.kind == kind) = some r)
    (hfit : r.fits payload.length = true) (hread : c.wellFormed = true → r.read payload = c) : RoundTrips c :=
  roundTrips_of_encoding (Laws.linkEncoding_of_row hpayload hrow fun _ => hfit) hpayload hrow hread

/-- The command of a row of one number. -/
theorem roundTrips_of_field {command : Nat → Instr} {n v : Nat} (hpayload : linkPayload (command v) = some (kind, toBytes n v))
    (hrow : linkRows.find? (fun r => r.kind == kind) = some (fixedRow kind n fun p => command (fieldAt p 0 n)))
    (hw : (command v).wellFormed = fitsBytes n v) : RoundTrips (command v) :=
  roundTrips_of_row hpayload hrow (by simp [fixedRow]) fun h => congrArg command (fieldAt_toBytes_self (fitsBytes_iff.1 (hw ▸ h)))

/-- A row of the table that is no command of the station link. -/
theorem roundTrips_of_none (h : linkPayload c = none) : RoundTrips c := by
  intro _ _ _ h'
  simp [h] at h'

end

/-- Every command goes round: its row reads each operand from the bytes that carry it. -/
theorem instr_roundTrips (c : Instr) : RoundTrips c := by
  cases c with
  -- no payload
  | bookList | alertRead | tripClear | seasonClose | restart | noticeNow | configEnd => exact roundTrips_of_row rfl rfl rfl fun _ => rfl
  -- one number
  | statusRead _ | planRead _ | orderQuery _ | accountQuery _ | turnoutQuery _ | logRead _ | supplySet _ | watchDeclare _ | orderCancel _
  | orderShutoff _ | targetStage _ | logRelease _ => exact roundTrips_of_field rfl rfl rfl
  -- several numbers
  | timeSet _ _ _ _ | accountSet _ _ _ _ | turnoutService _ _ | gateMode _ _ =>
    refine roundTrips_of_row rfl rfl rfl fun h => ?_
    simp only [Instr.wellFormed, Bool.and_eq_true, fitsBytes_iff] at h
    simp only [fixedRow, byte_eq_toBytes, List.append_assoc, fieldAt_append, fieldAt_toBytes, fieldAt_toBytes_self, length_toBytes,
      Nat.reduceLeDiff, Nat.reduceSub, h]
  | orderPlace _ => exact roundTrips_of_row rfl rfl rfl fun h => congrArg Instr.orderPlace (readOrder_orderBytes h)
  | ratesStage _ => exact roundTrips_of_row rfl rfl rfl fun h => congrArg Instr.ratesStage (readRates_rateBytes h)
  -- marks
  | alertAck m => exact roundTrips_of_row rfl rfl rfl fun _ => congrArg Instr.alertAck (readMarks_toBytes m)
  | alertMask m => exact roundTrips_of_row rfl rfl rfl fun _ => congrArg Instr.alertMask (readMarks_toBytes m)
  | turnoutAck _ marks =>
    exact roundTrips_of_row rfl rfl rfl fun h => congrArg (Instr.turnoutAck · marks) (fieldAt_toBytes (fitsBytes_iff.1 h) [marks])
  -- the signed byte of TIME_TRIM
  | timeTrim x =>
    refine roundTrips_of_row rfl rfl rfl fun h => ?_
    simp only [Instr.wellFormed, Bool.and_eq_true, decide_eq_true_eq] at h
    exact congrArg Instr.timeTrim (ofBytesSigned_toBytesSigned (n := 1) (by omega) (by omega))
  -- the bytes of CONFIG_DATA behind their offset
  | configData offset bytes =>
    refine roundTrips_of_encoding (Laws.LinkEncoding.configData offset bytes) rfl rfl fun h => ?_
    simp only [Instr.wellFormed, Bool.and_eq_true, fitsBytes_iff] at h
    obtain ⟨⟨hoffset, -⟩, -⟩ := h
    exact congrArg₂ Instr.configData (fieldAt_toBytes hoffset bytes) (List.drop_left' (length_toBytes 2 offset))
  -- the other rows of the table have no payload
  | _ => exact roundTrips_of_none rfl

/-- Settles O11: the layouts of R192 field by field, and the round trip command by command. -/
theorem linkCommandRoundTrip : Obligations.LinkCommandRoundTrip := by
  refine ⟨?layouts, fun c kind payload hw h => instr_roundTrips c hw kind payload h⟩
  intro a b d e x m q r t bytes four sent
  exact ⟨rfl, rfl, rfl, rfl, rfl, rfl, rfl, rfl, rfl, rfl, rfl, rfl, rfl, rfl, rfl, rfl, rfl, rfl, rfl, rfl, rfl, rfl, rfl, rfl, rfl, rfl,
    rfl, rfl, rfl, rfl⟩

end Sys2Proof.Machine
end

section
/-! The queue of waiting commands: a step takes the command at its front, and no command touches it. -/

namespace Sys2Proof.Machine

/-! ## The step on a waiting command -/

/-- Settles O1: a step looks at the queue first. -/
theorem stepRunsFrontCommand : Obligations.StepRunsFrontCommand := by
  intro c rest s h
  rw [step, h]

/-! ## The starts -/

section

variable {s : State}

/-- Both kinds of start leave the queue. -/
theorem State.startWith_pending (m : Image) : (s.startWith m).pending = s.pending := by
  unfold State.startWith
  split
  · simp [State.coldStart, State.coldBlocks, State.markCold, State.markInvalid]
  · simp [State.warmStart]

theorem State.takeMemoryImage_pending (image : List Byte) : (s.takeMemoryImage image).pending = s.pending := by
  unfold State.takeMemoryImage
  split
  · exact State.startWith_pending _
  · split <;> rfl

theorem State.takeLinkImage_pending (image : List Byte) : (s.takeLinkImage image).pending = s.pending := by
  unfold State.takeLinkImage
  split
  · exact State.startWith_pending _
  · rfl

end

/-! ## The owners of the link commands -/

/-- An owner leaves the queue of a state. -/
def Served.LeavesQueue (s : State) (x : Served) : Prop := x.state.pending = s.pending

section

variable {s u : State}

theorem queueLeft_refuse {r : ResultCode} : (s.refuse r).LeavesQueue s := rfl

theorem queueLeft_accept {data : List Byte} (h : u.pending = s.pending) : (u.accept data).LeavesQueue s := h

/-- A choice of the owner. -/
theorem queueLeft_if {p : Prop} [Decidable p] {x y : Served} (hx : x.LeavesQueue s) (hy : y.LeavesQueue s) :
    (if p then x else y).LeavesQueue s := by
  split
  · exact hx
  · exact hy

theorem State.takeTimeSet_leavesQueue (t : DistrictTime) : (s.takeTimeSet t).LeavesQueue s :=
  queueLeft_if queueLeft_refuse
    (queueLeft_if (queueLeft_accept (by simp [State.firstTime])) (queueLeft_if (queueLeft_accept (by simp)) queueLeft_refuse))

theorem State.takeTimeTrim_leavesQueue (x : Int) : (s.takeTimeTrim x).LeavesQueue s :=
  queueLeft_if (queueLeft_accept rfl) (queueLeft_accept (by simp))

theorem State.takeSupply_leavesQueue (flow : Nat) : (s.takeSupply flow).LeavesQueue s :=
  queueLeft_if (queueLeft_accept (by simp)) queueLeft_refuse

theorem State.takeTarget_leavesQueue (level : Nat) : (s.takeTarget level).LeavesQueue s :=
  queueLeft_if queueLeft_refuse (queueLeft_if queueLeft_refuse (queueLeft_accept rfl))

theorem State.declareWatch_leavesQueue (key : Nat) : (s.declareWatch key).LeavesQueue s :=
  queueLeft_if queueLeft_refuse (queueLeft_accept (by simp))

theorem State.takeOrder_leavesQueue (r : OrderRequest) : (s.takeOrder r).LeavesQueue s := by
  refine queueLeft_if queueLeft_refuse ?_
  split
  case h_2 => exact queueLeft_accept (by simp)
  all_goals exact queueLeft_refuse

theorem State.takeCancel_leavesQueue (number : Nat) : (s.takeCancel number).LeavesQueue s := by
  unfold State.takeCancel
  split
  · exact queueLeft_refuse
  · exact queueLeft_if (queueLeft_accept (by simp)) queueLeft_refuse

theorem State.takeShutoff_leavesQueue (number : Nat) : (s.takeShutoff number).LeavesQueue s := by
  unfold State.takeShutoff
  split
  · exact queueLeft_refuse
  · split
    · exact queueLeft_accept (by simp)
    · exact queueLeft_accept (by simp)
    · exact queueLeft_refuse
    · exact queueLeft_refuse

theorem State.takeAccount_leavesQueue (index allotment limit state : Nat) :
    (s.takeAccount index allotment limit state).LeavesQueue s := by
  refine queueLeft_if queueLeft_refuse (queueLeft_if queueLeft_refuse ?_)
  split
  · exact queueLeft_refuse
  · exact queueLeft_accept rfl

theorem State.takeRates_leavesQueue (table : RateTable) : (s.takeRates table).LeavesQueue s :=
  queueLeft_if (queueLeft_accept rfl) queueLeft_refuse

theorem State.takeRelease_leavesQueue (count : Nat) : (s.takeRelease count).LeavesQueue s := queueLeft_accept (by simp)

theorem State.takeSeasonClose_leavesQueue : s.takeSeasonClose.LeavesQueue s :=
  queueLeft_if queueLeft_refuse (queueLeft_if queueLeft_refuse (queueLeft_accept (by simp)))

theorem State.takeService_leavesQueue (i direction : Nat) : (s.takeService i direction).LeavesQueue s := by
  refine queueLeft_if queueLeft_refuse ?_
  split
  · exact queueLeft_refuse
  · refine queueLeft_if queueLeft_refuse (queueLeft_if (queueLeft_accept rfl) (queueLeft_accept ?_))
    split <;> simp

theorem State.takeTurnoutAck_leavesQueue (i : Nat) (marks : Byte) : (s.takeTurnoutAck i marks).LeavesQueue s :=
  queueLeft_if queueLeft_refuse (queueLeft_if queueLeft_refuse (queueLeft_accept rfl))

theorem State.takeGateMode_leavesQueue (mode opening : Nat) : (s.takeGateMode mode opening).LeavesQueue s := by
  unfold State.takeGateMode
  split
  · exact queueLeft_refuse
  · exact queueLeft_accept rfl

theorem State.takeTripClear_leavesQueue : s.takeTripClear.LeavesQueue s := queueLeft_if queueLeft_refuse (queueLeft_accept rfl)

theorem State.takeAck_leavesQueue (marks : BitVec 24) : (s.takeAck marks).LeavesQueue s := by
  unfold State.takeAck
  split
  · exact queueLeft_refuse
  · exact queueLeft_accept (by simp)

theorem State.takeMask_leavesQueue (marks : BitVec 24) : (s.takeMask marks).LeavesQueue s := by
  unfold State.takeMask
  split
  · exact queueLeft_refuse
  · exact queueLeft_accept rfl

theorem State.loadBytes_leavesQueue (offset : Nat) (bytes : List Byte) : (s.loadBytes offset bytes).LeavesQueue s := by
  refine queueLeft_if queueLeft_refuse (queueLeft_if queueLeft_refuse (queueLeft_accept ?_))
  split <;> rfl

theorem State.endLoad_leavesQueue : s.endLoad.LeavesQueue s :=
  queueLeft_if queueLeft_refuse (queueLeft_accept (State.takeLinkImage_pending _))

end

/-! ## Every command -/

/-- The answer of a command leaves the queue of a state. -/
def LeavesQueue (s : State) (o : Out) : Prop := ∀ t, o = .next t → t.pending = s.pending

section

variable {s t : State}

theorem leavesQueue_next (h : t.pending = s.pending) : LeavesQueue s (.next t) := by
  rintro _ ⟨⟩
  exact h

/-- Two answers that a condition chooses between. -/
theorem leavesQueue_if {p : Prop} [Decidable p] {a b : Out} (ha : LeavesQueue s a) (hb : LeavesQueue s b) :
    LeavesQueue s (if p then a else b) := by
  split
  · exact ha
  · exact hb

/-- An event: under its condition it leaves the queue, and otherwise the whole state. -/
theorem leavesQueue_event {p : Prop} [Decidable p] (h : t.pending = s.pending) :
    LeavesQueue s (if p then .next t else .next s) := leavesQueue_if (leavesQueue_next h) (leavesQueue_next rfl)

/-- A served command leaves the queue when its owner does: neither a refusal by the start state nor the reply touches it. -/
theorem leavesQueue_serve {c : Instr} {kind : Byte} {k : Service} {body : Served} (h : body.LeavesQueue s) :
    LeavesQueue s (.next (s.serve c kind k body)) := by
  refine leavesQueue_next ?_
  have hresult : (s.result k body).state.pending = s.pending := by
    unfold State.result
    split
    · rfl
    · exact h
  unfold State.serve
  split
  · exact hresult
  · rfl

theorem execReplySent_leavesQueue : LeavesQueue s (execReplySent s) := by
  unfold execReplySent
  split
  · exact leavesQueue_next rfl
  · exact leavesQueue_if (leavesQueue_next rfl) (leavesQueue_next rfl)

theorem execLevelSample_leavesQueue (record : List Byte) : LeavesQueue s (execLevelSample record s) := by
  refine leavesQueue_if ?_ (leavesQueue_next rfl)
  split <;> exact leavesQueue_next (by simp)

theorem execLineFrameReceived_leavesQueue (frame : List Byte) : LeavesQueue s (execLineFrameReceived frame s) := by
  refine leavesQueue_if ?_ (leavesQueue_next rfl)
  split
  · exact leavesQueue_next (by simp)
  · exact leavesQueue_next rfl

end

/-- Every command leaves the queue: an event by the frame of what it does, a served command by its owner. -/
theorem exec_leavesQueue (c : Instr) (s : State) : LeavesQueue s (exec c s) := by
  cases c with
  -- the events that act under one condition
  | periodBoundary | lineCharacterReceived _ _ | lineFrameGap | accessGapReached | collision | backoffExpiry | noticeComplete
  | holdoffExpiry | noticeTimerExpiry | holdExpiry _ | sampleWatchExpiry | encoderStep _ | restExpiry | stallExpiry
  | tripWaitExpiry | meterPulse _ | noFlowExpiry _ | linkCharacterReceived _ _ | linkFrameReceived _ _ | linkFrameGap
  | moderationExpiry => exact leavesQueue_event (by simp)
  | imageReadComplete _ => exact leavesQueue_event (State.takeMemoryImage_pending _)
  -- the period events, which also wait for an event in the inbox
  | planPeriodChange | gatePeriodBoundary | meterPeriodClose | periodClose | billingDayClose =>
    simp only [exec, execPlanPeriodChange, execGatePeriodBoundary, execMeterPeriodClose, execPeriodClose, execBillingDayClose]
    split
    · exact leavesQueue_event (by simp)
    · exact leavesQueue_next rfl
  -- the other events
  | resetRelease _ _ _ | supplyLoss => exact leavesQueue_next rfl
  | catchUp => exact leavesQueue_next (by simp)
  | replySent => exact execReplySent_leavesQueue
  | levelSample record => exact execLevelSample_leavesQueue record
  | lineFrameReceived frame => exact execLineFrameReceived_leavesQueue frame
  | crystalRunning => exact leavesQueue_if (leavesQueue_next rfl) (leavesQueue_next rfl)
  | crystalStop | supplyLowChange _ =>
    exact leavesQueue_if (leavesQueue_next rfl) (leavesQueue_if (leavesQueue_next rfl) (leavesQueue_next rfl))
  | tripInputChange _ =>
    exact leavesQueue_if (leavesQueue_next rfl) (leavesQueue_if (leavesQueue_next (by simp)) (leavesQueue_next rfl))
  | limitInputChange _ _ =>
    exact leavesQueue_if (leavesQueue_next rfl)
      (leavesQueue_if (leavesQueue_next rfl) (leavesQueue_if (leavesQueue_next (by simp)) (leavesQueue_next rfl)))
  -- the reads, and the commands whose owner always answers the same
  | statusRead _ | planRead _ | orderQuery _ | accountQuery _ | turnoutQuery _ =>
    exact leavesQueue_serve (congrArg State.pending (State.read_state _ _))
  | bookList | logRead _ | alertRead | restart | noticeNow => exact leavesQueue_serve (queueLeft_accept rfl)
  | check _ | unknownCommand _ => exact leavesQueue_serve queueLeft_refuse
  -- the other served commands, by their owners
  | timeSet _ _ _ _ => exact leavesQueue_serve (State.takeTimeSet_leavesQueue _)
  | timeTrim _ => exact leavesQueue_serve (State.takeTimeTrim_leavesQueue _)
  | supplySet _ => exact leavesQueue_serve (State.takeSupply_leavesQueue _)
  | targetStage _ => exact leavesQueue_serve (State.takeTarget_leavesQueue _)
  | watchDeclare _ => exact leavesQueue_serve (State.declareWatch_leavesQueue _)
  | orderPlace _ => exact leavesQueue_serve (State.takeOrder_leavesQueue _)
  | orderCancel _ => exact leavesQueue_serve (State.takeCancel_leavesQueue _)
  | orderShutoff _ => exact leavesQueue_serve (State.takeShutoff_leavesQueue _)
  | accountSet _ _ _ _ => exact leavesQueue_serve (State.takeAccount_leavesQueue _ _ _ _)
  | ratesStage _ => exact leavesQueue_serve (State.takeRates_leavesQueue _)
  | logRelease _ => exact leavesQueue_serve (State.takeRelease_leavesQueue _)
  | seasonClose => exact leavesQueue_serve State.takeSeasonClose_leavesQueue
  | turnoutService _ _ => exact leavesQueue_serve (State.takeService_leavesQueue _ _)
  | turnoutAck _ _ => exact leavesQueue_serve (State.takeTurnoutAck_leavesQueue _ _)
  | gateMode _ _ => exact leavesQueue_serve (State.takeGateMode_leavesQueue _ _)
  | tripClear => exact leavesQueue_serve State.takeTripClear_leavesQueue
  | alertAck _ => exact leavesQueue_serve (State.takeAck_leavesQueue _)
  | alertMask _ => exact leavesQueue_serve (State.takeMask_leavesQueue _)
  | configData _ _ => exact leavesQueue_serve (State.loadBytes_leavesQueue _ _)
  | configEnd => exact leavesQueue_serve State.endLoad_leavesQueue

/-- Settles O2, command by command. -/
theorem execKeepsQueue : Obligations.ExecKeepsQueue := fun c s => exec_leavesQueue c s

end Sys2Proof.Machine
end
section
/-! The rest of the drive (R104): what the drive may do within one instant, over the operations of the Gate Controller, the blocks that hand it a
target, and every command. -/

namespace Sys2Proof.Machine

/-! ## What the drive may do within one instant -/

/-- The drive from one gate to the next within one instant, outside the ends of the two rest times: an output that is on was on before or was
turned on in STOPPED; STOPPED is not entered; the end of a move is recorded, and nothing else is; a rest that begins, begins now. -/
structure Gate.Follows (now : Nat) (g g' : Gate) : Prop where
  on : g'.drive.on = true → g'.drive = g.drive ∨ g.drive = .stopped
  stopped : g'.drive = .stopped → g.drive = .stopped ∧ g'.lastOff = g.lastOff
  off : g.drive.on = true → g'.drive.on = false → g'.lastOff = some now
  last : g'.lastOff = g.lastOff ∨ g'.lastOff = some now
  rests : g'.drive.rests = true →
    g'.restStart = some now ∨ (g'.drive = g.drive ∧ g'.restStart = g.restStart ∧ g'.lastOff = g.lastOff)

/-- What R104 asks of the gate before and after a step of the working part at an instant, with `rest` the rest time in ms. -/
structure Gate.RestRule (rest now : Nat) (g g' : Gate) : Prop where
  kept : g'.RestKept rest now
  begins : g.drive.on = false → g'.drive.on = true → ∀ x, g.lastOff = some x → x + rest ≤ now
  opened : g.drive.openOn = true → g'.drive.closeOn = false
  closed : g.drive.closeOn = true → g'.drive.openOn = false
  ends : g.drive.on = true → g'.drive.on = false → g'.lastOff = some now
  last : ∀ x, g.lastOff = some x → ∃ y, g'.lastOff = some y ∧ x ≤ y

/-- The two outputs exclude each other. -/
theorem Drive.not_open_and_close (d : Drive) : ¬(d.openOn = true ∧ d.closeOn = true) := by
  cases d with
  | tripped phase => cases phase <;> simp [Drive.openOn, Drive.closeOn]
  | stopped | opening | closing | resting | fault => simp [Drive.openOn, Drive.closeOn]

theorem Drive.on_of_openOn {d : Drive} (h : d.openOn = true) : d.on = true := by simp [Drive.on, h]

theorem Drive.on_of_closeOn {d : Drive} (h : d.closeOn = true) : d.on = true := by simp [Drive.on, h]

theorem Drive.ne_stopped_of_on {d : Drive} (h : d.on = true) : d ≠ .stopped := by rintro rfl; cases h

/-- A drive that moves does not rest. -/
theorem Drive.rests_of_on {d : Drive} (h : d.on = true) : d.rests = false := by
  cases d with
  | tripped phase =>
    cases phase with
    | moving => rfl
    | waiting | done => cases h
  | opening | closing => rfl
  | stopped | resting | fault => cases h

section

variable {c : Config.Settings} {now rest : Nat} {g g' g'' : Gate}

/-- A gate with the same drive, rest timer and last stop. -/
theorem Gate.Follows.of_same (hdrive : g'.drive = g.drive) (hrest : g'.restStart = g.restStart) (hlast : g'.lastOff = g.lastOff) :
    g.Follows now g' where
  on _ := .inl hdrive
  stopped h := ⟨hdrive ▸ h, hlast⟩
  off h h' := absurd (hdrive ▸ h) (by simp [h'])
  last := .inl hlast
  rests _ := .inr ⟨hdrive, hrest, hlast⟩

theorem Gate.Follows.refl : g.Follows now g := .of_same rfl rfl rfl

theorem Gate.Follows.trans (h : g.Follows now g') (h' : g'.Follows now g'') : g.Follows now g'' where
  on hon := by
    rcases h'.on hon with heq | hstopped
    · rcases h.on (heq ▸ hon) with heq' | hstopped
      · exact .inl (heq.trans heq')
      · exact .inr hstopped
    · exact .inr (h.stopped hstopped).1
  stopped hs := by
    obtain ⟨hs', hlast'⟩ := h'.stopped hs
    obtain ⟨hs'', hlast⟩ := h.stopped hs'
    exact ⟨hs'', hlast'.trans hlast⟩
  off hon hoff := by
    cases hmid : g'.drive.on with
    | true => exact h'.off hmid hoff
    | false =>
      have hnow := h.off hon hmid
      rcases h'.last with hl | hl
      · exact hl.trans hnow
      · exact hl
  last := by
    rcases h'.last with hl | hl
    · rcases h.last with hl' | hl'
      · exact .inl (hl.trans hl')
      · exact .inr (hl.trans hl')
    · exact .inr hl
  rests hr := by
    rcases h'.rests hr with hnow | ⟨hdrive, hrest, hlast⟩
    · exact .inl hnow
    · rcases h.rests (hdrive ▸ hr) with hnow | ⟨hdrive', hrest', hlast'⟩
      · exact .inl (hrest.trans hnow)
      · exact .inr ⟨hdrive.trans hdrive', hrest.trans hrest', hlast.trans hlast'⟩

/-- The rests are kept and the rule holds from one gate to the next within an instant. -/
theorem Gate.Follows.restRule (h : g.Follows now g') (hkept : g.RestKept rest now) : g.RestRule rest now g' := by
  obtain ⟨hpast, hstopped, hrests⟩ := hkept
  have hsame : g'.drive.on = true → g.drive.on = true → g'.drive = g.drive := fun hon hon' => by
    rcases h.on hon with heq | hs
    · exact heq
    · exact absurd hs (Drive.ne_stopped_of_on hon')
  have hpast' : ∀ x, g'.lastOff = some x → x ≤ now := fun x hx => by
    rcases h.last with hl | hl
    · exact hpast x (hl ▸ hx)
    · cases hl.symm.trans hx; exact Nat.le_refl _
  refine ⟨⟨hpast', fun hs x hx => ?_, fun hr => ?_⟩, fun hoff hon x hx => ?_, fun ho => ?_, fun hc => ?_, h.off, fun x hx => ?_⟩
  · obtain ⟨hs', hlast⟩ := h.stopped hs
    exact hstopped hs' x (hlast ▸ hx)
  · rcases h.rests hr with hnow | ⟨hdrive, hrest, hlast⟩
    · exact ⟨now, hnow, Nat.le_refl _, hpast'⟩
    · rw [hrest, hlast]
      exact hrests (hdrive ▸ hr)
  · rcases h.on hon with heq | hs
    · exact absurd (heq ▸ hon) (by simp [hoff])
    · exact hstopped hs x hx
  · refine Bool.eq_false_iff.2 fun hc => g.drive.not_open_and_close ⟨ho, ?_⟩
    rwa [← hsame (Drive.on_of_closeOn hc) (Drive.on_of_openOn ho)]
  · refine Bool.eq_false_iff.2 fun ho => g.drive.not_open_and_close ⟨?_, hc⟩
    rwa [← hsame (Drive.on_of_openOn ho) (Drive.on_of_closeOn hc)]
  · rcases h.last with hl | hl
    · exact ⟨x, hl.trans hx, Nat.le_refl _⟩
    · exact ⟨now, hl, hpast x hx⟩

/-! ## The operations of the Gate Controller (chapter 6) -/

/-- Every state but STOPPED and the moves may be entered at any instant. -/
theorem Gate.follows_enter {d : Drive} (hoff : d.on = false) (hd : d ≠ .stopped) : g.Follows now (g.enter now d) where
  on h := absurd h (by simp [Gate.enter, hoff])
  stopped h := absurd h hd
  off h _ := by simp [Gate.enter, h, hoff]
  last := by
    unfold Gate.enter
    dsimp only
    split
    · exact .inr rfl
    · exact .inl rfl
  rests h := .inl (if_pos h)

/-- A move begins in STOPPED. -/
theorem Gate.follows_enter_of_stopped {d : Drive} (hs : g.drive = .stopped) (hon : d.on = true) : g.Follows now (g.enter now d) where
  on _ := .inr hs
  stopped h := absurd h (Drive.ne_stopped_of_on hon)
  off h := absurd hs (Drive.ne_stopped_of_on h)
  last := .inl (if_neg (by simp [hon]))
  rests h := absurd (h : d.rests = true) (Bool.eq_false_iff.1 (Drive.rests_of_on hon))

theorem Gate.follows_startRule : g.Follows now (g.startRule c now) := by
  unfold Gate.startRule
  dsimp only
  split
  · exact .refl
  · rename_i hs
    have hs : g.drive = .stopped := Decidable.not_not.1 hs
    repeat' split
    · exact .refl
    · exact .refl
    · exact Gate.follows_enter_of_stopped hs rfl
    · exact Gate.follows_enter_of_stopped hs rfl
    · exact .refl

theorem Gate.follows_onTarget : g.Follows now (g.onTarget c now) := by
  cases hd : g.drive with
  | stopped => simpa only [Gate.onTarget, hd] using Gate.follows_startRule
  | opening | closing =>
    simp only [Gate.onTarget, hd]
    split
    · exact Gate.follows_enter rfl (by simp)
    · exact .refl
  | resting | tripped | fault => simpa only [Gate.onTarget, hd] using .refl

theorem Gate.follows_onPosition : g.Follows now (g.onPosition c now) := by
  unfold Gate.onPosition
  split
  · repeat' split
    · exact Gate.follows_enter rfl (by simp)
    · exact .refl
    · exact .refl
  · exact Gate.follows_onTarget

theorem Gate.follows_computeTarget : g.Follows now (g.computeTarget c) := by
  rw [Gate.computeTarget_eq]
  exact .of_same rfl rfl rfl

theorem Gate.follows_handTarget (release : Nat) : g.Follows now (g.handTarget c now release) := by
  have hkept : g.Follows now { g with inHand := some release } := .of_same rfl rfl rfl
  by_cases h : g.ActsOn c release
  · rw [Gate.handTarget_of_acts h]
    exact (hkept.trans Gate.follows_computeTarget).trans Gate.follows_onTarget
  · rwa [Gate.handTarget_of_not_acts h]

theorem Gate.follows_closeOnce (key : Nat) : g.Follows now (g.closeOnce key) := by
  unfold Gate.closeOnce
  split <;> exact .of_same rfl rfl rfl

theorem Gate.follows_count (opening : Bool) : g.Follows now (g.count opening) := by
  unfold Gate.count
  repeat' split
  all_goals exact .of_same rfl rfl rfl

theorem Gate.follows_step (opening : Bool) : g.Follows now (g.step opening c now) := by
  unfold Gate.step
  dsimp only
  refine Gate.Follows.trans ?_ Gate.follows_onPosition
  split
  · exact (Gate.follows_count opening).trans (.of_same rfl rfl rfl)
  · exact Gate.follows_count opening

theorem Gate.follows_setFault (r : FaultRecord) : g.Follows now (g.setFault now r) := by
  have hrecord : g.Follows now { g with record := r } := .of_same rfl rfl rfl
  unfold Gate.setFault
  dsimp only
  split
  · exact hrecord.trans (Gate.follows_enter rfl (by simp))
  · exact hrecord
  · exact hrecord.trans (Gate.follows_enter rfl (by simp))

theorem Gate.follows_limitStop (openLimit : Bool) : g.Follows now (g.limitStop now openLimit) := by
  unfold Gate.limitStop
  repeat' split
  · exact Gate.follows_enter rfl (by simp)
  · exact .refl
  · exact .refl
  · exact Gate.follows_enter rfl (by simp)
  · exact Gate.follows_enter rfl (by simp)
  · exact .refl
  · exact .refl

theorem Gate.follows_limitActive (openLimit : Bool) : g.Follows now (g.limitActive openLimit c now) := by
  have hplaced : g.Follows now (g.limitPosition c openLimit) := by cases openLimit <;> exact .of_same rfl rfl rfl
  unfold Gate.limitActive
  dsimp only
  split
  · exact hplaced.trans (Gate.follows_setFault _)
  · exact (hplaced.trans (Gate.follows_limitStop _)).trans Gate.follows_onPosition

theorem Gate.follows_supplyLowChanged : g.Follows now (g.supplyLowChanged c now) := by
  unfold Gate.supplyLowChanged
  split
  · split
    · exact Gate.follows_enter rfl (by simp)
    · exact Gate.follows_enter rfl (by simp)
    all_goals exact .refl
  · exact Gate.follows_startRule

theorem Gate.follows_trip : g.Follows now (g.trip now) := Gate.follows_enter rfl (by simp)

theorem Gate.follows_resume : g.Follows now (g.resume now) := by
  unfold Gate.resume
  split
  · exact Gate.follows_enter rfl (by simp)
  · exact Gate.follows_enter rfl (by simp)

/-- The first two acts of a boundary: the accumulator closed, and the opening target computed in AUTO (R97, R101). -/
def Gate.boundaryAimed (c : Config.Settings) (now key : Nat) (g : Gate) : Gate :=
  if (g.closeOnce key).mode = .auto then ((g.closeOnce key).computeTarget c).onTarget c now else g.closeOnce key

theorem Gate.boundary_eq (key : Nat) : g.boundary c now key =
    if (g.boundaryAimed c now key).autoResumes c then (g.boundaryAimed c now key).resume now else g.boundaryAimed c now key := rfl

theorem Gate.follows_boundary (key : Nat) : g.Follows now (g.boundary c now key) := by
  have hclosed := Gate.follows_closeOnce (now := now) (g := g) key
  have haimed : g.Follows now (g.boundaryAimed c now key) := by
    unfold Gate.boundaryAimed
    split
    · exact (hclosed.trans Gate.follows_computeTarget).trans Gate.follows_onTarget
    · exact hclosed
  rw [Gate.boundary_eq]
  split
  · exact haimed.trans Gate.follows_resume
  · exact haimed

theorem Gate.follows_setMode (mode : ControlMode) (opening : Nat) : g.Follows now (g.setMode mode opening c now) := by
  cases mode with
  | manual =>
    refine Gate.Follows.trans ?_ Gate.follows_onTarget
    exact .of_same rfl rfl rfl
  | auto =>
    refine (Gate.Follows.trans ?_ Gate.follows_computeTarget).trans Gate.follows_onTarget
    exact .of_same rfl rfl rfl

theorem Gate.follows_computeFlow (hU hD : Nat) : g.Follows now (g.computeFlow c hU hD) := by
  unfold Gate.computeFlow
  dsimp only
  repeat' split
  all_goals exact .of_same rfl rfl rfl

/-- The gate with a good sample in its window and the averages formed (R92, R94). -/
def Gate.sighted (u d : Nat) (g : Gate) : Gate :=
  { g with
    window := joinWindow g.window (u, d), missed := 0, levelFault := false
    lastU := (({ g with window := joinWindow g.window (u, d) } : Gate).hU).getD 0
    lastD := (({ g with window := joinWindow g.window (u, d) } : Gate).hD).getD 0 }

/-- A good sample that clears LEVEL_FAULT computes an opening target, on which the drive acts (R94, R101). -/
def Gate.sampleAimed (c : Config.Settings) (now u d : Nat) (g : Gate) : Gate :=
  if g.levelFault then ((g.sighted u d).computeTarget c).onTarget c now else g.sighted u d

/-- The flow of a good sample and, in RUN, its volume (R95, R96). -/
def Gate.metered (c : Config.Settings) (inRun : Bool) (hU hD : Nat) (g : Gate) : Gate :=
  if inRun then (g.computeFlow c hU hD).addVolume c false else g.computeFlow c hU hD

theorem Gate.goodSample_eq (inRun : Bool) (u d : Nat) : g.goodSample c now inRun u d =
    ((g.sampleAimed c now u d).metered c inRun (g.sighted u d).lastU (g.sighted u d).lastD).judgeWindow c
      (g.sighted u d).lastU (g.sighted u d).lastD := rfl

theorem Gate.follows_goodSample (inRun : Bool) (u d : Nat) : g.Follows now (g.goodSample c now inRun u d) := by
  have hsighted : g.Follows now (g.sighted u d) := .of_same rfl rfl rfl
  have haimed : g.Follows now (g.sampleAimed c now u d) := by
    unfold Gate.sampleAimed
    split
    · exact (hsighted.trans Gate.follows_computeTarget).trans Gate.follows_onTarget
    · exact hsighted
  have hmetered : ∀ (x : Gate) (hU hD : Nat), x.Follows now (x.metered c inRun hU hD) := by
    intro x hU hD
    unfold Gate.metered
    split
    · exact (Gate.follows_computeFlow hU hD).trans (.of_same rfl rfl rfl)
    · exact Gate.follows_computeFlow hU hD
  rw [Gate.goodSample_eq]
  exact (haimed.trans (hmetered _ _ _)).trans (.of_same rfl rfl rfl)

/-- A missed sample counted and, in RUN, its held volume added (R93). -/
def Gate.missCounted (c : Config.Settings) (inRun : Bool) (g : Gate) : Gate :=
  if inRun then ({ g with missed := min (g.missed + 1) 3 } : Gate).addVolume c true else { g with missed := min (g.missed + 1) 3 }

theorem Gate.missedSample_eq (inRun : Bool) : g.missedSample c now inRun =
    if (g.missCounted c inRun).missed = 3 ∧ !(g.missCounted c inRun).levelFault
    then ({ g.missCounted c inRun with levelFault := true, window := [] } : Gate).startRule c now
    else g.missCounted c inRun := rfl

theorem Gate.follows_missedSample (inRun : Bool) : g.Follows now (g.missedSample c now inRun) := by
  have hcounted : g.Follows now (g.missCounted c inRun) := by
    unfold Gate.missCounted
    split <;> exact .of_same rfl rfl rfl
  have hfault : (g.missCounted c inRun).Follows now { g.missCounted c inRun with levelFault := true, window := [] } :=
    .of_same rfl rfl rfl
  rw [Gate.missedSample_eq]
  split
  · exact (hcounted.trans hfault).trans Gate.follows_startRule
  · exact hcounted

/-! ## The ends of the two rest times (R107, R111) -/

/-- The rest time of RESTING ends: a full rest time has passed since an output went off. -/
theorem Gate.restRule_restEnd (hkept : g.RestKept rest now) (hd : g.drive = .resting) {x : Nat} (hx : g.restStart = some x)
    (hend : x + rest ≤ now) : g.RestRule rest now ((g.enter now .stopped).startRule c now) := by
  obtain ⟨hpast, -, hrests⟩ := hkept
  obtain ⟨r, hr, -, hbefore⟩ := hrests (by rw [hd]; rfl)
  cases hr.symm.trans hx
  have hlast : (g.enter now .stopped).lastOff = g.lastOff := by simp [Gate.enter, hd, Drive.on, Drive.openOn, Drive.closeOn]
  have hrested : ∀ y, g.lastOff = some y → y + rest ≤ now := fun y hy => by have := hbefore y hy; omega
  have hstopped : (g.enter now .stopped).RestKept rest now :=
    ⟨by rwa [hlast], fun _ => by rwa [hlast], fun h => absurd h (by simp [Gate.enter, Drive.rests])⟩
  obtain ⟨hkept', -, -, -, -, hlater⟩ := (Gate.follows_startRule (c := c)).restRule hstopped
  rw [hlast] at hlater
  exact ⟨hkept', fun _ _ => hrested, fun h => absurd h (by simp [hd, Drive.openOn]), fun h => absurd h (by simp [hd, Drive.closeOn]),
    fun h => absurd h (by simp [hd, Drive.on, Drive.openOn, Drive.closeOn]), hlater⟩

/-- The trip action ends the trip or begins its move. -/
theorem Gate.tripAct_cases (c : Config.Settings) (now : Nat) (g : Gate) :
    g.tripAct c now = g.enter now (.tripped .done) ∨ ∃ up, g.tripAct c now = g.enter now (.tripped (.moving up)) := by
  unfold Gate.tripAct
  dsimp only
  repeat' split
  · exact .inl rfl
  · exact .inl rfl
  · exact .inr ⟨true, rfl⟩
  · exact .inl rfl
  · exact .inr ⟨false, rfl⟩

/-- The rest time of WAITING ends in the trip action. -/
theorem Gate.restRule_tripAct (hkept : g.RestKept rest now) (hd : g.drive = .tripped .waiting) {x : Nat} (hx : g.restStart = some x)
    (hend : x + rest ≤ now) : g.RestRule rest now (g.tripAct c now) := by
  obtain ⟨hpast, -, hrests⟩ := hkept
  obtain ⟨r, hr, -, hbefore⟩ := hrests (by rw [hd]; rfl)
  cases hr.symm.trans hx
  have hlast : ∀ d, (g.enter now d).lastOff = g.lastOff := fun d => by simp [Gate.enter, hd, Drive.on, Drive.openOn, Drive.closeOn]
  have hrested : ∀ y, g.lastOff = some y → y + rest ≤ now := fun y hy => by have := hbefore y hy; omega
  have hentered : ∀ d, d ≠ .stopped → d.rests = false → g.RestRule rest now (g.enter now d) := fun d hd' hr' =>
    ⟨⟨by rwa [hlast], fun h => absurd h hd', fun h => absurd (h : d.rests = true) (Bool.eq_false_iff.1 hr')⟩, fun _ _ => hrested,
      fun h => absurd h (by simp [hd, Drive.openOn]), fun h => absurd h (by simp [hd, Drive.closeOn]),
      fun h => absurd h (by simp [hd, Drive.on, Drive.openOn, Drive.closeOn]),
      fun y hy => ⟨y, (hlast d).trans hy, Nat.le_refl _⟩⟩
  rcases g.tripAct_cases c now with h | ⟨up, h⟩
  · rw [h]; exact hentered _ (by simp) rfl
  · rw [h]; exact hentered _ (by simp) rfl

end

section

variable {s t u : State}

/-! ## The part within one instant -/

/-- The settings and the instant stay, and the drive does what it may within one instant. -/
def State.Follows (s t : State) : Prop :=
  t.settings = s.settings ∧ t.time.elapsed = s.time.elapsed ∧ s.gate.Follows s.time.elapsed t.gate

theorem State.Follows.of_same (h : t.settings = s.settings ∧ t.time.elapsed = s.time.elapsed ∧ t.gate = s.gate) : s.Follows t :=
  ⟨h.1, h.2.1, h.2.2 ▸ .refl⟩

theorem State.Follows.refl : s.Follows s := .of_same ⟨rfl, rfl, rfl⟩

theorem State.Follows.trans (h : s.Follows t) (h' : t.Follows u) : s.Follows u := by
  obtain ⟨hset, htime, hgate⟩ := h
  obtain ⟨hset', htime', hgate'⟩ := h'
  exact ⟨hset'.trans hset, htime'.trans htime, hgate.trans (htime ▸ hgate')⟩

/-- A state that is followed by another with the same settings, instant and gate. -/
theorem State.Follows.then_same (h : s.Follows t) (h' : u.settings = t.settings ∧ u.time.elapsed = t.time.elapsed ∧ u.gate = t.gate) :
    s.Follows u := h.trans (.of_same h')

/-- A change of the gate alone. -/
theorem State.follows_withGate {g : Gate} (h : s.gate.Follows s.time.elapsed g) : s.Follows (s.withGate g) := ⟨rfl, rfl, h⟩

theorem State.follows_changeGate {f : Config.Settings → Nat → Gate → Gate} (h : ∀ c now g, Gate.Follows now g (f c now g)) :
    s.Follows (s.changeGate f) := State.follows_withGate (h _ _ _)

/-! ## The blocks that hand the gate a target (R67, R68, R84) -/

theorem State.follows_recompute : s.Follows s.recompute := by
  cases hrun : s.running with
  | false => rw [State.recompute_of_not_running hrun]; exact .refl
  | true => exact ⟨by simp, by simp, State.recompute_gate hrun ▸ Gate.follows_handTarget _⟩

/-- A recompute after a change that the gate takes no part in. -/
theorem State.Follows.then_recompute (h : s.Follows t) : s.Follows t.recompute := h.trans State.follows_recompute

theorem State.follows_planPeriodChange (newKey : Nat) : s.Follows (s.planPeriodChange newKey) := by
  unfold State.planPeriodChange
  split
  · exact .refl
  · exact State.Follows.then_recompute (.of_same (by simp))

theorem State.follows_loseEntry (i : Nat) : s.Follows (s.loseEntry i) := by
  unfold State.loseEntry
  split
  · exact .refl
  · exact State.Follows.then_recompute (.of_same (by simp))

theorem State.follows_acceptNotice (i : Nat) (e : Entry) (f : ReachFields) : s.Follows (s.acceptNotice i e f) := by
  have hhanded : ∀ v : State, v.Follows (v.handPairs e.role f) := by
    intro v
    unfold State.handPairs
    split
    · exact .refl
    · exact .of_same (by simp)
  rw [State.acceptNotice_eq]
  have hentered : s.Follows (if e.state = .fresh then s.putEntry i (e.accept s.settings.station.number s.time.elapsed f)
      else (s.putEntry i (e.accept s.settings.station.number s.time.elapsed f)).raise .neighbourBack) := by
    split <;> exact .of_same ⟨rfl, rfl, rfl⟩
  split
  · exact (hentered.trans (hhanded _)).then_recompute
  · exact hentered.trans (hhanded _)

theorem State.follows_mergeWatch (key : Nat) : s.Follows (s.mergeWatch key) := .of_same (by simp)

theorem State.follows_takeNotice (n : Notice) : s.Follows (s.takeNotice n) := by
  cases n with
  | watch sender key watchEnd =>
    unfold State.takeNotice
    dsimp only
    split
    · exact .refl
    · exact State.follows_mergeWatch _
  | reach sender f =>
    by_cases hrun : s.startup.state = .run
    · cases hi : s.neigh.indexOf sender with
      | none =>
        rw [State.takeNotice_reach_of_stranger hrun hi]
        split
        · exact State.follows_mergeWatch _
        · exact .refl
      | some i =>
        obtain ⟨e, he⟩ := NeighbourTable.getElem?_of_indexOf hi
        rw [State.takeNotice_reach_of_neighbour hrun he hi]
        split
        · exact (State.follows_acceptNotice i e f).trans (State.follows_mergeWatch _)
        · exact .of_same (by simp)
    · rw [State.takeNotice_reach_of_not_run hrun]
      exact State.follows_mergeWatch _

/-! ## The close of a period (R97, R129) -/

theorem State.follows_closePeriod (n : Nat) : s.Follows (s.closePeriod n) := by
  rcases Nat.lt_or_ge s.close.openKey n with h | h
  · obtain ⟨pair, hpair⟩ := (s.gate.closeOnce_leaves s.close.openKey).1
    have hbalanced : s.Follows (s.balanced n pair) := by
      refine ⟨?_, ?_, ?_⟩
      · simp [State.balanced, State.reported, State.attributed, State.metersAndGateClosed]
      · simp [State.balanced, State.reported, State.attributed, State.metersAndGateClosed]
      · rw [(s.balanced_leaves n pair).2.2.1]
        exact Gate.follows_closeOnce _
    rw [State.closePeriod_of_lt h hpair, State.afterClose]
    split
    · exact hbalanced.then_recompute
    · exact hbalanced
  · rw [State.closePeriod_of_le h]
    exact .refl

theorem State.follows_settleMeters : s.Follows s.settleMeters := by
  unfold State.settleMeters
  split
  · exact List.foldlRecOn (motive := s.Follows) _ _ .refl fun t ht e _ =>
      (ht.trans (State.follows_closePeriod e.oldKey)).then_same (by simp)
  · exact .refl

theorem State.follows_settleGate : s.Follows s.settleGate := by
  unfold State.settleGate
  split
  · exact List.foldlRecOn (motive := s.Follows) _ _ .refl fun t ht e _ =>
      (ht.trans (State.follows_closePeriod _)).trans (State.follows_withGate (Gate.follows_closeOnce _))
  · exact .refl

/-! ## The Time Base (chapter 1) -/

@[simp] theorem State.moveTime_elapsed (oldKey : Nat) (x : DistrictTime) : (s.moveTime oldKey x).time.elapsed = s.time.elapsed := by
  unfold State.moveTime
  dsimp only
  split <;> rfl

@[simp] theorem State.catchUp_elapsed : s.catchUp.time.elapsed = s.time.elapsed := by
  unfold State.catchUp
  split
  · rw [State.moveTime_elapsed]; rfl
  · rfl

theorem State.follows_takeTimeSet (x : DistrictTime) : s.Follows (s.takeTimeSet x).state := by
  unfold State.takeTimeSet
  repeat' split
  · exact .refl
  · rw [State.accept_state, State.firstTime, State.enterRun]
    exact State.Follows.then_recompute (.of_same (by simp))
  · exact .of_same (by simp [State.setTime])
  · exact .refl

theorem State.follows_takeTimeTrim (seconds : Int) : s.Follows (s.takeTimeTrim seconds).state := by
  unfold State.takeTimeTrim
  split <;> exact .of_same (by simp)

/-! ## The owners of the commands of the station link -/

theorem State.follows_cancelByCommand (slot : Nat) (o : Order) : s.Follows (s.cancelByCommand slot o) :=
  State.Follows.then_recompute (.of_same (by simp))

theorem State.follows_takeOrder (r : OrderRequest) : s.Follows (s.takeOrder r).state := by
  unfold State.takeOrder
  repeat' split
  case h_2 => exact State.Follows.then_recompute (.of_same (by simp))
  all_goals exact .refl

theorem State.follows_takeCancel (number : Nat) : s.Follows (s.takeCancel number).state := by
  unfold State.takeCancel
  repeat' split
  · exact .refl
  · exact State.follows_cancelByCommand _ _
  · exact .refl

theorem State.follows_takeShutoff (number : Nat) : s.Follows (s.takeShutoff number).state := by
  unfold State.takeShutoff
  repeat' split
  · exact .refl
  · exact State.Follows.then_recompute (.of_same (by simp))
  · exact State.follows_cancelByCommand _ _
  · exact .refl
  · exact .refl

theorem State.follows_outOfService (i : Nat) : s.Follows (s.outOfService i) := by
  have hcancelled : ∀ l, s.Follows ((s.setService i false).cancelSlots l) := fun l => .of_same (by simp [State.setService])
  unfold State.outOfService
  dsimp only
  split
  · exact hcancelled _
  · exact (hcancelled _).then_recompute

theorem State.follows_takeService (i direction : Nat) : s.Follows (s.takeService i direction).state := by
  unfold State.takeService
  split
  · exact .refl
  · split
    · exact .refl
    · split
      · exact .refl
      · split
        · exact .refl
        · rw [State.accept_state]
          split
          · exact .of_same ⟨rfl, rfl, rfl⟩
          · exact State.follows_outOfService i

theorem State.follows_takeSupply (flow : Nat) : s.Follows (s.takeSupply flow).state := by
  unfold State.takeSupply
  split
  · exact State.Follows.then_recompute (.of_same (by simp))
  · exact .refl

theorem State.follows_takeGateMode (mode opening : Nat) : s.Follows (s.takeGateMode mode opening).state := by
  unfold State.takeGateMode
  split
  · exact .refl
  · exact State.follows_changeGate fun _ _ _ => Gate.follows_setMode _ _

theorem State.follows_takeTripClear : s.Follows s.takeTripClear.state := by
  unfold State.takeTripClear
  dsimp only
  split
  · exact .refl
  · refine State.follows_changeGate fun _ now g => Gate.Follows.trans (g' := { g with record := .none }) ?_ ?_
    · exact .of_same rfl rfl rfl
    · exact Gate.follows_enter rfl (by simp)

/-! ## The owners that leave the gate -/

theorem State.follows_takeAccount (index allotment limit state : Nat) : s.Follows (s.takeAccount index allotment limit state).state := by
  unfold State.takeAccount
  dsimp only
  repeat' split
  all_goals exact .of_same (by simp)

theorem State.follows_takeRates (table : RateTable) : s.Follows (s.takeRates table).state := by
  unfold State.takeRates
  split <;> exact .of_same (by simp)

theorem State.follows_takeSeasonClose : s.Follows s.takeSeasonClose.state := by
  unfold State.takeSeasonClose
  repeat' split
  all_goals exact .of_same (by simp)

theorem State.follows_takeTarget (level : Nat) : s.Follows (s.takeTarget level).state := by
  unfold State.takeTarget
  repeat' split
  all_goals exact .of_same (by simp)

theorem State.follows_takeTurnoutAck (i : Nat) (marks : Byte) : s.Follows (s.takeTurnoutAck i marks).state := by
  unfold State.takeTurnoutAck
  repeat' split
  all_goals exact .of_same (by simp)

theorem State.follows_declareWatch (key : Nat) : s.Follows (s.declareWatch key).state := by
  unfold State.declareWatch
  split <;> exact .of_same (by simp)

theorem State.follows_takeAck (marks : BitVec 24) : s.Follows (s.takeAck marks).state := by
  unfold State.takeAck
  split <;> exact .of_same (by simp)

theorem State.follows_takeMask (marks : BitVec 24) : s.Follows (s.takeMask marks).state := by
  unfold State.takeMask
  split <;> exact .of_same (by simp)

/-! ## The events of the gate -/

theorem State.follows_tripOnset : s.Follows s.tripOnset := by
  unfold State.tripOnset
  split
  · exact .refl
  · exact (State.follows_withGate Gate.follows_trip).then_same ⟨rfl, rfl, rfl⟩

theorem State.follows_restartWatch : s.Follows s.restartWatch := State.follows_withGate (.of_same rfl rfl rfl)

theorem State.follows_takeSample (x y : Nat) : s.Follows (s.takeSample x y) := by
  have hgood : s.Follows (s.changeGate fun c now g => g.goodSample c now s.running x y) :=
    State.follows_changeGate fun _ _ _ => Gate.follows_goodSample _ _ _
  have hraised := hgood.then_same (u := (s.changeGate fun c now g => g.goodSample c now s.running x y).raiseIf
    (s.gate.windowRaised (s.changeGate fun c now g => g.goodSample c now s.running x y).gate) .levelWindow) (by simp)
  unfold State.takeSample
  dsimp only
  split
  · exact hraised.trans State.follows_tripOnset
  · exact hraised

theorem State.follows_missSample : s.Follows s.missSample := by
  have hmissed : s.Follows (s.changeGate fun c now g => g.missedSample c now s.running) :=
    State.follows_changeGate fun _ _ _ => Gate.follows_missedSample _
  exact hmissed.then_same (by simp [State.missSample])

end

section

variable {s t u : State}

/-! ## Every command and every step -/

/-- What R104 asks of a step from a part that keeps its rests. -/
def State.RestRule (s t : State) : Prop := s.RestKept → t.RestKept ∧
  (s.gate.drive.on = false → t.gate.drive.on = true →
    ∀ x, s.gate.lastOff = some x → x + s.settings.levels.restTime * 1000 ≤ s.time.elapsed) ∧
  (s.gate.drive.openOn = true → t.gate.drive.closeOn = false) ∧
  (s.gate.drive.closeOn = true → t.gate.drive.openOn = false) ∧
  (s.working = true → t.startup.state ≠ .loading →
    (s.gate.drive.on = true → t.gate.drive.on = false → t.gate.lastOff = some s.time.elapsed) ∧
    ∀ x, s.gate.lastOff = some x → ∃ y, t.gate.lastOff = some y ∧ x ≤ y)

/-- The rule for the gate at one instant is the rule for the part. -/
theorem State.RestRule.of_gate (hset : t.settings = s.settings) (htime : t.time.elapsed = s.time.elapsed)
    (h : s.RestKept → s.gate.RestRule (s.settings.levels.restTime * 1000) s.time.elapsed t.gate) : s.RestRule t := by
  intro hkept
  obtain ⟨hkept', hbegins, hopened, hclosed, hends, hlast⟩ := h hkept
  exact ⟨by rwa [State.RestKept, hset, htime], hbegins, hopened, hclosed, fun _ _ => ⟨hends, hlast⟩⟩

theorem State.Follows.restRule (h : s.Follows t) : s.RestRule t := by
  obtain ⟨hset, htime, hgate⟩ := h
  exact .of_gate hset htime hgate.restRule

/-- A part that begins anew, at the entry to LOADING or out of LOADING and CONFIG_FAULT: no output is on, none has gone off yet, and a rest
that runs has begun. -/
theorem State.RestRule.of_new (hoff : t.gate.drive.on = false) (hlast : t.gate.lastOff = none)
    (hrests : t.gate.drive.rests = true → ∃ r, t.gate.restStart = some r ∧ r ≤ t.time.elapsed)
    (hidle : s.working = false ∨ t.startup.state = .loading) : s.RestRule t := by
  intro _
  refine ⟨⟨by simp [hlast], by simp [hlast], fun hr => ?_⟩, fun _ hon => absurd hon (by simp [hoff]), fun _ => ?_, fun _ => ?_,
    fun hw hs => ?_⟩
  · obtain ⟨r, hstart, hle⟩ := hrests hr
    exact ⟨r, hstart, hle, by simp [hlast]⟩
  · exact Bool.eq_false_iff.2 fun hc => Bool.eq_false_iff.1 hoff (Drive.on_of_closeOn hc)
  · exact Bool.eq_false_iff.2 fun ho => Bool.eq_false_iff.1 hoff (Drive.on_of_openOn ho)
  · rcases hidle with h | h
    · exact absurd hw (by simp [h])
    · exact absurd h hs

/-- The rests are kept as time passes. -/
theorem Gate.RestKept.later {g : Gate} {rest now later : Nat} (h : g.RestKept rest now) (hle : now ≤ later) : g.RestKept rest later := by
  obtain ⟨hpast, hstopped, hrests⟩ := h
  refine ⟨fun x hx => (hpast x hx).trans hle, fun hs x hx => (hstopped hs x hx).trans hle, fun hr => ?_⟩
  obtain ⟨r, hstart, hr', hbefore⟩ := hrests hr
  exact ⟨r, hstart, hr'.trans hle, hbefore⟩

/-- As time passes the drive stays as it is, and the instants of its timers fall further back. -/
theorem State.RestRule.of_later (hset : t.settings = s.settings) (hgate : t.gate = s.gate)
    (hle : s.time.elapsed ≤ t.time.elapsed) : s.RestRule t := by
  intro hkept
  obtain ⟨-, hbegins, hopened, hclosed, hends, hlast⟩ := Gate.Follows.refl.restRule hkept
  rw [State.RestKept, hgate, hset]
  exact ⟨hkept.later hle, hbegins, hopened, hclosed, fun _ _ => ⟨hends, hlast⟩⟩

theorem State.restRule_tick : s.RestRule s.tick := by
  refine .of_later (by simp) (by simp) ?_
  cases hp : s.startup.powered with
  | true => rw [State.tick_time_of_powered hp]; exact Nat.le_succ _
  | false => rw [State.tick_of_unpowered hp]; exact Nat.le_refl _

/-- The answer of a command keeps to the rule. -/
def RestOut (s : State) (o : Out) : Prop := ∀ t, o = .next t → s.RestRule t

theorem restOut_next (h : s.RestRule t) : RestOut s (.next t) := by rintro _ ⟨⟩; exact h

theorem restOut_follows (h : s.Follows t) : RestOut s (.next t) := restOut_next h.restRule

/-- A next state with the same settings, instant and gate. -/
theorem restOut_same (h : t.settings = s.settings ∧ t.time.elapsed = s.time.elapsed ∧ t.gate = s.gate) : RestOut s (.next t) :=
  restOut_follows (.of_same h)

theorem restOut_if {p : Prop} [Decidable p] {a b : Out} (ha : p → RestOut s a) (hb : RestOut s b) : RestOut s (if p then a else b) := by
  split
  · exact ha ‹_›
  · exact hb

/-- An event: under its condition the drive does what it may within one instant, and otherwise the state is left. -/
theorem restOut_event {p : Prop} [Decidable p] (h : s.Follows t) : RestOut s (if p then .next t else .next s) :=
  restOut_if (fun _ => restOut_follows h) (restOut_follows .refl)

/-- An event that leaves the settings, the instant and the gate. -/
theorem restOut_ite {p : Prop} [Decidable p] (h : t.settings = s.settings ∧ t.time.elapsed = s.time.elapsed ∧ t.gate = s.gate) :
    RestOut s (if p then .next t else .next s) := restOut_event (.of_same h)

/-- A served command keeps to the rule when its owner does, where the start state serves it: the reply leaves the gate. -/
theorem restOut_serve_of {c : Instr} {kind : Byte} {k : Service} {body : Served}
    (h : s.startup.powered = true → k.refusal s.startup.state = none → s.RestRule body.state) : RestOut s (.next (s.serve c kind k body)) := by
  refine restOut_next ?_
  unfold State.serve
  split
  · rename_i hp
    unfold State.result
    split
    · exact State.Follows.restRule (.of_same ⟨rfl, rfl, rfl⟩)
    · exact h hp ‹_›
  · exact State.Follows.refl.restRule

theorem restOut_serve {c : Instr} {kind : Byte} {k : Service} {body : Served} (h : s.Follows body.state) :
    RestOut s (.next (s.serve c kind k body)) := restOut_serve_of fun _ _ => h.restRule

/-! ## LOADING and the starts (R114, R179) -/

theorem State.restRule_stopped (x : StartUp) : s.RestRule (s.stopped x) :=
  .of_new rfl rfl (fun h => by cases h) (.inr rfl)

/-- A gate just started: no output on, none gone off, and in RESTING and WAITING the rest timer from 0. -/
theorem Gate.afterStart_rests (c : Config.Settings) (kind : StartKind) (g : Gate) (h : (g.afterStart c kind).drive.rests = true) :
    (g.afterStart c kind).restStart = some 0 := by
  simp only [Gate.afterStart] at h ⊢
  split
  · rename_i hfault
    simp [hfault, Drive.rests] at h
  · rfl

/-- A start of either kind, out of LOADING or CONFIG_FAULT. -/
theorem State.restRule_startWith (hp : s.startup.powered = true) (hidle : s.working = false) (m : Image) : s.RestRule (s.startWith m) := by
  unfold State.startWith
  split
  · rw [State.coldStart_eq]
    exact .of_new (Gate.afterStart_off _ _ _) rfl (fun h => ⟨0, Gate.afterStart_rests _ _ _ h, Nat.zero_le _⟩) (.inl hidle)
  · have hgate : ∃ target lastUsed release, (s.warmStart m).gate =
        { s.gate.afterStart m.settings .warm with inHand := some release, target := target, lastUsed := lastUsed } := by
      obtain ⟨target, lastUsed, h⟩ := Gate.handTarget_afterStart m.settings (s.warmBegun m).time.elapsed
        (s.warmBegun m).computePlan.release.target .warm s.gate
      exact ⟨target, lastUsed, _, by rw [State.warmStart_eq hp, State.recompute_gate (State.warmBegun_running hp m)]; exact h⟩
    obtain ⟨target, lastUsed, release, hgate⟩ := hgate
    refine .of_new ?_ ?_ (fun h => ⟨0, ?_, Nat.zero_le _⟩) (.inl hidle)
    · rw [hgate]; exact s.gate.afterStart_off m.settings .warm
    · rw [hgate]; rfl
    · rw [hgate] at h ⊢
      exact s.gate.afterStart_rests m.settings .warm h

theorem State.restRule_takeMemoryImage (hp : s.startup.powered = true) (hidle : s.working = false) (image : List Byte) :
    s.RestRule (s.takeMemoryImage image) := by
  unfold State.takeMemoryImage
  split
  · exact State.restRule_startWith hp hidle _
  · split <;> exact State.Follows.restRule (.of_same ⟨rfl, rfl, rfl⟩)

theorem State.restRule_endLoad (hp : s.startup.powered = true) (hidle : s.working = false) : s.RestRule s.endLoad.state := by
  unfold State.endLoad State.takeLinkImage
  split
  · exact State.Follows.refl.restRule
  · rw [State.accept_state]
    split
    · exact State.restRule_startWith hp hidle _
    · exact State.Follows.restRule (.of_same ⟨rfl, rfl, rfl⟩)

/-- A part that serves a load command is not working (R171). -/
theorem State.working_of_load (h : Service.load.refusal s.startup.state = none) : s.working = false := by
  cases hs : s.startup.state <;> simp [hs, Service.refusal] at h <;> simp [State.working, hs]

theorem State.follows_loadBytes (offset : Nat) (bytes : List Byte) : s.Follows (s.loadBytes offset bytes).state := by
  unfold State.loadBytes
  dsimp only
  repeat' split
  all_goals exact .of_same ⟨rfl, rfl, rfl⟩

theorem restOut_replySent (s : State) : RestOut s (execReplySent s) := by
  unfold execReplySent
  split
  · exact restOut_follows .refl
  · exact restOut_if (fun _ => restOut_next (State.RestRule.of_new rfl rfl (fun h => by cases h) (.inr rfl))) (restOut_same ⟨rfl, rfl, rfl⟩)

end

/-- Every command keeps to the rule: the ends of the two rest times, the entries to LOADING and the starts by their own lemmas, and the others
because the drive does what it may within one instant. -/
theorem exec_restOut (c : Instr) (s : State) : RestOut s (exec c s) := by
  cases c with
  -- the ends of the two rest times
  | restExpiry =>
    refine restOut_if (fun ⟨hd, hx⟩ => restOut_next (.of_gate rfl rfl fun hkept => ?_)) (restOut_follows .refl)
    obtain ⟨-, x, hx, hend⟩ := State.expired_iff.1 hx
    exact Gate.restRule_restEnd hkept hd hx hend
  | tripWaitExpiry =>
    refine restOut_if (fun ⟨hd, hx⟩ => restOut_next (.of_gate rfl rfl fun hkept => ?_)) (restOut_follows .refl)
    obtain ⟨-, x, hx, hend⟩ := State.expired_iff.1 hx
    exact Gate.restRule_tripAct hkept hd hx hend
  -- the entries to LOADING and the starts
  | resetRelease _ _ _ => rw [exec_resetRelease]; exact restOut_next (State.restRule_stopped _)
  | supplyLoss => rw [exec_supplyLoss]; exact restOut_next (State.restRule_stopped _)
  | replySent => exact restOut_replySent s
  | imageReadComplete image =>
    refine restOut_if (fun h => restOut_next ?_) (restOut_follows .refl)
    simp only [Bool.and_eq_true, beq_iff_eq] at h
    exact State.restRule_takeMemoryImage h.1.1 (by simp [State.working, h.1.2]) _
  | configEnd => exact restOut_serve_of fun hp hk => State.restRule_endLoad hp (State.working_of_load hk)
  | configData _ _ => exact restOut_serve (State.follows_loadBytes _ _)
  | restart => exact restOut_serve .refl
  -- the Gate Controller
  | encoderStep _ => exact restOut_event (State.follows_changeGate fun _ _ _ => Gate.follows_step _)
  | stallExpiry =>
    exact restOut_event ((State.follows_changeGate (f := fun _ now g => g.setFault now .stall) fun _ _ _ =>
      Gate.follows_setFault _).then_same (by simp))
  | limitInputChange openLimit active =>
    have hinput : s.Follows (s.withGate (s.gate.setLimit openLimit active)) :=
      State.follows_withGate (by cases openLimit <;> exact .of_same rfl rfl rfl)
    refine restOut_if (fun _ => restOut_follows .refl) (restOut_if (fun _ => restOut_follows hinput)
      (restOut_if (fun _ => restOut_follows ?_) (restOut_follows ?_)))
    · exact (hinput.trans (State.follows_changeGate fun c _ _ => Gate.follows_limitActive (c := c) openLimit)).then_same (by simp)
    · exact hinput.trans (State.follows_changeGate fun _ _ _ => Gate.follows_startRule)
  | supplyLowChange active =>
    have hinput : s.Follows (s.withGate { s.gate with supplyLow := active }) := State.follows_withGate (.of_same rfl rfl rfl)
    exact restOut_if (fun _ => restOut_follows .refl) (restOut_if
      (fun _ => restOut_follows (hinput.trans (State.follows_changeGate fun _ _ _ => Gate.follows_supplyLowChanged)))
      (restOut_follows hinput))
  | tripInputChange active =>
    have hinput : s.Follows (s.withGate { s.gate with tripIn := active }) := State.follows_withGate (.of_same rfl rfl rfl)
    exact restOut_if (fun _ => restOut_follows .refl) (restOut_if
      (fun _ => restOut_follows (hinput.trans State.follows_tripOnset)) (restOut_follows hinput))
  | gateMode _ _ => exact restOut_serve (State.follows_takeGateMode _ _)
  | tripClear => exact restOut_serve State.follows_takeTripClear
  | levelSample record =>
    have hready : s.Follows s.settleGate.restartWatch := State.follows_settleGate.trans State.follows_restartWatch
    refine restOut_if (fun _ => ?_) (restOut_follows .refl)
    split
    · exact restOut_follows (hready.trans (State.follows_takeSample _ _))
    · exact restOut_follows (hready.trans State.follows_missSample)
  | sampleWatchExpiry =>
    exact restOut_event ((State.follows_settleGate.trans State.follows_restartWatch).trans State.follows_missSample)
  | gatePeriodBoundary =>
    simp only [exec, execGatePeriodBoundary]
    split
    · exact restOut_event ⟨rfl, rfl, Gate.follows_boundary _⟩
    · exact restOut_follows .refl
  -- the blocks that hand the gate a target, and the closes of periods
  | planPeriodChange =>
    simp only [exec, execPlanPeriodChange]
    split
    · exact restOut_event (State.Follows.trans (.of_same (by simp)) (State.follows_planPeriodChange _))
    · exact restOut_follows .refl
  | periodClose =>
    simp only [exec, execPeriodClose]
    split
    · exact restOut_event (State.Follows.trans (.of_same (by simp)) (State.follows_closePeriod _))
    · exact restOut_follows .refl
  | meterPulse _ | noFlowExpiry _ => exact restOut_event (State.follows_settleMeters.then_same (by simp))
  | holdExpiry _ => exact restOut_event (State.follows_loseEntry _)
  | lineFrameReceived _ =>
    refine restOut_if (fun _ => ?_) (restOut_same (by simp))
    split
    · exact restOut_follows (State.Follows.trans (.of_same (by simp)) (State.follows_takeNotice _))
    · exact restOut_same (by simp)
  | orderPlace _ => exact restOut_serve (State.follows_takeOrder _)
  | orderCancel _ => exact restOut_serve (State.follows_takeCancel _)
  | orderShutoff _ => exact restOut_serve (State.follows_takeShutoff _)
  | turnoutService _ _ => exact restOut_serve (State.follows_takeService _ _)
  | supplySet _ => exact restOut_serve (State.follows_takeSupply _)
  | timeSet _ _ _ _ => exact restOut_serve (State.follows_takeTimeSet _)
  | timeTrim _ => exact restOut_serve (State.follows_takeTimeTrim _)
  -- the commands and events that leave the gate
  | catchUp => exact restOut_same (by simp)
  | periodBoundary =>
    exact restOut_if (fun _ => restOut_next (.of_later (by simp) (by simp) (by rw [State.moveTime_elapsed]; exact Nat.le_succ _)))
      (restOut_follows .refl)
  | crystalStop => exact restOut_if (fun _ => restOut_same ⟨rfl, rfl, rfl⟩) (restOut_ite ⟨rfl, rfl, rfl⟩)
  | crystalRunning => exact restOut_if (fun _ => restOut_same ⟨rfl, rfl, rfl⟩) (restOut_same ⟨rfl, rfl, rfl⟩)
  | meterPeriodClose | billingDayClose =>
    simp only [exec, execMeterPeriodClose, execBillingDayClose]
    split
    · exact restOut_ite (by simp)
    · exact restOut_follows .refl
  | lineCharacterReceived _ _ | lineFrameGap | holdoffExpiry | noticeTimerExpiry | accessGapReached | backoffExpiry | collision
  | noticeComplete | linkCharacterReceived _ _ | linkFrameReceived _ _ | linkFrameGap | moderationExpiry => exact restOut_ite (by simp)
  | noticeNow | logRelease _ => exact restOut_serve (.of_same (by simp [State.takeRelease]))
  | accountSet _ _ _ _ => exact restOut_serve (State.follows_takeAccount _ _ _ _)
  | ratesStage _ => exact restOut_serve (State.follows_takeRates _)
  | seasonClose => exact restOut_serve State.follows_takeSeasonClose
  | targetStage _ => exact restOut_serve (State.follows_takeTarget _)
  | turnoutAck _ _ => exact restOut_serve (State.follows_takeTurnoutAck _ _)
  | watchDeclare _ => exact restOut_serve (State.follows_declareWatch _)
  | alertAck _ => exact restOut_serve (State.follows_takeAck _)
  | alertMask _ => exact restOut_serve (State.follows_takeMask _)
  | check _ | unknownCommand _ | bookList | logRead _ | alertRead => exact restOut_serve .refl
  | statusRead _ | planRead _ | orderQuery _ | accountQuery _ | turnoutQuery _ =>
    exact restOut_serve (by rw [State.read_state]; exact .refl)

/-- A step keeps to the rule: the queue is no part of it, and while no command is due only time passes. -/
theorem step_restRule {s t : State} (h : step s = .next t) : s.RestRule t := by
  unfold step at h
  split at h
  case h_1 c rest _ => exact exec_restOut c (s.withPending rest) t h
  case h_2 =>
    split at h
    case h_1 c _ => exact exec_restOut c s t h
    case h_2 =>
      cases h
      exact State.restRule_tick

/-- Settles O8: the two outputs exclude each other, and every step keeps to the rule of the rests. -/
theorem stepKeepsDriveRest : Obligations.StepKeepsDriveRest :=
  ⟨Drive.not_open_and_close, fun _ _ hkept hstep => step_restRule hstep hkept⟩

end Sys2Proof.Machine
end
section
/-! The close of an order (R21, R150, R151, R153 to R156, R159, R160): its charge, its account, its record, and what becomes of its slot. -/

namespace Sys2Proof.Machine

section

variable {s : State} {kind : RecordKind} {slot key : Nat} {o : Order}

/-- The account of a closing order, after the charge (R153, R154). -/
def State.closeCharged (s : State) (kind : RecordKind) (o : Order) : Account :=
  (s.billing.account o.account).charged (if kind = .delivery then o.delivered else 0) (closeCharge s kind o)

/-- The accounts after the charge of a closing order (R153). -/
def State.accountsAtClose (s : State) (kind : RecordKind) (o : Order) : Billing :=
  { s.billing with accounts := s.billing.accounts.set o.account (s.closeCharged kind o) }

/-- The charge takes a GOOD account to HOLD (R154). -/
def State.closeHolds (s : State) (kind : RecordKind) (o : Order) : Bool :=
  (s.billing.account o.account).state == .good && (s.closeCharged kind o).state == .hold

/-- The alerts after the charge of a closing order (R154). -/
def State.alertsAtClose (s : State) (kind : RecordKind) (o : Order) : Alerts :=
  s.alerts.raiseIf (s.closeHolds kind o) .accountHold

/-- The record of a closing order (R155). -/
def State.recordAtClose (s : State) (kind : RecordKind) (key : Nat) (o : Order) : BillRecord :=
  orderRecord s kind key (closeCharge s kind o) o

/-- A closed order whose record waits (R160). -/
def State.unbilled (s : State) (kind : RecordKind) (key : Nat) (o : Order) : Order :=
  { o with
    state := .closedUnbilled, closeKey := some key, charge := some (closeCharge s kind o)
    record := some (s.recordAtClose kind key o) }

/-- A charge writes one account and the alerts (R153, R154). -/
theorem State.chargeAccount_eq (index volume amount : Nat) : s.chargeAccount index volume amount = { s with
    billing := { s.billing with accounts := s.billing.accounts.set index ((s.billing.account index).charged volume amount) }
    alerts := s.alerts.raiseIf
      ((s.billing.account index).state == .good && ((s.billing.account index).charged volume amount).state == .hold) .accountHold } := by
  rw [State.chargeAccount, State.raiseIf_eq]
  rfl

/-- A record that enters writes the billing part and the alerts (R156, R159). -/
theorem State.enterLog_eq (r : BillRecord) : s.enterLog r = { s with
    billing := s.billing.enter r, alerts := s.alerts.raiseIf s.reachesLevel .logLevel } := by
  rw [State.enterLog, State.raiseIf_eq]
  rfl

/-- An item that joins the wait list writes it and the alerts (R160). -/
theorem State.joinWait_eq (item : WaitItem) : s.joinWait item = { s with
    billing := { s.billing with waitList := s.billing.waitList ++ [item] }
    alerts := s.alerts.raiseIf s.billing.waitList.isEmpty .logFull } := by
  rw [State.joinWait, State.raiseIf_eq]
  rfl

/-- The state after the charge of a closing order. -/
theorem State.chargeAccount_atClose : s.chargeAccount o.account (if kind = .delivery then o.delivered else 0) (closeCharge s kind o) =
    { s with billing := s.accountsAtClose kind o, alerts := s.alertsAtClose kind o } :=
  State.chargeAccount_eq _ _ _

/-- With room, the record enters the log and the slot is freed (R156). -/
theorem State.closeOrder_of_room (h : s.billing.hasRoom = true) : s.closeOrder kind slot key o = { s with
    book := s.book.put slot none
    billing := (s.accountsAtClose kind o).enter (s.recordAtClose kind key o)
    alerts := (s.alertsAtClose kind o).raiseIf s.reachesLevel .logLevel } := by
  rw [State.closeOrder, State.chargeAccount_atClose]
  refine (if_pos h).trans ?_
  rw [State.enterLog_eq]
  rfl

/-- Without room, the order keeps its slot and its record, and joins the wait list (R160). -/
theorem State.closeOrder_of_no_room (h : s.billing.hasRoom = false) : s.closeOrder kind slot key o = { s with
    book := s.book.put slot (some (s.unbilled kind key o))
    billing := { s.accountsAtClose kind o with waitList := s.billing.waitList ++ [.order slot] }
    alerts := (s.alertsAtClose kind o).raiseIf s.billing.waitList.isEmpty .logFull } := by
  rw [State.closeOrder, State.chargeAccount_atClose]
  refine (if_neg (ne_true_of_eq_false h)).trans ?_
  rw [State.joinWait_eq]
  rfl

/-- No room means a full log, or an item that waits (R156). -/
theorem Billing.hasRoom_eq_false_iff {b : Billing} : b.hasRoom = false ↔ 256 ≤ b.log.length ∨ b.waitList ≠ [] := by
  rw [← Bool.not_eq_true, Billing.hasRoom_iff, not_and_or, Nat.not_lt]

/-- The close of an order writes the book, the billing part and the pending causes alone. -/
theorem State.closeOrder_writes : let t := s.closeOrder kind slot key o
    t = { s with book := t.book, billing := t.billing, alerts := { s.alerts with pending := t.alerts.pending } } := by
  have halerts : ∀ (b : Bool) (c : Cause), (s.alertsAtClose kind o).raiseIf b c =
      { s.alerts with pending := ((s.alertsAtClose kind o).raiseIf b c).pending } := fun b c => by
    unfold State.alertsAtClose
    cases b <;> cases s.closeHolds kind o <;> rfl
  cases h : s.billing.hasRoom with
  | true =>
    rw [State.closeOrder_of_room h]
    simp only
    rw [← halerts]
  | false =>
    rw [State.closeOrder_of_no_room h]
    simp only
    rw [← halerts]

/-- An account that the charge takes to HOLD is alerted (R154). -/
theorem State.closeOrder_alerts (h : s.closeHolds kind o = true) :
    hasCause (s.closeOrder kind slot key o).alerts.pending .accountHold = true := by
  cases hroom : s.billing.hasRoom with
  | true => simp [State.closeOrder_of_room hroom, State.alertsAtClose, h]
  | false => simp [State.closeOrder_of_no_room hroom, State.alertsAtClose, h]

/-- The charge of a DELIVERY, written out (R150). -/
theorem deliveryCharge_eq (t : RateTable) (a : Account) (o : Order) : deliveryCharge t a o =
    min (price (min o.delivered a.remaining) (t.tier1.get o.cls) +
      price (o.delivered - min o.delivered a.remaining) (t.tier2.get o.cls) +
      (if o.delivered < o.granted / 2 then price (o.granted / 2 - o.delivered) (t.unused.get o.cls) else 0) +
      (if o.cls = .frost then t.callOut else 0)) 4294967295 := by
  simp only [deliveryCharge, unusedCharge, tierVolumes, volumeMax]

/-- A configured account after a charge, written in one record (R153, R154). -/
theorem Account.charged_eq (a : Account) (volume amount : Nat) : a.charged volume amount =
    if a.number = 0 then a
    else { a with
      used := min (a.used + volume) 4294967295, charges := min (a.charges + amount) 4294967295
      state := if 0 < amount ∧ a.limit < min (a.charges + amount) 4294967295 ∧ a.state = .good then .hold else a.state } := by
  unfold Account.charged
  split
  · rfl
  · change (if 0 < amount ∧ a.limit < min (a.charges + amount) 4294967295 ∧ a.state = .good then _ else _) = _
    split_ifs <;> rfl

theorem State.timeUncertain_eq (s : State) : s.timeUncertain = decide (s.time.quality ≠ .set) := by
  unfold State.timeUncertain
  cases s.time.quality <;> rfl

end

/-- Settles O33: the record and the charge by kind, then the two outcomes by the room in the log. -/
theorem closingAnOrder : Obligations.ClosingAnOrder := by
  unfold Obligations.ClosingAnOrder
  intro s kind slot key o hkind a rates tier1 tier2 unused callOut charge volume used charges a' record t
  have hcharge : closeCharge s kind o = charge := by
    rcases hkind with rfl | rfl
    · exact (deliveryCharge_eq _ _ _).trans (if_pos rfl).symm
    · exact (if_neg (by decide)).symm
  have haccount : s.closeCharged kind o = a' := by
    rw [State.closeCharged, hcharge, Account.charged_eq]
  have hrecord : s.recordAtClose kind key o = record := by
    rw [State.recordAtClose, hcharge, orderRecord, State.timeUncertain_eq]
    rfl
  refine ⟨State.closeOrder_writes, fun hgood hhold => State.closeOrder_alerts ?holds, fun hlog hwait => ?room, fun hfull => ?full⟩
  case holds =>
    rw [State.closeHolds, haccount, hhold]
    exact congrArg (fun x => x == AccountState.good && true) hgood
  case room =>
    have ht : t = _ := State.closeOrder_of_room ((Billing.hasRoom_iff _).mpr ⟨hlog, hwait⟩)
    rw [ht]
    refine ⟨rfl, ?_, fun hlevel => by simp [State.reachesLevel, hlevel]⟩
    simp only [State.accountsAtClose, haccount, hrecord]
    rfl
  case full =>
    have ht : t = _ := State.closeOrder_of_no_room (Billing.hasRoom_eq_false_iff.mpr hfull)
    rw [ht]
    refine ⟨?_, ?_, fun hempty => by simp [hempty]⟩
    · simp only [State.unbilled, hcharge, hrecord]
    · simp only [State.accountsAtClose, haccount]

end Sys2Proof.Machine
end
section
/-! The admission checks (R24 to R26): each check's condition, and the first one that fails. -/

namespace Sys2Proof.Machine

section

/-! ## The first check that fails -/

/-- The code of the first check of a list that fails. -/
def firstRefusal : List (Bool × ResultCode) → Option ResultCode
  | [] => none
  | check :: rest => if check.1 then some check.2 else firstRefusal rest

/-- A computed check decides a condition, and refuses with its code. -/
def Decides (check : Bool × ResultCode) (failure : Prop × ResultCode) : Prop :=
  (check.1 = true ↔ failure.1) ∧ check.2 = failure.2

variable {checks : List (Bool × ResultCode)} {failures : List (Prop × ResultCode)}

/-- No check refuses exactly when no condition holds. -/
theorem firstRefusal_eq_none_iff (h : List.Forall₂ Decides checks failures) :
    firstRefusal checks = none ↔ ∀ q ∈ failures, ¬q.1 := by
  induction h with
  | nil => simp [firstRefusal]
  | @cons check failure checks failures hd _ ih =>
    rw [firstRefusal, List.forall_mem_cons, ← hd.1, ← ih]
    cases check.1 <;> simp

/-- A check of a list that refuses nothing. -/
theorem passes_of_firstRefusal_eq_none (h : firstRefusal checks = none) {check : Bool × ResultCode} (hc : check ∈ checks) :
    check.1 = false := by
  induction checks with
  | nil => cases hc
  | cons first rest ih =>
    rw [firstRefusal] at h
    split at h
    · cases h
    · rename_i hpass
      rcases List.mem_cons.1 hc with rfl | hrest
      · exact Bool.eq_false_iff.2 hpass
      · exact ih h hrest

/-- A condition that holds, after conditions that do not, gives its code. -/
theorem firstRefusal_eq_some (h : List.Forall₂ Decides checks failures) {n : Nat} {fails : Prop} {code : ResultCode}
    (hn : failures[n]? = some (fails, code)) (hfails : fails) (hfirst : ∀ m q, m < n → failures[m]? = some q → ¬q.1) :
    firstRefusal checks = some code := by
  induction h generalizing n with
  | nil => cases hn
  | @cons check failure checks failures hd _ ih =>
    rw [firstRefusal]
    cases n with
    | zero =>
      obtain rfl : failure = (fails, code) := Option.some.inj hn
      rw [if_pos (hd.1.2 hfails), hd.2]
    | succ n =>
      have hpass : ¬check.1 = true := fun hc => hfirst 0 failure (Nat.succ_pos n) rfl (hd.1.1 hc)
      rw [if_neg hpass]
      exact ih hn fun m q hm hq => hfirst (m + 1) q (Nat.succ_lt_succ hm) hq

end

section

variable {s : State} {r : OrderRequest} {b : OrderBook}

/-! ## The checks of R24 -/

/-- The last key of the window that is asked for. -/
def requestEnd (r : OrderRequest) : Nat := r.startKey + r.duration - 1

/-- The checks of the table of R24, in its order. -/
def State.admissionChecks (s : State) (r : OrderRequest) : List (Bool × ResultCode) :=
  [ (s.book.freeSlot.isNone, .full)
  , ((s.book.find r.number).isSome, .duplicate)
  , (!present s.settings r.turnout, .badTurnout)
  , (!(s.turnout r.turnout).inService, .outOfService)
  , (decide ((s.billing.account r.account).number = 0 ∨ (s.billing.account r.account).state = .closed), .account)
  , (decide ((s.billing.account r.account).state = .hold), .hold)
  , (decide (r.rate < 5 ∨ (configOf s.settings r.turnout).capacity < r.rate), .rate)
  , (decide (r.startKey < earliestStart s.settings s.curKey r.cls), .tooSoon)
  , (decide (s.curKey + s.settings.station.horizon < r.startKey), .tooFar)
  , (decide (r.cls = 2 ∧ !(watchActive s.neigh.watchEnd s.curKey && decide (requestEnd r ≤ s.neigh.watchEnd))), .noWatch)
  , (s.book.live.any fun p =>
      p.2.turnout == r.turnout && p.2.planned && tailsMeet r.startKey (requestEnd r) p.2.startKey p.2.endKey, .overlap)
  , ((List.range r.duration).any fun k =>
      decide (s.settings.reach.reachCapacity < s.book.rateSum (r.startKey + k) + r.rate), .capacity) ]

theorem State.admission_eq (s : State) (r : OrderRequest) : s.admission r = firstRefusal (s.admissionChecks r) := by
  simp only [State.admissionChecks, firstRefusal, decide_eq_true_eq]
  rfl

/-- The number of an order that no check refuses is not live (R16). -/
theorem State.find_of_admitted (h : s.admission r = none) : s.book.find r.number = none := by
  rw [State.admission_eq] at h
  simpa using passes_of_firstRefusal_eq_none h (check := ((s.book.find r.number).isSome, .duplicate)) (by simp [State.admissionChecks])

/-! ## What each check decides -/

/-- No slot is FREE. -/
theorem OrderBook.freeSlot_isNone_iff : b.freeSlot.isNone = true ↔ ∀ slot : Nat, b.slots[slot]? ≠ some none := by
  simp only [OrderBook.freeSlot, Option.isNone_iff_eq_none, List.findIdx?_eq_none_iff, List.mem_iff_getElem?]
  constructor
  · exact fun h slot hs => absurd (h none ⟨slot, hs⟩) (by decide)
  · rintro h x ⟨slot, hs⟩
    cases x with
    | none => exact absurd hs (h slot)
    | some o => rfl

/-- The number is live (R16). -/
theorem OrderBook.find_isSome_iff {n : Nat} : (b.find n).isSome = true ↔ ∃ slot o, b.at? slot = some o ∧ o.number = n := by
  simp [OrderBook.find, List.find?_isSome, Prod.exists, OrderBook.mem_live]

/-- The window plus tail of another planned order of the turnout meets the one asked for (R26). -/
theorem overlap_iff : (s.book.live.any fun p =>
      p.2.turnout == r.turnout && p.2.planned && tailsMeet r.startKey (requestEnd r) p.2.startKey p.2.endKey) = true ↔
    ∃ slot o, s.book.at? slot = some o ∧ o.turnout = r.turnout ∧ o.state ≠ .closedUnbilled ∧ r.startKey ≤ o.endKey + 1 ∧
      o.startKey ≤ requestEnd r + 1 := by
  simp only [List.any_eq_true, Prod.exists, OrderBook.mem_live, Bool.and_eq_true, beq_iff_eq, tailsMeet, decide_eq_true_eq,
    Order.planned, bne_iff_ne, and_assoc]

/-- A period of the window passes the reach turnout capacity (R26). -/
theorem overCapacity_iff (h : 1 ≤ r.duration) : ((List.range r.duration).any fun k =>
      decide (s.settings.reach.reachCapacity < s.book.rateSum (r.startKey + k) + r.rate)) = true ↔
    ∃ p, r.startKey ≤ p ∧ p ≤ requestEnd r ∧ s.settings.reach.reachCapacity < s.book.rateSum p + r.rate := by
  simp only [List.any_eq_true, List.mem_range, decide_eq_true_eq]
  constructor
  · rintro ⟨k, hk, hover⟩
    exact ⟨r.startKey + k, Nat.le_add_right _ _, by unfold requestEnd; omega, hover⟩
  · rintro ⟨p, hstart, hend, hover⟩
    unfold requestEnd at hend
    exact ⟨p - r.startKey, by omega, by rwa [Nat.add_sub_cancel' hstart]⟩

/-- The window asked for lies inside an active frost watch (R25, R62). -/
theorem watchCovers_iff : (watchActive s.neigh.watchEnd s.curKey && decide (requestEnd r ≤ s.neigh.watchEnd)) =
    decide (s.neigh.watchEnd ≠ 0 ∧ s.curKey ≤ s.neigh.watchEnd ∧ requestEnd r ≤ s.neigh.watchEnd) := by
  simp only [watchActive, bne, ne_eq, Bool.decide_and, decide_not, Bool.and_assoc]
  rfl

/-- An account that is neither CLOSED nor on HOLD is GOOD (R144). -/
theorem AccountState.eq_good_iff {x : AccountState} : x = .good ↔ x ≠ .closed ∧ x ≠ .hold := by cases x <;> simp

/-- An order in form lasts one period at least (R23). -/
theorem formGood_duration {plen : Nat} (h : formGood plen r = true) : 1 ≤ r.duration := by
  simp only [formGood, Bool.and_eq_true, decide_eq_true_eq] at h
  exact h.1.1.2

end

/-- Settles O30: the computed checks decide the stated conditions one by one, and the first that fails gives the code. -/
theorem admissionChecks : Obligations.AdmissionChecks := by
  unfold Obligations.AdmissionChecks
  intro s r hform c a endKey earliest failures
  have hdecides : List.Forall₂ Decides (s.admissionChecks r) failures := by
    refine .cons ⟨OrderBook.freeSlot_isNone_iff, rfl⟩ (.cons ⟨OrderBook.find_isSome_iff, rfl⟩ (.cons ⟨by simp [c], rfl⟩
      (.cons ⟨by simp, rfl⟩ (.cons ⟨decide_eq_true_iff, rfl⟩ (.cons ⟨decide_eq_true_iff, rfl⟩ (.cons ⟨decide_eq_true_iff, rfl⟩
      (.cons ⟨decide_eq_true_iff, rfl⟩ (.cons ⟨decide_eq_true_iff, rfl⟩ (.cons ⟨?watch, rfl⟩ (.cons ⟨overlap_iff, rfl⟩
      (.cons ⟨overCapacity_iff (formGood_duration hform), rfl⟩ .nil)))))))))))
    case watch => rw [decide_eq_true_iff, watchCovers_iff, Bool.not_eq_true', Bool.eq_false_iff, Ne, decide_eq_true_iff]; rfl
  rw [State.admission_eq]
  refine ⟨(firstRefusal_eq_none_iff hdecides).trans ?_, fun n fails code hn hfails hfirst => firstRefusal_eq_some hdecides hn hfails hfirst⟩
  simp only [failures, List.forall_mem_cons, List.not_mem_nil, false_imp_iff, imp_true_iff, and_true, not_forall, not_exists, not_or,
    ne_eq, not_not, Nat.not_lt, Bool.not_eq_false]
  constructor
  · rintro ⟨hfree, hnumber, hpresent, hservice, ⟨haccount, hclosed⟩, hhold, ⟨hlow, hhigh⟩, hsoon, hfar, hwatch, hoverlap, hcapacity⟩
    refine ⟨hfree, fun slot o ho hn => hnumber slot o ⟨ho, hn⟩, hpresent, hservice, haccount, AccountState.eq_good_iff.2 ⟨hclosed, hhold⟩,
      hlow, hhigh, hsoon, hfar, fun hcls => not_not.1 fun hout => hwatch ⟨hcls, hout⟩, fun slot o ho hturnout hplanned => ?_,
      fun p hstart hend => Nat.not_lt.1 fun hover => hcapacity p ⟨hstart, hend, hover⟩⟩
    by_contra hmeets
    exact hoverlap slot o ⟨ho, hturnout, hplanned, by omega, by omega⟩
  · rintro ⟨hfree, hnumber, hpresent, hservice, haccount, hgood, hlow, hhigh, hsoon, hfar, hwatch, hapart, hcapacity⟩
    obtain ⟨hclosed, hhold⟩ := AccountState.eq_good_iff.1 hgood
    refine ⟨hfree, fun slot o h => hnumber slot o h.1 h.2, hpresent, hservice, ⟨haccount, hclosed⟩, hhold, ⟨hlow, hhigh⟩, hsoon, hfar,
      fun h => h.2 (hwatch h.1), ?_, fun p h => Nat.not_lt.2 (hcapacity p h.1 h.2.1) h.2.2⟩
    rintro slot o ⟨ho, hturnout, hplanned, hstart, hend⟩
    have hmeets := hapart slot o ho hturnout hplanned
    omega

end Sys2Proof.Machine
end
section
/-! The period change of an order (R18 to R20): the accrual, the shift and the new state, each by what it writes, and the change as a whole. -/

namespace Sys2Proof.Machine

section

variable {o : Order} {c : Config.Settings} {b n seconds : Nat}

/-! ## The accrual (R18) -/

theorem Order.accrue_of_active (h : o.state = .active) : o.accrue seconds = { o with
    granted := min (o.granted + o.floor * seconds) 4294967295
    flags := { o.flags with curtailed := o.flags.curtailed || decide (o.floor < o.rate) } } := if_pos h

theorem Order.accrue_of_not_active (h : o.state ≠ .active) : o.accrue seconds = o := if_neg h

/-- The accrual writes the granted volume and CURTAILED alone. -/
theorem Order.accrue_eq (o : Order) (seconds : Nat) : o.accrue seconds = { o with
    granted := if o.state = .active then min (o.granted + o.floor * seconds) 4294967295 else o.granted
    flags := { o.flags with curtailed := o.flags.curtailed || decide (o.state = .active ∧ o.floor < o.rate) } } := by
  by_cases h : o.state = .active
  · rw [Order.accrue_of_active h]
    simp [h]
  · rw [Order.accrue_of_not_active h]
    simp [h]

/-! ## The shift (R19) -/

/-- The entry that is shifted into a place of twenty: the filler where the list held none. -/
theorem getElem?_shifted {α : Type} {es : List α} {d : α} {i k : Nat} (hlen : es.length = 20) (hi : i < 20) :
    (es.drop k ++ List.replicate (min k 20) d)[i]? = some ((es[i + k]?).getD d) := by
  rcases Nat.lt_or_ge (i + k) 20 with h | h
  · have hlt : i + k < es.length := hlen ▸ h
    rw [List.getElem?_append_left (by simp; omega), List.getElem?_drop, Nat.add_comm k i, List.getElem?_eq_getElem hlt]
    rfl
  · rw [List.getElem?_append_right (by simp; omega), List.getElem?_eq_none (hlen ▸ h : es.length ≤ i + k),
      List.getElem?_replicate, if_pos (by simp; omega)]
    rfl

/-- An entry of the shifted and frozen schedule. -/
theorem Order.getElem?_shift_grants (hlen : o.grants.length = 20) {i : Nat} (hi : i < 20) (k : Nat) : (o.shift c k).grants[i]? = some
    { rate := ((o.grants[i + k]?).map GrantEntry.rate).getD 0
      frozen := ((o.grants[i + k]?).map GrantEntry.frozen).getD false || decide (i < tauOf c o.turnout) } := by
  simp only [Order.shift, freezeBelow, shiftGrants, List.getElem?_map, List.getElem?_zipIdx, Nat.zero_add, getElem?_shifted hlen hi,
    Option.map_some]
  by_cases htau : i < tauOf c o.turnout <;> cases o.grants[i + k]? <;> simp [htau]

theorem Order.length_shift_grants (hlen : o.grants.length = 20) (k : Nat) : (o.shift c k).grants.length = 20 := by
  simp only [Order.shift, freezeBelow, shiftGrants, List.length_map, List.length_zipIdx, List.length_append, List.length_drop,
    List.length_replicate, hlen]
  omega

/-! ## The new state (R20) -/

/-- The state writes the state and OUTAGE of an order that is not closed yet. -/
theorem Order.advance_of_open (h : o.state ≠ .closedUnbilled) : o.advance b n = { o with
    state := (o.stateAt n).getD o.state, flags := { o.flags with outage := o.flags.outage || o.outageAt b n } } := by
  rw [Order.advance, if_pos (by simpa [Order.planned] using h)]

theorem Order.advance_of_closed (h : o.state = .closedUnbilled) : o.advance b n = o := by
  rw [Order.advance, if_neg (by simp [Order.planned, h])]

/-- The keys that R20 compares read the window alone. -/
theorem Order.stateAt_congr {o' : Order} (hstart : o'.startKey = o.startKey) (hduration : o'.duration = o.duration) :
    o'.stateAt n = o.stateAt n ∧ o'.outageAt b n = o.outageAt b n := by
  have hend : o'.endKey = o.endKey := by rw [Order.endKey, Order.endKey, hstart, hduration]
  have hstate : o'.stateAt n = o.stateAt n := by rw [Order.stateAt, Order.stateAt, hend, hstart]
  exact ⟨hstate, by rw [Order.outageAt, Order.outageAt, hstate, hend, hstart]⟩

/-- No key makes an order CLOSED_UNBILLED. -/
theorem Order.stateAt_ne_closed : o.stateAt n ≠ some .closedUnbilled := by
  unfold Order.stateAt
  split_ifs <;> simp

/-! ## The change of one order -/

/-- The order after the accrual and the shift. -/
def Order.shifted (c : Config.Settings) (b n : Nat) (o : Order) : Order := (o.accrue (periodSeconds c)).shift c (n - b)

theorem Order.shifted_fields : (o.shifted c b n).state = o.state ∧ (o.shifted c b n).stateAt n = o.stateAt n ∧
    (o.shifted c b n).outageAt b n = o.outageAt b n ∧ (o.shifted c b n).flags.outage = o.flags.outage := by
  have hkeys := Order.stateAt_congr (o := o) (o' := o.shifted c b n) (b := b) (n := n)
    (by rw [Order.shifted, Order.shift_eq, Order.accrue_eq]) (by rw [Order.shifted, Order.shift_eq, Order.accrue_eq])
  refine ⟨?_, hkeys.1, hkeys.2, ?_⟩ <;> rw [Order.shifted, Order.shift_eq, Order.accrue_eq]

/-- The change of an order that is not closed yet. -/
theorem Order.periodChange_of_open (h : o.state ≠ .closedUnbilled) : o.periodChange c b n = { o.shifted c b n with
    state := (o.stateAt n).getD o.state
    flags := { (o.shifted c b n).flags with outage := o.flags.outage || o.outageAt b n } } := by
  obtain ⟨hstate, hat, hout, hflag⟩ := Order.shifted_fields (o := o) (c := c) (b := b) (n := n)
  have hadvance := Order.advance_of_open (o := o.shifted c b n) (b := b) (n := n) (by rwa [hstate])
  rw [hat, hout, hflag, hstate] at hadvance
  exact hadvance

/-- The change of a CLOSED_UNBILLED order: its schedule shifts (R22). -/
theorem Order.periodChange_of_closed (h : o.state = .closedUnbilled) : o.periodChange c b n = o.shift c (n - b) := by
  have haccrue : o.accrue (periodSeconds c) = o := Order.accrue_of_not_active (by simp [h])
  rw [Order.periodChange, haccrue]
  exact Order.advance_of_closed h

/-- An order that is not closed yet closes exactly when R20 gives it no state. -/
theorem Order.closesAt_periodChange (h : o.state ≠ .closedUnbilled) : (o.periodChange c b n).closesAt n = (o.stateAt n).isNone := by
  have hat : (o.periodChange c b n).stateAt n = o.stateAt n := by
    rw [Order.periodChange_of_open h]
    exact (Order.stateAt_congr rfl rfl (b := b)).1.trans (Order.shifted_fields (b := b)).2.1
  have hplanned : (o.periodChange c b n).planned = true := by
    rw [Order.periodChange_of_open h]
    cases hs : o.stateAt n with
    | none => simpa [Order.planned] using h
    | some x =>
      have hx : x ≠ .closedUnbilled := fun hx => Order.stateAt_ne_closed (hx ▸ hs)
      simpa [Order.planned] using hx
  rw [Order.closesAt, hat, hplanned, Bool.true_and]

/-! ## The new state, key by key (R20) -/

theorem Order.stateAt_past (h : o.endKey + 2 ≤ n) : o.stateAt n = none := if_pos h

theorem Order.stateAt_closing (h : o.endKey + 1 = n) : o.stateAt n = some .closing := by
  rw [Order.stateAt, if_neg (by omega), if_pos h]

theorem Order.stateAt_active (hstart : o.startKey ≤ n) (hend : n ≤ o.endKey) : o.stateAt n = some .active := by
  rw [Order.stateAt, if_neg (by omega), if_neg (by omega), if_pos hstart]

/-- An order of one period or more that has not begun. -/
theorem Order.stateAt_pending (hduration : 1 ≤ o.duration) (h : n < o.startKey) : o.stateAt n = some .pending := by
  have hend : o.endKey = o.startKey + o.duration - 1 := rfl
  rw [Order.stateAt, if_neg (by omega), if_neg (by omega), if_neg (by omega)]

theorem meetsSpan_iff {lo hi first last : Nat} : meetsSpan lo hi first last = true ↔ first ≤ last ∧ lo ≤ last ∧ first ≤ hi := by
  simp [meetsSpan, and_assoc]

/-- OUTAGE after the change. -/
theorem Order.outage_periodChange (h : o.state ≠ .closedUnbilled) :
    (o.periodChange c b n).flags.outage = true ↔ o.flags.outage = true ∨ o.outageAt b n = true := by
  rw [Order.periodChange_of_open h, Bool.or_eq_true]

/-- The state after the change of an order that R20 gives one. -/
theorem Order.state_periodChange (h : o.state ≠ .closedUnbilled) {x : OrderState} (hx : o.stateAt n = some x) :
    (o.periodChange c b n).state = x := by
  rw [Order.periodChange_of_open h, hx]
  rfl

end

/-- Settles O34: a closed order by its shift, an open one by its fields and then by the keys of R20. -/
theorem orderPeriodChange : Obligations.OrderPeriodChange := by
  refine ⟨fun c b n o _ hclosed hlen => ?closed, fun c b n o _ hopen hlen hduration => ?opened⟩
  case closed =>
    have hchange : o.periodChange c b n = o.shift c (n - b) := Order.periodChange_of_closed hclosed
    intro o'
    have ho' : o' = o.shift c (n - b) := hchange
    rw [ho']
    exact ⟨rfl, Order.length_shift_grants hlen _, fun i hi => Order.getElem?_shift_grants hlen hi _, Order.closesAt_of_closed n hclosed⟩
  case opened =>
    intro o' meets
    have hchange : o' = _ := Order.periodChange_of_open hopen
    have hgrants : o'.grants = (o.shift c (n - b)).grants := by
      rw [hchange, Order.shifted, Order.accrue_eq]
      rfl
    have hcloses : o'.closesAt n = (o.stateAt n).isNone := Order.closesAt_periodChange hopen
    have houtage : o'.flags.outage = true ↔ o.flags.outage = true ∨ o.outageAt b n = true := Order.outage_periodChange hopen
    have hmeets : ∀ top, meetsSpan o.startKey top (b + 1) (n - 1) = true ↔ meets top := fun top => meetsSpan_iff
    refine ⟨?fields, ?granted, ?curtailed, ?length, ?entries, ?floor, fun hpast => ?past, fun hnot => ?stays, fun hclosing => ?closing,
      fun hstart hend => ?active, fun hbefore => ?pending⟩
    case fields => rw [hchange, Order.shifted, Order.shift_eq, Order.accrue_eq]
    case granted => rw [hchange, Order.shifted, Order.shift_eq, Order.accrue_eq]; rfl
    case curtailed => rw [hchange, Order.shifted, Order.shift_eq, Order.accrue_eq]; simp
    case length => rw [hgrants]; exact Order.length_shift_grants hlen _
    case entries => rw [hgrants]; exact fun i hi => Order.getElem?_shift_grants hlen hi _
    case floor => rw [hchange]; rfl
    case past =>
      have hat := Order.stateAt_past hpast
      refine ⟨by rw [hcloses, hat]; rfl, ?_⟩
      rw [houtage, Order.outageAt, hat, hmeets]
    case stays =>
      have hsome : o.stateAt n ≠ none := by
        unfold Order.stateAt
        rw [if_neg (by omega)]
        split_ifs <;> simp
      rw [hcloses]
      exact Option.isNone_eq_false_iff.2 (Option.isSome_iff_ne_none.2 hsome)
    case closing =>
      have hat := Order.stateAt_closing hclosing
      refine ⟨Order.state_periodChange hopen hat, ?_⟩
      rw [houtage, Order.outageAt, hat, hmeets]
    case active =>
      have hat := Order.stateAt_active hstart hend
      refine ⟨Order.state_periodChange hopen hat, ?_⟩
      rw [houtage, Order.outageAt, hat, hmeets]
    case pending =>
      have hat := Order.stateAt_pending hduration hbefore
      refine ⟨Order.state_periodChange hopen hat, Bool.eq_iff_iff.2 ?_⟩
      rw [houtage, Order.outageAt, hat]
      simp

end Sys2Proof.Machine
end
section
/-! The live orders and the wait list over a step (R16, section 9.6): which operations keep the numbers of the live orders distinct and the wait
list sound, and that every step does. -/

namespace Sys2Proof.Machine

section

variable {s t u : State}

/-! ## What an operation may do to the orders and the wait list -/

/-- The numbers of the live orders stay distinct, and the wait list stays sound. -/
def State.KeepsOrders (s t : State) : Prop := (s.book.NumbersDistinct → t.book.NumbersDistinct) ∧ (s.WaitKept → t.WaitKept)

theorem State.KeepsOrders.refl : s.KeepsOrders s := ⟨id, id⟩

theorem State.KeepsOrders.trans (h : s.KeepsOrders t) (h' : t.KeepsOrders u) : s.KeepsOrders u := ⟨h'.1 ∘ h.1, h'.2 ∘ h.2⟩

/-- Every live order of a book stands in another book, in its slot and under its number. -/
def OrderBook.NumbersFrom (b b' : OrderBook) : Prop :=
  ∀ slot o', b'.at? slot = some o' → ∃ o, b.at? slot = some o ∧ o.number = o'.number

theorem OrderBook.NumbersFrom.distinct {b b' : OrderBook} (h : b.NumbersFrom b') (hd : b.NumbersDistinct) : b'.NumbersDistinct := by
  intro i j o p ho hp hnumber
  obtain ⟨o', ho', hn⟩ := h i o ho
  obtain ⟨p', hp', hm⟩ := h j p hp
  exact hd i j o' p' ho' hp' (by rw [hn, hm, hnumber])

/-- An empty wait list is sound. -/
theorem State.waitKept_of_empty (h : s.billing.waitList = []) : s.WaitKept := by
  simp [State.WaitKept, h]

/-- The settings and the wait list stay, no live order is new, and what the wait list names is as it was. -/
structure State.OrdersStay (s t : State) : Prop where
  settings : t.settings = s.settings
  waitList : t.billing.waitList = s.billing.waitList
  numbers : s.book.NumbersFrom t.book
  closed : ∀ slot o, s.book.at? slot = some o → o.state = .closedUnbilled →
    ∃ o', t.book.at? slot = some o' ∧ o'.state = .closedUnbilled ∧ o'.record = o.record
  due : ∀ i, (s.turnout i).due = true → (t.turnout i).due = true

theorem State.OrdersStay.keeps (h : s.OrdersStay t) : s.KeepsOrders t := by
  refine ⟨h.numbers.distinct, fun ⟨hnodup, horder, htally⟩ => ⟨h.waitList ▸ hnodup, fun slot hslot => ?_, fun i hi => ?_⟩⟩
  · obtain ⟨o, r, ho, hstate, hr⟩ := horder slot (h.waitList ▸ hslot)
    obtain ⟨o', ho', hstate', hr'⟩ := h.closed slot o ho hstate
    exact ⟨o', r, ho', hstate', hr'.trans hr⟩
  · obtain ⟨hlt, hpresent, hdue⟩ := htally i (h.waitList ▸ hi)
    exact ⟨hlt, by rwa [h.settings], h.due i hdue⟩

/-- An operation that leaves the settings, the book, the wait list and the meters. -/
theorem keepsOrders_same (h : t.settings = s.settings ∧ t.book = s.book ∧ t.billing.waitList = s.billing.waitList ∧ t.meters = s.meters) :
    s.KeepsOrders t := by
  obtain ⟨hset, hbook, hwait, hmeters⟩ := h
  refine State.OrdersStay.keeps ⟨hset, hwait, fun slot o ho => ⟨o, hbook ▸ ho, rfl⟩, fun slot o ho hs => ⟨o, hbook ▸ ho, hs, rfl⟩, fun i hi => ?_⟩
  simpa only [State.turnout, hmeters] using hi

theorem State.KeepsOrders.then_same (h : s.KeepsOrders t)
    (h' : u.settings = t.settings ∧ u.book = t.book ∧ u.billing.waitList = t.billing.waitList ∧ u.meters = t.meters) : s.KeepsOrders u :=
  h.trans (keepsOrders_same h')

/-- An operation that changes each live order in its slot: its number stays, and a closed order with its record. -/
theorem keepsOrders_map {f : Nat → Order → Order} (hset : t.settings = s.settings) (hwait : t.billing.waitList = s.billing.waitList)
    (hat : ∀ slot, t.book.at? slot = (s.book.at? slot).map (f slot)) (hnumber : ∀ slot o, (f slot o).number = o.number)
    (hclosed : ∀ slot o, o.state = .closedUnbilled → (f slot o).state = .closedUnbilled ∧ (f slot o).record = o.record)
    (hdue : ∀ i, (s.turnout i).due = true → (t.turnout i).due = true) : s.KeepsOrders t := by
  refine State.OrdersStay.keeps ⟨hset, hwait, fun slot o' ho' => ?_, fun slot o ho hs => ⟨f slot o, by rw [hat, ho]; rfl, hclosed slot o hs⟩, hdue⟩
  rw [hat, Option.map_eq_some_iff] at ho'
  obtain ⟨o, ho, rfl⟩ := ho'
  exact ⟨o, ho, (hnumber slot o).symm⟩

/-- Turnouts that keep their due marks, entry by entry. -/
theorem State.due_of_map {f : Nat → Turnout → Turnout} (h : ∀ i, t.meters.turnouts[i]? = s.meters.turnouts[i]?.map (f i))
    (hf : ∀ i x, (f i x).due = x.due) (i : Nat) (hdue : (s.turnout i).due = true) : (t.turnout i).due = true := by
  simp only [State.turnout, List.getD_eq_getElem?_getD] at hdue ⊢
  rw [h]
  cases hx : s.meters.turnouts[i]? with
  | none => rw [hx] at hdue; exact hdue
  | some x => rw [hx] at hdue; simpa [hf] using hdue

/-- An operation on the turnouts alone that keeps their due marks. -/
theorem keepsOrders_turnouts {f : Nat → Turnout → Turnout}
    (h : t.settings = s.settings ∧ t.book = s.book ∧ t.billing.waitList = s.billing.waitList)
    (hmap : ∀ i, t.meters.turnouts[i]? = s.meters.turnouts[i]?.map (f i)) (hf : ∀ i x, (f i x).due = x.due) : s.KeepsOrders t := by
  obtain ⟨hset, hbook, hwait⟩ := h
  exact keepsOrders_map (f := fun _ o => o) hset hwait (fun slot => by rw [hbook, Option.map_id']) (fun _ _ => rfl) (fun _ _ hs => ⟨hs, rfl⟩)
    (State.due_of_map hmap hf)

/-- One turnout put with its due mark. -/
theorem keepsOrders_putTurnout {i : Nat} {x : Turnout} (h : x.due = (s.turnout i).due) : s.KeepsOrders (s.putTurnout i x) := by
  refine State.OrdersStay.keeps ⟨rfl, rfl, fun slot o ho => ⟨o, ho, rfl⟩, fun slot o ho hs => ⟨o, ho, hs, rfl⟩, fun j hj => ?_⟩
  by_cases hij : i = j
  · subst hij
    rcases Nat.lt_or_ge i s.meters.turnouts.length with hi | hi
    · simpa [State.putTurnout, State.turnout, hi, h] using hj
    · rw [State.turnout, List.getD_eq_getElem?_getD, List.getElem?_eq_none hi] at hj
      cases hj
  · simpa [State.putTurnout, State.turnout, hij] using hj

/-! ## The recompute (R80) -/

theorem keepsOrders_recompute : s.KeepsOrders s.recompute := by
  cases hrun : s.running with
  | false => rw [State.recompute_of_not_running hrun]; exact .refl
  | true =>
    refine keepsOrders_map (by simp) (by simp) (State.recompute_at? hrun) (fun slot o => ?_) (fun slot o hs => ?_) (fun i hi => ?_)
    · rw [(grantsWritten_writeShares s.settings s.book.bookKey s.planner.planKey (s.computePlan.sharesOf slot) o).fields]
    · rw [(grantsWritten_writeShares s.settings s.book.bookKey s.planner.planKey (s.computePlan.sharesOf slot) o).closed hs]
      exact ⟨hs, rfl⟩
    · simpa [State.turnout] using hi

theorem State.KeepsOrders.then_recompute (h : s.KeepsOrders t) : s.KeepsOrders t.recompute := h.trans keepsOrders_recompute

/-! ## The close of an order (R21, R156, R160) -/

/-- A write of a slot whose order keeps its number, or that is freed. -/
theorem OrderBook.numbersFrom_put {b : OrderBook} {slot : Nat} {o : Order} {x : Option Order} (ho : b.at? slot = some o)
    (hx : ∀ o', x = some o' → o'.number = o.number) : b.NumbersFrom (b.put slot x) := by
  intro i o' ho'
  by_cases hi : slot = i
  · subst hi
    rw [OrderBook.at?_put_self x (OrderBook.lt_of_at? ho)] at ho'
    exact ⟨o, ho, (hx o' ho').symm⟩
  · rw [OrderBook.at?_put_of_ne x hi] at ho'
    exact ⟨o', ho', rfl⟩

/-- An order that is not closed yet closes: with room nothing waits, and without it the order's own slot joins the wait list. -/
theorem keepsOrders_closeOrder {kind : RecordKind} {slot key : Nat} {o p : Order} (hp : s.book.at? slot = some p)
    (hopen : p.state ≠ .closedUnbilled) (hnumber : o.number = p.number) : s.KeepsOrders (s.closeOrder kind slot key o) := by
  cases hroom : s.billing.hasRoom with
  | true =>
    rw [State.closeOrder_of_room hroom]
    exact ⟨(OrderBook.numbersFrom_put hp fun _ h => by cases h).distinct, fun _ => State.waitKept_of_empty (s.billing.hasRoom_iff.1 hroom).2⟩
  | false =>
    rw [State.closeOrder_of_no_room hroom]
    refine ⟨(OrderBook.numbersFrom_put hp fun _ h => by cases h; exact hnumber).distinct, fun ⟨hnodup, horder, htally⟩ => ⟨?_, ?_, ?_⟩⟩
    · refine List.nodup_append.2 ⟨hnodup, List.nodup_singleton _, fun x hx y hy hxy => ?_⟩
      obtain rfl := List.mem_singleton.1 hy
      subst hxy
      obtain ⟨q, r, hq, hclosed, -⟩ := horder slot hx
      exact hopen (Option.some.inj (hp.symm.trans hq) ▸ hclosed)
    · intro i hi
      by_cases hslot : slot = i
      · subst hslot
        exact ⟨_, _, OrderBook.at?_put_self _ (OrderBook.lt_of_at? hp), rfl, rfl⟩
      · rcases List.mem_append.1 hi with hold | hnew
        · obtain ⟨q, r, hq, hrest⟩ := horder i hold
          exact ⟨q, r, (OrderBook.at?_put_of_ne _ hslot).trans hq, hrest⟩
        · exact absurd (WaitItem.order.inj (List.mem_singleton.1 hnew)).symm hslot
    · intro i hi
      rcases List.mem_append.1 hi with hold | hnew
      · exact htally i hold
      · cases List.mem_singleton.1 hnew

theorem keepsOrders_closeSlots (n : Nat) (l : List Nat) : s.KeepsOrders (s.closeSlots n l) := by
  induction l generalizing s with
  | nil => exact .refl
  | cons slot rest ih =>
    rw [State.closeSlots_cons]
    refine State.KeepsOrders.trans ?_ ih
    unfold State.closeSlot
    split
    · rename_i o ho
      split
      · rename_i hcloses
        refine keepsOrders_closeOrder ho (fun hclosed => ?_) rfl
        rw [Order.closesAt_of_closed n hclosed] at hcloses
        cases hcloses
      · exact .refl
    · exact .refl

/-! ## The close of a period (R17 to R22, R123, R130) -/

/-- The period change keeps an order's number, and a CLOSED_UNBILLED order with its record (R22). -/
theorem Order.periodChange_number (c : Config.Settings) (b n : Nat) (o : Order) : (o.periodChange c b n).number = o.number := by
  by_cases h : o.state = .closedUnbilled
  · rw [Order.periodChange_of_closed h]; rfl
  · rw [Order.periodChange_of_open h, Order.shifted, Order.accrue_eq]; rfl

theorem Order.periodChange_closed {o : Order} (h : o.state = .closedUnbilled) (c : Config.Settings) (b n : Nat) :
    (o.periodChange c b n).state = .closedUnbilled ∧ (o.periodChange c b n).record = o.record := by
  rw [Order.periodChange_of_closed h]
  exact ⟨h, rfl⟩

theorem keepsOrders_closeReport (n : Nat) : s.KeepsOrders (s.closeReport n) := by
  rcases Nat.lt_or_ge s.book.bookKey n with h | h
  · rw [State.closeReport_of_lt h]
    refine State.KeepsOrders.trans (State.KeepsOrders.then_same (t := s.withBook (s.changedBook n)) ?_ (by simp)) (keepsOrders_closeSlots _ _)
    exact keepsOrders_map (f := fun _ => s.changed n) rfl rfl (State.at?_changedBook s n) (fun _ _ => Order.periodChange_number _ _ _ _)
      (fun _ _ hs => Order.periodChange_closed hs _ _ _) (fun _ hi => hi)
  · rw [State.closeReport_of_le h]
    exact .refl

theorem keepsOrders_attributeAll (k : Nat) {l : List Nat} (hl : l.Nodup) : s.KeepsOrders (s.attributeAll k l) := by
  refine keepsOrders_map (by simp) (by simp) (State.attributeAll_at? hl s k) (fun slot o => ?_) (fun slot o hs => ?_)
    (State.due_of_map (State.attributeAll_turnouts hl s k) fun i x => ?_)
  · split <;> rfl
  · split <;> exact ⟨hs, rfl⟩
  · split <;> rfl

theorem keepsOrders_closeMeters (key : Nat) : s.KeepsOrders (s.closeMeters key) := by
  refine keepsOrders_turnouts (f := fun i x => if present s.settings i then x.closePeriod s.settings s.book key i else x) (by simp)
    (fun i => ?_) (fun i x => by split <;> rfl)
  simp [State.closeMeters, List.getElem?_zipIdx, Function.comp_def]

theorem keepsOrders_closeMetersOnce (key : Nat) : s.KeepsOrders (s.closeMetersOnce key) := by
  unfold State.closeMetersOnce
  split
  · split
    · exact .refl
    · exact keepsOrders_closeMeters key
  · exact keepsOrders_closeMeters key

theorem keepsOrders_closePeriod (n : Nat) : s.KeepsOrders (s.closePeriod n) := by
  rcases Nat.lt_or_ge s.close.openKey n with h | h
  · obtain ⟨pair, hpair⟩ := (s.gate.closeOnce_leaves s.close.openKey).1
    have hmeters : s.KeepsOrders s.metersAndGateClosed := (keepsOrders_closeMetersOnce s.close.openKey).then_same (by simp [State.metersAndGateClosed])
    have hreported : s.KeepsOrders (s.reported n) :=
      (hmeters.trans (keepsOrders_attributeAll _ List.nodup_range)).trans (keepsOrders_closeReport n)
    have hbalanced : s.KeepsOrders (s.balanced n pair) := hreported.then_same (by simp [State.balanced])
    rw [State.closePeriod_of_lt h hpair, State.afterClose]
    split
    · exact hbalanced.then_recompute
    · exact hbalanced
  · rw [State.closePeriod_of_le h]
    exact .refl

theorem keepsOrders_settleMeters : s.KeepsOrders s.settleMeters := by
  unfold State.settleMeters
  split
  · exact List.foldlRecOn (motive := s.KeepsOrders) _ _ .refl fun t ht e _ =>
      (ht.trans (keepsOrders_closePeriod e.oldKey)).trans (keepsOrders_closeMetersOnce _)
  · exact .refl

theorem keepsOrders_settleGate : s.KeepsOrders s.settleGate := by
  unfold State.settleGate
  split
  · exact List.foldlRecOn (motive := s.KeepsOrders) _ _ .refl fun t ht e _ =>
      (ht.trans (keepsOrders_closePeriod e.oldKey)).then_same (by simp)
  · exact .refl

/-! ## The tallies (R160, R161, R164, R165) -/

/-- A turnout with a tally exists. -/
theorem State.lt_of_tally {i : Nat} (h : 0 < (s.turnout i).tally) : i < s.meters.turnouts.length := by
  by_contra hi
  rw [State.turnout, List.getD_eq_getElem?_getD, List.getElem?_eq_none (Nat.not_lt.1 hi)] at h
  exact absurd h (by decide)

theorem keepsOrders_offerTally {i : Nat} (hi : i < 16) (howed : s.tallyOwed i = true) : s.KeepsOrders (s.offerTally i) := by
  obtain ⟨hpresent, htally, hdue⟩ := State.tallyOwed_iff.1 howed
  have hlt := State.lt_of_tally htally
  by_cases hroom : s.billing.hasRoom = true
  · rw [State.offerTally_of_room hroom]
    refine ⟨fun hd => by simpa using hd, fun _ => State.waitKept_of_empty ?_⟩
    rw [State.billTally_waitList, (s.billing.hasRoom_iff.1 hroom).2]
  · rw [State.offerTally_of_no_room hroom]
    refine ⟨fun hd => by simpa [State.deferTally_eq] using hd, fun ⟨hnodup, horder, htallies⟩ => ⟨?_, ?_, ?_⟩⟩
    · rw [State.deferTally_eq]
      refine List.nodup_append.2 ⟨hnodup, List.nodup_singleton _, fun x hx y hy hxy => ?_⟩
      obtain rfl := List.mem_singleton.1 hy
      subst hxy
      exact absurd (htallies i hx).2.2 (by simp [hdue])
    · rw [State.deferTally_eq]
      intro slot hslot
      rcases List.mem_append.1 hslot with hold | hnew
      · exact horder slot hold
      · cases List.mem_singleton.1 hnew
    · intro j hj
      rw [State.deferTally_turnout hlt]
      rw [State.deferTally_eq] at hj ⊢
      by_cases hij : i = j
      · subst hij
        exact ⟨hi, hpresent, by simp⟩
      · rcases List.mem_append.1 hj with hold | hnew
        · rw [if_neg hij]; exact htallies j hold
        · exact absurd (WaitItem.tally.inj (List.mem_singleton.1 hnew)).symm hij

theorem keepsOrders_offerTallies {l : List Nat} (hl : ∀ i ∈ l, i < 16) : s.KeepsOrders (s.offerTallies l) := by
  induction l generalizing s with
  | nil => exact .refl
  | cons i rest ih =>
    unfold State.offerTallies
    refine State.KeepsOrders.trans ?_ (ih fun j hj => hl j (List.mem_cons_of_mem i hj))
    split
    · exact keepsOrders_offerTally (hl i List.mem_cons_self) ‹_›
    · exact .refl

theorem keepsOrders_dayClose : s.KeepsOrders s.dayClose := by
  have htallies : s.KeepsOrders (s.offerTallies (List.range 16)) := keepsOrders_offerTallies fun i hi => List.mem_range.1 hi
  unfold State.dayClose
  generalize s.offerTallies (List.range 16) = t at htallies ⊢
  refine htallies.then_same ⟨rfl, rfl, ?_, rfl⟩
  unfold Billing.switchRates
  dsimp only [State.withBilling_billing]
  split <;> rfl

/-! ## The moves from the wait list (R161) -/

/-- A move makes no order live. -/
theorem State.numbersFrom_moveItem (x : WaitItem) : s.book.NumbersFrom (s.moveItem x).book := by
  have hsame : s.book.NumbersFrom s.book := fun slot o ho => ⟨o, ho, rfl⟩
  cases x with
  | tally i =>
    change s.book.NumbersFrom (s.billTally i).book
    simpa using hsame
  | order slot =>
    cases ho : s.book.at? slot with
    | none => simpa only [State.moveItem, ho] using hsame
    | some o =>
      cases hr : o.record with
      | none => simpa only [State.moveItem, ho, hr] using hsame
      | some r =>
        rw [State.moveItem_order ho hr]
        exact OrderBook.numbersFrom_put ho fun _ h => by cases h

/-- The head of a sound wait list can enter. -/
theorem State.WaitKept.canEnter (h : s.WaitKept) {x : WaitItem} (hx : x ∈ s.billing.waitList) : s.CanEnter x := by
  obtain ⟨-, horder, htally⟩ := h
  cases x with
  | order slot =>
    obtain ⟨o, r, ho, -, hr⟩ := horder slot hx
    exact ⟨o, r, ho, hr⟩
  | tally i =>
    refine Nat.lt_of_not_le fun hlen => ?_
    have hdue := (htally i hx).2.2
    rw [State.turnout, List.getD_eq_getElem?_getD, List.getElem?_eq_none hlen] at hdue
    cases hdue

/-- The oldest item leaves the wait list and enters the log: the other items are as they were. -/
theorem keepsOrders_moveHead {item : WaitItem} {rest : List WaitItem} (hwait : s.billing.waitList = item :: rest) :
    s.KeepsOrders ((s.withBilling { s.billing with waitList := rest }).moveItem item) := by
  refine ⟨fun hd => (State.numbersFrom_moveItem (s := s.withBilling { s.billing with waitList := rest }) item).distinct hd, fun hkept => ?_⟩
  have henter : (s.withBilling { s.billing with waitList := rest }).CanEnter item := by
    have h := hkept.canEnter (hwait ▸ List.mem_cons_self : item ∈ s.billing.waitList)
    cases item <;> exact h
  obtain ⟨hnodup, horder, htally⟩ := hkept
  rw [hwait] at hnodup horder htally
  obtain ⟨hfresh, hrest⟩ := List.nodup_cons.1 hnodup
  have hlist : ((s.withBilling { s.billing with waitList := rest }).moveItem item).billing.waitList = rest := State.moveItem_waitList _ _
  refine ⟨by rwa [hlist], fun slot hslot => ?_, fun i hi => ?_⟩
  · rw [hlist] at hslot
    rw [State.moveItem_at? henter, if_neg (fun h : item = .order slot => hfresh (h ▸ hslot))]
    exact horder slot (List.mem_cons_of_mem _ hslot)
  · rw [hlist] at hi
    rw [State.moveItem_turnout henter, if_neg (fun h : item = .tally i => hfresh (h ▸ hi))]
    rw [(State.moveItem_frame _ _).2.2.1]
    exact htally i (List.mem_cons_of_mem _ hi)

theorem keepsOrders_moveWait (n : Nat) : s.KeepsOrders (s.moveWait n) := by
  induction n generalizing s with
  | zero => exact .refl
  | succ n ih =>
    unfold State.moveWait
    split
    · exact .refl
    · split
      · exact (keepsOrders_moveHead ‹_›).trans ih
      · exact .refl

theorem keepsOrders_takeRelease (count : Nat) : s.KeepsOrders (s.takeRelease count).state :=
  State.KeepsOrders.trans (t := s.withBilling (s.billing.release (min count s.billing.log.length)))
    (keepsOrders_same ⟨rfl, rfl, rfl, rfl⟩) (keepsOrders_moveWait _)

theorem State.billTallies_waitList (l : List Nat) : (s.billTallies l).billing.waitList = s.billing.waitList := by
  induction l generalizing s with
  | nil => rfl
  | cons i rest ih => exact (ih (s := s.billTally i)).trans (s.billTally_waitList i)

theorem keepsOrders_takeSeasonClose : s.KeepsOrders s.takeSeasonClose.state := by
  unfold State.takeSeasonClose
  split
  · exact .refl
  · rename_i hquiet
    split
    · exact .refl
    · simp only [Bool.or_eq_true, Bool.not_eq_true', not_or, Bool.not_eq_false, List.isEmpty_iff] at hquiet
      refine ⟨fun hd => by simpa using hd, fun _ => State.waitKept_of_empty ?_⟩
      exact (State.billTallies_waitList _).trans hquiet.2

/-! ## The owners of the order commands (R16, R28 to R30) -/

theorem keepsOrders_cancelOrder {slot : Nat} {o : Order} (ho : s.book.at? slot = some o) (hopen : o.state ≠ .closedUnbilled)
    (late service : Bool) : s.KeepsOrders (s.cancelOrder slot late service o) := keepsOrders_closeOrder ho hopen rfl

theorem keepsOrders_cancelByCommand {slot : Nat} {o : Order} (ho : s.book.at? slot = some o) (hpending : o.state = .pending) :
    s.KeepsOrders (s.cancelByCommand slot o) :=
  State.KeepsOrders.then_recompute (keepsOrders_cancelOrder ho (by simp [hpending]) _ _)

/-- An order that is found stands in its slot. -/
theorem OrderBook.at?_of_find {b : OrderBook} {n slot : Nat} {o : Order} (h : b.find n = some (slot, o)) : b.at? slot = some o :=
  OrderBook.mem_live.1 (List.mem_of_find?_eq_some h)

/-- The slot that is found FREE. -/
theorem OrderBook.free_of_freeSlot {b : OrderBook} {slot : Nat} (h : b.freeSlot = some slot) : b.slots[slot]? = some none := by
  obtain ⟨hlt, hnone, -⟩ := List.findIdx?_eq_some_iff_getElem.1 h
  rw [List.getElem?_eq_getElem hlt, Option.isNone_iff_eq_none.1 hnone]

/-- An order of a number that is not live enters a FREE slot. -/
theorem keepsOrders_enterOrder {slot : Nat} (hfree : s.book.slots[slot]? = some none) {r : OrderRequest}
    (hfresh : s.book.find r.number = none) (cls : WaterClass) : s.KeepsOrders (s.enterOrder r cls slot) := by
  have hlt : slot < s.book.slots.length := (List.getElem?_eq_some_iff.1 hfree).1
  have hnone : s.book.at? slot = none := by rw [OrderBook.at?, hfree]; rfl
  have hother : ∀ i o, s.book.at? i = some o → o.number ≠ r.number := fun i o ho hn => by
    have hsome := OrderBook.find_isSome_iff.2 ⟨i, o, ho, hn⟩
    rw [hfresh] at hsome
    cases hsome
  refine State.KeepsOrders.then_recompute ⟨fun hd i j o p ho hp hn => ?_, fun ⟨hnodup, horder, htally⟩ => ⟨hnodup, fun i hi => ?_, htally⟩⟩
  · have hnew : ∀ k q, (s.book.put slot (some (admittedOrder s.settings r cls))).at? k = some q →
        (k = slot ∧ q.number = r.number) ∨ s.book.at? k = some q := fun k q hq => by
      by_cases hk : slot = k
      · subst hk
        rw [OrderBook.at?_put_self _ hlt] at hq
        cases hq
        exact .inl ⟨rfl, rfl⟩
      · rw [OrderBook.at?_put_of_ne _ hk] at hq
        exact .inr hq
    rcases hnew i o ho with ⟨hi, hoi⟩ | ho' <;> rcases hnew j p hp with ⟨hj, hpj⟩ | hp'
    · rw [hi, hj]
    · exact absurd (hn ▸ hoi) (hother j p hp')
    · exact absurd (hn.trans hpj) (hother i o ho')
    · exact hd i j o p ho' hp' hn
  · obtain ⟨o, q, ho, hrest⟩ := horder i hi
    have hk : slot ≠ i := fun hk => by rw [hk, ho] at hnone; cases hnone
    exact ⟨o, q, (OrderBook.at?_put_of_ne _ hk).trans ho, hrest⟩

theorem keepsOrders_takeOrder (r : OrderRequest) : s.KeepsOrders (s.takeOrder r).state := by
  unfold State.takeOrder
  split
  · exact .refl
  · split
    case h_2 hadmitted hslot _ =>
      exact keepsOrders_enterOrder (OrderBook.free_of_freeSlot hslot) (State.find_of_admitted hadmitted) _
    all_goals exact .refl

theorem keepsOrders_takeCancel (number : Nat) : s.KeepsOrders (s.takeCancel number).state := by
  unfold State.takeCancel
  split
  · exact .refl
  · rename_i hfound
    split
    · exact keepsOrders_cancelByCommand (OrderBook.at?_of_find hfound) ‹_›
    · exact .refl

/-- An ACTIVE order that is shut off. -/
theorem keepsOrders_shutOff {slot : Nat} {o : Order} (ho : s.book.at? slot = some o) (hactive : o.state = .active) (current : Nat) :
    s.KeepsOrders (s.withBook (s.book.put slot (some (o.shutOff current)))) := by
  refine State.OrdersStay.keeps ⟨rfl, rfl, OrderBook.numbersFrom_put ho fun _ h => by cases h; rfl, fun i p hp hclosed => ?_, fun _ hi => hi⟩
  have hslot : slot ≠ i := fun h => by
    subst h
    obtain rfl := Option.some.inj (ho.symm.trans hp)
    rw [hactive] at hclosed
    cases hclosed
  exact ⟨p, (OrderBook.at?_put_of_ne _ hslot).trans hp, hclosed, rfl⟩

theorem keepsOrders_takeShutoff (number : Nat) : s.KeepsOrders (s.takeShutoff number).state := by
  unfold State.takeShutoff
  split
  · exact .refl
  · rename_i hfound
    have hat := OrderBook.at?_of_find hfound
    split
    · exact (keepsOrders_shutOff hat ‹_› _).then_recompute
    · exact keepsOrders_cancelByCommand hat ‹_›
    · exact .refl
    · exact .refl

/-- The PENDING orders of different slots are cancelled one after the other. -/
theorem keepsOrders_cancelSlots {l : List Nat} (hl : l.Nodup) (h : ∀ slot ∈ l, ∀ o, s.book.at? slot = some o → o.state = .pending) :
    s.KeepsOrders (s.cancelSlots l) := by
  induction l generalizing s with
  | nil => exact .refl
  | cons slot rest ih =>
    obtain ⟨hslot, hrest⟩ := List.nodup_cons.1 hl
    unfold State.cancelSlots
    split
    · rename_i o ho
      have hpending := h slot List.mem_cons_self o ho
      refine (keepsOrders_cancelOrder ho (by simp [hpending]) false true).trans (ih hrest fun i hi p hp => ?_)
      obtain ⟨x, hbook, -⟩ := State.closeOrder_book s .cancel slot s.curKey
        { o with flags := { o.flags with late := o.flags.late || false, service := o.flags.service || true } }
      rw [State.cancelOrder, hbook, OrderBook.at?_put_of_ne _ (fun hne : slot = i => hslot (hne ▸ hi))] at hp
      exact h i (List.mem_cons_of_mem _ hi) p hp
    · exact ih hrest fun i hi => h i (List.mem_cons_of_mem _ hi)

/-- The slots of the PENDING orders of a turnout: in ascending order, and each holds such an order (R30). -/
theorem OrderBook.pendingOn_pairwise (b : OrderBook) (i : Nat) : (b.pendingOn i).Pairwise (· < ·) :=
  List.pairwise_map.2 (b.live_pairwise.filter _)

theorem OrderBook.mem_pendingOn {b : OrderBook} {i slot : Nat} :
    slot ∈ b.pendingOn i ↔ ∃ o, b.at? slot = some o ∧ o.turnout = i ∧ o.state = .pending := by
  simp [OrderBook.pendingOn, OrderBook.mem_live]

theorem keepsOrders_setService (i : Nat) (on : Bool) : s.KeepsOrders (s.setService i on) := keepsOrders_putTurnout rfl

theorem keepsOrders_outOfService (i : Nat) : s.KeepsOrders (s.outOfService i) := by
  have hcancelled : s.KeepsOrders ((s.setService i false).cancelSlots (s.book.pendingOn i)) := by
    refine (keepsOrders_setService i false).trans (keepsOrders_cancelSlots ((s.book.pendingOn_pairwise i).imp Nat.ne_of_lt) ?_)
    intro slot hslot o ho
    obtain ⟨o', ho', -, hpending⟩ := OrderBook.mem_pendingOn.1 hslot
    obtain rfl : o' = o := Option.some.inj (ho'.symm.trans ho)
    exact hpending
  unfold State.outOfService
  dsimp only
  split
  · exact hcancelled
  · exact hcancelled.then_recompute

theorem keepsOrders_takeService (i direction : Nat) : s.KeepsOrders (s.takeService i direction).state := by
  unfold State.takeService
  split
  · exact .refl
  · split
    · exact .refl
    · split
      · exact .refl
      · split
        · exact .refl
        · rw [State.accept_state]
          split
          · exact keepsOrders_setService i true
          · exact keepsOrders_outOfService i

end

section

variable {s t u : State}

/-! ## The meters (R118, R119) -/

theorem Turnout.pulse_due {x : Config.Turnout} {book : OrderBook} {inRun : Bool} {now i : Nat} (t : Turnout) :
    (t.pulse x book inRun now i).due = t.due := by
  unfold Turnout.pulse
  split
  · cases inRun
    · rfl
    · rw [if_pos rfl, Turnout.reject_eq]
  · cases inRun
    · rw [Turnout.acceptPulse_waiting]
    · rw [Turnout.acceptPulse_running]

theorem Turnout.noFlow_due {book : OrderBook} {i : Nat} (t : Turnout) : (t.noFlow book i).due = t.due := by
  rw [Turnout.noFlow_eq]

/-! ## The neighbours, the Planner and the Time Base -/

theorem keepsOrders_planPeriodChange (newKey : Nat) : s.KeepsOrders (s.planPeriodChange newKey) := by
  rcases Nat.lt_or_ge s.planner.planKey newKey with h | h
  · rw [State.planPeriodChange_of_lt h]
    exact State.KeepsOrders.then_recompute (keepsOrders_same ⟨rfl, rfl, rfl, rfl⟩)
  · rw [State.planPeriodChange_of_le h]
    exact .refl

theorem keepsOrders_loseEntry (i : Nat) : s.KeepsOrders (s.loseEntry i) := by
  unfold State.loseEntry
  split
  · exact .refl
  · exact State.KeepsOrders.then_recompute (keepsOrders_same (by simp))

theorem keepsOrders_acceptNotice (i : Nat) (e : Entry) (f : ReachFields) : s.KeepsOrders (s.acceptNotice i e f) := by
  have hhanded : ∀ v : State, v.KeepsOrders (v.handPairs e.role f) := by
    intro v
    unfold State.handPairs
    split
    · exact .refl
    · exact keepsOrders_same (by simp)
  rw [State.acceptNotice_eq]
  have hentered : s.KeepsOrders (if e.state = .fresh then s.putEntry i (e.accept s.settings.station.number s.time.elapsed f)
      else (s.putEntry i (e.accept s.settings.station.number s.time.elapsed f)).raise .neighbourBack) := by
    split <;> exact keepsOrders_same ⟨rfl, rfl, rfl, rfl⟩
  split
  · exact (hentered.trans (hhanded _)).then_recompute
  · exact hentered.trans (hhanded _)

theorem keepsOrders_mergeWatch (key : Nat) : s.KeepsOrders (s.mergeWatch key) := keepsOrders_same (by simp)

theorem keepsOrders_takeNotice (n : Notice) : s.KeepsOrders (s.takeNotice n) := by
  cases n with
  | watch sender key watchEnd =>
    unfold State.takeNotice
    dsimp only
    split
    · exact .refl
    · exact keepsOrders_mergeWatch _
  | reach sender f =>
    by_cases hrun : s.startup.state = .run
    · cases hi : s.neigh.indexOf sender with
      | none =>
        rw [State.takeNotice_reach_of_stranger hrun hi]
        split
        · exact keepsOrders_mergeWatch _
        · exact .refl
      | some i =>
        obtain ⟨e, he⟩ := NeighbourTable.getElem?_of_indexOf hi
        rw [State.takeNotice_reach_of_neighbour hrun he hi]
        split
        · exact (keepsOrders_acceptNotice i e f).trans (keepsOrders_mergeWatch _)
        · exact keepsOrders_same (by simp)
    · rw [State.takeNotice_reach_of_not_run hrun]
      exact keepsOrders_mergeWatch _

/-- The first time gives the book its key (R17). -/
theorem keepsOrders_firstTime (x : DistrictTime) : s.KeepsOrders (s.firstTime x) := by
  unfold State.firstTime State.enterRun
  refine State.KeepsOrders.then_recompute (State.KeepsOrders.then_same (t := s.withBook
    { s.book with bookKey := x.key s.settings.periodLength }) ?_ ⟨rfl, rfl, rfl, rfl⟩)
  exact keepsOrders_map (f := fun _ o => o) rfl rfl (fun _ => Option.map_id'.symm) (fun _ _ => rfl) (fun _ _ hs => ⟨hs, rfl⟩)
    (fun _ hi => hi)

theorem keepsOrders_takeTimeSet (x : DistrictTime) : s.KeepsOrders (s.takeTimeSet x).state := by
  unfold State.takeTimeSet
  repeat' split
  · exact .refl
  · exact keepsOrders_firstTime x
  · exact keepsOrders_same (by simp [State.setTime])
  · exact .refl

theorem keepsOrders_takeTimeTrim (seconds : Int) : s.KeepsOrders (s.takeTimeTrim seconds).state := by
  unfold State.takeTimeTrim
  split <;> exact keepsOrders_same (by simp)

/-! ## The other owners of link commands -/

theorem keepsOrders_takeSupply (flow : Nat) : s.KeepsOrders (s.takeSupply flow).state := by
  unfold State.takeSupply
  split
  · exact State.KeepsOrders.then_recompute (keepsOrders_same ⟨rfl, rfl, rfl, rfl⟩)
  · exact .refl

theorem keepsOrders_takeTarget (level : Nat) : s.KeepsOrders (s.takeTarget level).state := by
  unfold State.takeTarget
  repeat' split
  all_goals exact keepsOrders_same ⟨rfl, rfl, rfl, rfl⟩

theorem keepsOrders_takeGateMode (mode opening : Nat) : s.KeepsOrders (s.takeGateMode mode opening).state := by
  unfold State.takeGateMode
  split <;> exact keepsOrders_same ⟨rfl, rfl, rfl, rfl⟩

theorem keepsOrders_takeTripClear : s.KeepsOrders s.takeTripClear.state := by
  unfold State.takeTripClear
  dsimp only
  split <;> exact keepsOrders_same ⟨rfl, rfl, rfl, rfl⟩

theorem keepsOrders_takeAccount (index allotment limit state : Nat) : s.KeepsOrders (s.takeAccount index allotment limit state).state := by
  unfold State.takeAccount
  dsimp only
  repeat' split
  all_goals exact keepsOrders_same ⟨rfl, rfl, rfl, rfl⟩

theorem keepsOrders_takeRates (table : RateTable) : s.KeepsOrders (s.takeRates table).state := by
  unfold State.takeRates
  split <;> exact keepsOrders_same ⟨rfl, rfl, rfl, rfl⟩

theorem keepsOrders_takeTurnoutAck (i : Nat) (marks : Byte) : s.KeepsOrders (s.takeTurnoutAck i marks).state := by
  unfold State.takeTurnoutAck
  repeat' split
  · exact .refl
  · exact .refl
  · exact keepsOrders_putTurnout rfl

theorem keepsOrders_declareWatch (key : Nat) : s.KeepsOrders (s.declareWatch key).state := by
  unfold State.declareWatch
  split <;> exact keepsOrders_same (by simp)

theorem keepsOrders_takeAck (marks : BitVec 24) : s.KeepsOrders (s.takeAck marks).state := by
  unfold State.takeAck
  split <;> exact keepsOrders_same (by simp)

theorem keepsOrders_takeMask (marks : BitVec 24) : s.KeepsOrders (s.takeMask marks).state := by
  unfold State.takeMask
  split <;> exact keepsOrders_same ⟨rfl, rfl, rfl, rfl⟩

/-! ## LOADING and the starts (R128, R183 to R185) -/

/-- A turnout keeps its due mark when the part stops (R128). -/
theorem keepsOrders_enterLoading : s.KeepsOrders s.enterLoading :=
  keepsOrders_turnouts (f := fun _ => Turnout.kept) ⟨rfl, rfl, rfl⟩ (fun _ => List.getElem?_map) fun _ _ => rfl

theorem keepsOrders_stopped (x : StartUp) : s.KeepsOrders (s.stopped x) :=
  keepsOrders_turnouts (f := fun _ => Turnout.kept) ⟨rfl, rfl, rfl⟩ (fun _ => List.getElem?_map) fun _ _ => rfl

/-- A cold start has no live order, and nothing waits (R184). -/
theorem keepsOrders_coldStart (m : Image) : s.KeepsOrders (s.coldStart m) := by
  rw [State.coldStart_eq]
  refine ⟨fun _ i j o p ho _ _ => ?_, fun _ => State.waitKept_of_empty rfl⟩
  have hnone : (OrderBook.mk (List.replicate 48 none) 0).at? i = none := by
    rw [OrderBook.at?, List.getElem?_replicate]
    split <;> rfl
  rw [hnone] at ho
  cases ho

/-- A warm start keeps the orders and the wait list, whose turnouts the image marks present (R183, R185). -/
theorem keepsOrders_warmStart (hp : s.startup.powered = true) {m : Image} (hpresent : s.absentInUse m.settings = false) :
    s.KeepsOrders (s.warmStart m) := by
  rw [State.warmStart_eq hp]
  refine State.KeepsOrders.then_recompute ⟨id, fun ⟨hnodup, horder, htally⟩ => ⟨hnodup, horder, fun i hi => ?_⟩⟩
  obtain ⟨hlt, -, hdue⟩ := htally i hi
  refine ⟨hlt, ?_, State.due_of_map (s := s) (f := fun i x => warmTurnout m.settings i x) (fun j => ?_) (fun _ _ => rfl) i hdue⟩
  · by_contra habsent
    have huse : s.absentInUse m.settings = true :=
      (State.absentInUse_iff m.settings).2 (.inr ⟨i, hlt, Bool.not_eq_true _ ▸ habsent, .inr hi⟩)
    rw [hpresent] at huse
    cases huse
  · simp [State.warmBegun, List.getElem?_zipIdx, Function.comp_def]

theorem keepsOrders_startWith (hp : s.startup.powered = true) (m : Image) : s.KeepsOrders (s.startWith m) := by
  unfold State.startWith
  split
  · exact keepsOrders_coldStart m
  · rename_i hwarm
    refine keepsOrders_warmStart hp (Bool.eq_false_iff.2 fun huse => ?_)
    have hcold := (State.startKind_eq_cold_iff m).2 (.inr (.inr (.inr (.inr (.inr (.inr huse))))))
    rw [hcold] at hwarm
    cases hwarm

theorem keepsOrders_takeMemoryImage (hp : s.startup.powered = true) (image : List Byte) : s.KeepsOrders (s.takeMemoryImage image) := by
  unfold State.takeMemoryImage
  split
  · exact keepsOrders_startWith hp _
  · split <;> exact keepsOrders_same ⟨rfl, rfl, rfl, rfl⟩

theorem keepsOrders_endLoad (hp : s.startup.powered = true) : s.KeepsOrders s.endLoad.state := by
  unfold State.endLoad State.takeLinkImage
  split
  · exact .refl
  · rw [State.accept_state]
    split
    · exact keepsOrders_startWith hp _
    · exact keepsOrders_same ⟨rfl, rfl, rfl, rfl⟩

theorem keepsOrders_loadBytes (offset : Nat) (bytes : List Byte) : s.KeepsOrders (s.loadBytes offset bytes).state := by
  unfold State.loadBytes
  dsimp only
  repeat' split
  all_goals exact keepsOrders_same ⟨rfl, rfl, rfl, rfl⟩

/-! ## The answer of a command -/

/-- The answer of a command keeps the orders and the wait list. -/
def OrdersOut (s : State) (o : Out) : Prop := ∀ t, o = .next t → s.KeepsOrders t

theorem ordersOut_next (h : s.KeepsOrders t) : OrdersOut s (.next t) := by rintro _ ⟨⟩; exact h

theorem ordersOut_if {p : Prop} [Decidable p] {a b : Out} (ha : p → OrdersOut s a) (hb : OrdersOut s b) :
    OrdersOut s (if p then a else b) := by
  split
  · exact ha ‹_›
  · exact hb

/-- An event that is taken under its condition, and otherwise leaves the state. -/
theorem ordersOut_event {p : Prop} [Decidable p] (h : s.KeepsOrders t) : OrdersOut s (if p then .next t else .next s) :=
  ordersOut_if (fun _ => ordersOut_next h) (ordersOut_next .refl)

/-- An event that leaves the settings, the book, the wait list and the meters. -/
theorem ordersOut_ite {p : Prop} [Decidable p]
    (h : t.settings = s.settings ∧ t.book = s.book ∧ t.billing.waitList = s.billing.waitList ∧ t.meters = s.meters) :
    OrdersOut s (if p then .next t else .next s) := ordersOut_event (keepsOrders_same h)

/-- A served command keeps the orders when its owner does on a powered part: the reply leaves them. -/
theorem ordersOut_serve_of {c : Instr} {kind : Byte} {k : Service} {body : Served}
    (h : s.startup.powered = true → s.KeepsOrders body.state) : OrdersOut s (.next (s.serve c kind k body)) := by
  refine ordersOut_next ?_
  unfold State.serve
  split
  · rename_i hp
    unfold State.result
    split
    · exact keepsOrders_same ⟨rfl, rfl, rfl, rfl⟩
    · exact h hp
  · exact .refl

theorem ordersOut_serve {c : Instr} {kind : Byte} {k : Service} {body : Served} (h : s.KeepsOrders body.state) :
    OrdersOut s (.next (s.serve c kind k body)) := ordersOut_serve_of fun _ => h

theorem ordersOut_replySent (s : State) : OrdersOut s (execReplySent s) := by
  unfold execReplySent
  split
  · exact ordersOut_next .refl
  · exact ordersOut_if (fun _ => ordersOut_next keepsOrders_enterLoading) (ordersOut_next (keepsOrders_same ⟨rfl, rfl, rfl, rfl⟩))

/-- A level sample: the accumulator's waiting events are taken, and the gate and its alerts change. -/
theorem ordersOut_levelSample (record : List Byte) (s : State) : OrdersOut s (exec (.levelSample record) s) := by
  refine ordersOut_if (fun _ => ?_) (ordersOut_next .refl)
  split <;> exact ordersOut_next (keepsOrders_settleGate.then_same (by simp))

end

/-- Every command keeps the orders and the wait list. -/
theorem exec_ordersOut (c : Instr) (s : State) : OrdersOut s (exec c s) := by
  cases c with
  -- the order commands
  | orderPlace _ => exact ordersOut_serve (keepsOrders_takeOrder _)
  | orderCancel _ => exact ordersOut_serve (keepsOrders_takeCancel _)
  | orderShutoff _ => exact ordersOut_serve (keepsOrders_takeShutoff _)
  | turnoutService _ _ => exact ordersOut_serve (keepsOrders_takeService _ _)
  -- the wait list
  | logRelease _ => exact ordersOut_serve (keepsOrders_takeRelease _)
  | seasonClose => exact ordersOut_serve keepsOrders_takeSeasonClose
  | billingDayClose =>
    simp only [exec, execBillingDayClose]
    split
    · exact ordersOut_event (State.KeepsOrders.trans (keepsOrders_same (by simp)) keepsOrders_dayClose)
    · exact ordersOut_next .refl
  -- the closes of periods
  | planPeriodChange =>
    simp only [exec, execPlanPeriodChange]
    split
    · exact ordersOut_event (State.KeepsOrders.trans (keepsOrders_same (by simp)) (keepsOrders_planPeriodChange _))
    · exact ordersOut_next .refl
  | periodClose =>
    simp only [exec, execPeriodClose]
    split
    · exact ordersOut_event (State.KeepsOrders.trans (keepsOrders_same (by simp)) (keepsOrders_closePeriod _))
    · exact ordersOut_next .refl
  | meterPeriodClose =>
    simp only [exec, execMeterPeriodClose]
    split
    · exact ordersOut_event (State.KeepsOrders.trans (keepsOrders_same (by simp)) (keepsOrders_closeMetersOnce _))
    · exact ordersOut_next .refl
  | gatePeriodBoundary =>
    simp only [exec, execGatePeriodBoundary]
    split
    · exact ordersOut_ite ⟨rfl, rfl, rfl, rfl⟩
    · exact ordersOut_next .refl
  | meterPulse _ => exact ordersOut_event (keepsOrders_settleMeters.trans (keepsOrders_putTurnout (Turnout.pulse_due _)))
  | noFlowExpiry _ => exact ordersOut_event (keepsOrders_settleMeters.trans (keepsOrders_putTurnout (Turnout.noFlow_due _)))
  | levelSample record => exact ordersOut_levelSample record s
  | sampleWatchExpiry => exact ordersOut_event (keepsOrders_settleGate.then_same (by simp))
  -- the entries to LOADING and the starts
  | resetRelease _ _ _ => rw [exec_resetRelease]; exact ordersOut_next (keepsOrders_stopped _)
  | supplyLoss => rw [exec_supplyLoss]; exact ordersOut_next (keepsOrders_stopped _)
  | replySent => exact ordersOut_replySent s
  | imageReadComplete image =>
    refine ordersOut_if (fun h => ordersOut_next ?_) (ordersOut_next .refl)
    simp only [Bool.and_eq_true] at h
    exact keepsOrders_takeMemoryImage h.1.1 _
  | configEnd => exact ordersOut_serve_of fun hp => keepsOrders_endLoad hp
  | configData _ _ => exact ordersOut_serve (keepsOrders_loadBytes _ _)
  | restart => exact ordersOut_serve .refl
  -- the blocks that recompute
  | holdExpiry _ => exact ordersOut_event (keepsOrders_loseEntry _)
  | lineFrameReceived _ =>
    refine ordersOut_if (fun _ => ?_) (ordersOut_next (keepsOrders_same (by simp)))
    split
    · exact ordersOut_next (State.KeepsOrders.trans (keepsOrders_same (by simp)) (keepsOrders_takeNotice _))
    · exact ordersOut_next (keepsOrders_same (by simp))
  | supplySet _ => exact ordersOut_serve (keepsOrders_takeSupply _)
  | timeSet _ _ _ _ => exact ordersOut_serve (keepsOrders_takeTimeSet _)
  | timeTrim _ => exact ordersOut_serve (keepsOrders_takeTimeTrim _)
  -- the commands and events that leave the orders, the wait list and the meters
  | catchUp => exact ordersOut_next (keepsOrders_same (by simp))
  | encoderStep _ | restExpiry | stallExpiry | tripWaitExpiry | periodBoundary => exact ordersOut_ite (by simp)
  | limitInputChange _ _ =>
    exact ordersOut_if (fun _ => ordersOut_next .refl) (ordersOut_if (fun _ => ordersOut_next (keepsOrders_same (by simp)))
      (ordersOut_if (fun _ => ordersOut_next (keepsOrders_same (by simp))) (ordersOut_next (keepsOrders_same (by simp)))))
  | supplyLowChange _ | tripInputChange _ =>
    exact ordersOut_if (fun _ => ordersOut_next .refl)
      (ordersOut_if (fun _ => ordersOut_next (keepsOrders_same (by simp))) (ordersOut_next (keepsOrders_same (by simp))))
  | crystalStop => exact ordersOut_if (fun _ => ordersOut_next (keepsOrders_same ⟨rfl, rfl, rfl, rfl⟩)) (ordersOut_ite ⟨rfl, rfl, rfl, rfl⟩)
  | crystalRunning =>
    exact ordersOut_if (fun _ => ordersOut_next (keepsOrders_same ⟨rfl, rfl, rfl, rfl⟩)) (ordersOut_next (keepsOrders_same ⟨rfl, rfl, rfl, rfl⟩))
  | lineCharacterReceived _ _ | lineFrameGap | holdoffExpiry | noticeTimerExpiry | accessGapReached | backoffExpiry | collision
  | noticeComplete | linkCharacterReceived _ _ | linkFrameReceived _ _ | linkFrameGap | moderationExpiry => exact ordersOut_ite (by simp)
  | noticeNow => exact ordersOut_serve (keepsOrders_same (by simp))
  | gateMode _ _ => exact ordersOut_serve (keepsOrders_takeGateMode _ _)
  | tripClear => exact ordersOut_serve keepsOrders_takeTripClear
  | accountSet _ _ _ _ => exact ordersOut_serve (keepsOrders_takeAccount _ _ _ _)
  | ratesStage _ => exact ordersOut_serve (keepsOrders_takeRates _)
  | targetStage _ => exact ordersOut_serve (keepsOrders_takeTarget _)
  | turnoutAck _ _ => exact ordersOut_serve (keepsOrders_takeTurnoutAck _ _)
  | watchDeclare _ => exact ordersOut_serve (keepsOrders_declareWatch _)
  | alertAck _ => exact ordersOut_serve (keepsOrders_takeAck _)
  | alertMask _ => exact ordersOut_serve (keepsOrders_takeMask _)
  | check _ | unknownCommand _ | bookList | logRead _ | alertRead => exact ordersOut_serve .refl
  | statusRead _ | planRead _ | orderQuery _ | accountQuery _ | turnoutQuery _ =>
    exact ordersOut_serve (by rw [State.read_state]; exact .refl)

/-- Every step keeps the orders and the wait list: the queue is no part of them, and time alone leaves them. -/
theorem step_keepsOrders {s t : State} (h : step s = .next t) : s.KeepsOrders t := by
  unfold step at h
  split at h
  case h_1 c rest _ => exact exec_ordersOut c (s.withPending rest) t h
  case h_2 =>
    split at h
    case h_1 c _ => exact exec_ordersOut c s t h
    case h_2 =>
      cases h
      exact keepsOrders_same (by simp)

/-- Settles O9: every step keeps both. -/
theorem stepKeepsOrderNumbersDistinct : Obligations.StepKeepsOrderNumbersDistinct :=
  ⟨fun _ _ hd h => (step_keepsOrders h).1 hd, fun _ _ hkept h => (step_keepsOrders h).2 hkept⟩

end Sys2Proof.Machine
end
section
/-! ORDER_PLACE (R23, R24, R27): the form check, the order that is admitted, and the two refusals. -/

namespace Sys2Proof.Machine

section

variable {s : State} {r : OrderRequest}

/-- The form check of R23. -/
theorem formGood_iff {plen : Nat} : formGood plen r = true ↔ r.number ≠ 0 ∧ 1 ≤ r.cls ∧ r.cls ≤ 4 ∧ 1 ≤ r.duration ∧
    r.duration ≤ 288 ∧ r.startKey + r.duration ≤ highestKey plen := by
  simp [formGood, and_assoc]

/-- The class of a class field (R23). -/
theorem classOf?_number (cls : WaterClass) : classOf? cls.number = some cls := by cases cls <;> rfl

/-- FROST marks the orders of class 2 (R27). -/
theorem frost_eq_decide (cls : WaterClass) : (cls == .frost) = decide (cls.number = 2) := by cases cls <;> rfl

/-- The slot that is the first FREE one (R16). -/
theorem OrderBook.freeSlot_of_first {b : OrderBook} {slot : Nat} (hfree : b.slots[slot]? = some none)
    (hfirst : ∀ i, i < slot → b.slots[i]? ≠ some none) : b.freeSlot = some slot := by
  obtain ⟨hlt, hnone⟩ := List.getElem?_eq_some_iff.1 hfree
  refine List.findIdx?_eq_some_iff_getElem.2 ⟨hlt, by rw [hnone]; rfl, fun i hi hx => ?_⟩
  exact hfirst i hi (by rw [List.getElem?_eq_getElem (hi.trans hlt), Option.isNone_iff_eq_none.1 hx])

/-- An order out of form. -/
theorem State.takeOrder_of_bad (h : formGood s.settings.periodLength r = false) : s.takeOrder r = s.refuse .badValue := by
  rw [State.takeOrder, h]
  rfl

/-- An order that a check refuses. -/
theorem State.takeOrder_of_refused (h : formGood s.settings.periodLength r = true) {code : ResultCode} (hc : s.admission r = some code) :
    s.takeOrder r = s.refuse code := by
  rw [State.takeOrder, h, hc]
  rfl

/-- An order that is admitted. -/
theorem State.takeOrder_of_admitted (h : formGood s.settings.periodLength r = true) (ha : s.admission r = none) {slot : Nat}
    (hslot : s.book.freeSlot = some slot) {cls : WaterClass} (hcls : cls.number = r.cls) :
    s.takeOrder r = (s.enterOrder r cls slot).accept (byte slot) := by
  rw [State.takeOrder, h, ha, hslot, ← hcls, classOf?_number]
  rfl

end

/-- Settles O31: the form check, and the three outcomes. -/
theorem orderPlaceAdmits : Obligations.OrderPlaceAdmits := by
  refine fun s r hrun => ⟨formGood_iff, fun cls slot hform hadmitted hcls hfree hfirst => ?admitted, fun hbad => ?bad, fun code hform hcode => ?refused⟩
  case admitted =>
    have hbody := State.takeOrder_of_admitted hform hadmitted (OrderBook.freeSlot_of_first hfree hfirst) hcls
    refine (State.serve_run_accept hrun hbody).trans ?_
    rw [State.enterOrder, admittedOrder, frost_eq_decide, hcls]
    rfl
  case bad => exact State.serve_run_refuse hrun (State.takeOrder_of_bad hbad)
  case refused => exact State.serve_run_refuse hrun (State.takeOrder_of_refused hform hcode)

end Sys2Proof.Machine
end

section
/-! ORDER_CANCEL and ORDER_SHUTOFF (R28, R29): each by the state of the order that the number finds. -/

namespace Sys2Proof.Machine

section

variable {s : State} {o : Order} {n slot : Nat}

/-- A number that is not live. -/
theorem State.takeCancel_of_none (h : s.book.find n = none) : s.takeCancel n = s.refuse .notFound := by
  rw [State.takeCancel, h]

theorem State.takeShutoff_of_none (h : s.book.find n = none) : s.takeShutoff n = s.refuse .notFound := by
  rw [State.takeShutoff, h]

/-- A PENDING order is cancelled by both commands. -/
theorem State.takeCancel_of_pending (h : s.book.find n = some (slot, o)) (hs : o.state = .pending) :
    s.takeCancel n = (s.cancelByCommand slot o).accept [] := by
  rw [State.takeCancel, h]
  exact if_pos hs

theorem State.takeShutoff_of_pending (h : s.book.find n = some (slot, o)) (hs : o.state = .pending) :
    s.takeShutoff n = (s.cancelByCommand slot o).accept [] := by
  rw [State.takeShutoff, h]
  simp only [hs]

/-- An order that draws, or is closed, is not cancelled (R28). -/
theorem State.takeCancel_of_drawn (h : s.book.find n = some (slot, o)) (hs : o.state ≠ .pending) : s.takeCancel n = s.refuse .state := by
  rw [State.takeCancel, h]
  exact if_neg hs

/-- An ACTIVE order is shut off (R29). -/
theorem State.takeShutoff_of_active (h : s.book.find n = some (slot, o)) (hs : o.state = .active) :
    s.takeShutoff n = (s.withBook (s.book.put slot (some (o.shutOff s.curKey)))).recompute.accept [] := by
  rw [State.takeShutoff, h]
  simp only [hs]

theorem State.takeShutoff_of_ended (h : s.book.find n = some (slot, o)) (hs : o.state = .closing ∨ o.state = .closedUnbilled) :
    s.takeShutoff n = s.refuse .state := by
  rw [State.takeShutoff, h]
  rcases hs with hs | hs <;> simp only [hs]

/-- The cancellation closes the order as a CANCEL at the current key, LATE within the lock time (R28). -/
theorem State.cancelByCommand_eq (s : State) (slot : Nat) (o : Order) : s.cancelByCommand slot o =
    (s.closeOrder .cancel slot s.curKey { o with flags := { o.flags with late := o.flags.late || s.isLate o } }).recompute := by
  rw [State.cancelByCommand, State.cancelOrder, Bool.or_false]

/-- The end key of an order that is shut off is the current one at most (R29). -/
theorem Order.endKey_shutOff {current : Nat} (hstart : o.startKey ≤ current) :
    (o.shutOff current).endKey = min o.endKey current := by
  have hend : (o.shutOff current).endKey = o.startKey + (if o.endKey ≤ current then o.duration else current - o.startKey + 1) - 1 := rfl
  have hold : o.endKey = o.startKey + o.duration - 1 := rfl
  rw [hend]
  split <;> omega

end

/-- Settles O32: the order that the number finds, by its state, and a number that finds none. -/
theorem orderCancelAndShutoff : Obligations.OrderCancelAndShutoff := by
  refine ⟨fun s slot o hrun hd hat => ?found, fun s n hrun hnone => ⟨?cancelNone, ?shutoffNone⟩⟩
  case found =>
    have hfind := OrderBook.find_of_at? hd hat
    intro cancel shutoff lock late cancelled cut
    have hcancelled : s.cancelByCommand slot o = cancelled := State.cancelByCommand_eq s slot o
    refine ⟨fun hpending => ⟨?_, ?_⟩, fun hdrawn => ?_, fun hactive => ⟨?_, fun _ => Order.endKey_shutOff⟩, fun hended => ?_⟩
    · exact State.serve_run_accept hrun (hcancelled ▸ State.takeCancel_of_pending hfind hpending)
    · exact State.serve_run_accept hrun (hcancelled ▸ State.takeShutoff_of_pending hfind hpending)
    · exact State.serve_run_refuse hrun (State.takeCancel_of_drawn hfind hdrawn)
    · exact State.serve_run_accept hrun (State.takeShutoff_of_active hfind hactive)
    · exact State.serve_run_refuse hrun (State.takeShutoff_of_ended hfind hended)
  case cancelNone => exact State.serve_run_refuse hrun (State.takeCancel_of_none (OrderBook.find_eq_none hnone))
  case shutoffNone => exact State.serve_run_refuse hrun (State.takeShutoff_of_none (OrderBook.find_eq_none hnone))

end Sys2Proof.Machine
end
section
/-! TURNOUT_SERVICE and TURNOUT_ACK (R30, R126): the cancellations of a turnout's PENDING orders, and the outcomes of the two commands. -/

namespace Sys2Proof.Machine

section

variable {s u : State} {o : Order} {slot i : Nat}

/-! ## The cancellations (R30) -/

/-- The order that TURNOUT_SERVICE cancels: SERVICE set, LATE as it was. -/
def Order.served (o : Order) : Order := { o with flags := { o.flags with service := true } }

theorem State.cancelSlots_cons_of_none (h : u.book.at? slot = none) (rest : List Nat) :
    u.cancelSlots (slot :: rest) = u.cancelSlots rest := by
  rw [State.cancelSlots, h]

theorem State.cancelSlots_cons_of_some (h : u.book.at? slot = some o) (rest : List Nat) :
    u.cancelSlots (slot :: rest) = (u.closeOrder .cancel slot u.curKey o.served).cancelSlots rest := by
  rw [State.cancelSlots, h]
  simp only [State.cancelOrder, Bool.or_false, Bool.or_true]
  rfl

/-- A cancellation that is not LATE is free of charge (R151). -/
theorem State.cancelCharge_zero (h : o.flags.late = false) : closeCharge u .cancel o.served = 0 := by
  change cancelCharge u.billing.active o.served = 0
  rw [cancelCharge, Order.served, h]
  rfl

/-- The slots that are not in the list are left. -/
theorem State.cancelSlots_at?_of_notMem {l : List Nat} (h : slot ∉ l) : (u.cancelSlots l).book.at? slot = u.book.at? slot := by
  induction l generalizing u with
  | nil => rfl
  | cons j rest ih =>
    obtain ⟨hne, hrest⟩ := not_or.1 (mt List.mem_cons.2 h)
    cases hj : u.book.at? j with
    | none => rw [State.cancelSlots_cons_of_none hj, ih hrest]
    | some o =>
      obtain ⟨x, hbook, -⟩ := u.closeOrder_book .cancel j u.curKey o.served
      rw [State.cancelSlots_cons_of_some hj, ih hrest, hbook, OrderBook.at?_put_of_ne x (Ne.symm hne)]

/-- The slot is free, or holds a closed order. -/
def State.NotOpen (u : State) (slot : Nat) : Prop := ∀ o, u.book.at? slot = some o → o.state = .closedUnbilled

/-- A cancellation closes its own slot, and opens none. -/
theorem State.notOpen_closeOrder {j key : Nat} (hj : u.book.at? j = some o) (h : j = slot ∨ u.NotOpen slot) (p : Order) :
    (u.closeOrder .cancel j key p).NotOpen slot := by
  obtain ⟨x, hbook, hx⟩ := u.closeOrder_book .cancel j key p
  intro q hq
  rw [hbook] at hq
  by_cases hjs : j = slot
  · subst hjs
    rw [OrderBook.at?_put_self x (OrderBook.lt_of_at? hj)] at hq
    exact (hx q hq).1
  · rw [OrderBook.at?_put_of_ne x hjs] at hq
    exact h.resolve_left hjs q hq

theorem State.NotOpen.cancelSlots (h : u.NotOpen slot) (l : List Nat) : (u.cancelSlots l).NotOpen slot := by
  induction l generalizing u with
  | nil => exact h
  | cons j rest ih =>
    cases hj : u.book.at? j with
    | none => rw [State.cancelSlots_cons_of_none hj]; exact ih h
    | some o => rw [State.cancelSlots_cons_of_some hj]; exact ih (State.notOpen_closeOrder hj (.inr h) _)

/-- The slots of the list hold no open order after the cancellations. -/
theorem State.notOpen_of_mem {l : List Nat} (h : slot ∈ l) : (u.cancelSlots l).NotOpen slot := by
  induction l generalizing u with
  | nil => cases h
  | cons j rest ih =>
    rcases List.mem_cons.1 h with rfl | hrest
    · cases hj : u.book.at? slot with
      | none =>
        rw [State.cancelSlots_cons_of_none hj]
        exact State.NotOpen.cancelSlots (fun o ho => by rw [hj] at ho; cases ho) rest
      | some o =>
        rw [State.cancelSlots_cons_of_some hj]
        exact State.NotOpen.cancelSlots (State.notOpen_closeOrder hj (.inl rfl) _) rest
    · cases hj : u.book.at? j with
      | none => rw [State.cancelSlots_cons_of_none hj]; exact ih hrest
      | some o => rw [State.cancelSlots_cons_of_some hj]; exact ih hrest

/-- A recompute leaves the turnout and the state of every order. -/
theorem State.at?_of_recompute (h : s.recompute.book.at? slot = some o) :
    ∃ p, s.book.at? slot = some p ∧ o.turnout = p.turnout ∧ o.state = p.state := by
  cases hrun : s.running with
  | false => rw [State.recompute_of_not_running hrun] at h; exact ⟨o, h, rfl, rfl⟩
  | true =>
    rw [State.recompute_at? hrun, Option.map_eq_some_iff] at h
    obtain ⟨p, hp, rfl⟩ := h
    have hfields := (grantsWritten_writeShares s.settings s.book.bookKey s.planner.planKey (s.computePlan.sharesOf slot) p).fields
    exact ⟨p, hp, by rw [hfields], by rw [hfields]⟩

/-! ## TURNOUT_SERVICE (R30) -/

/-- The part after the turnout is taken out and its PENDING orders are cancelled. -/
def State.takenOut (s : State) (i : Nat) : State :=
  if s.book.pendingOn i = [] then (s.setService i false).cancelSlots (s.book.pendingOn i)
  else ((s.setService i false).cancelSlots (s.book.pendingOn i)).recompute

theorem State.outOfService_eq (s : State) (i : Nat) : s.outOfService i = s.takenOut i := by
  unfold State.outOfService State.takenOut
  simp only [List.isEmpty_iff]

/-- No order of the turnout stays PENDING. -/
theorem State.takenOut_pending (h : (s.takenOut i).book.at? slot = some o) (hi : o.turnout = i) : o.state ≠ .pending := by
  have hcancelled : ∀ p, ((s.setService i false).cancelSlots (s.book.pendingOn i)).book.at? slot = some p → p.turnout = i →
      p.state ≠ .pending := by
    intro p hp hpi hpending
    by_cases hmem : slot ∈ s.book.pendingOn i
    · rw [State.notOpen_of_mem hmem p hp] at hpending
      cases hpending
    · rw [State.cancelSlots_at?_of_notMem hmem] at hp
      exact hmem (OrderBook.mem_pendingOn.2 ⟨p, hp, hpi, hpending⟩)
  unfold State.takenOut at h
  split at h
  · exact hcancelled o h hi
  · obtain ⟨p, hp, hturnout, hstate⟩ := State.at?_of_recompute h
    exact hstate ▸ hcancelled p hp (hturnout ▸ hi)

theorem directionOf?_of_le {d : Nat} (h : 2 ≤ d) : directionOf? d = none := by
  match d, h with
  | n + 2, _ => rfl

/-- The outcomes of the command, in the order of its judgements. -/
theorem State.takeService_of_absent (h : present s.settings i = false) (d : Nat) : s.takeService i d = s.refuse .badTurnout := by
  rw [State.takeService, h]
  rfl

theorem State.takeService_of_undefined (h : present s.settings i = true) {d : Nat} (hd : 2 ≤ d) : s.takeService i d = s.refuse .badValue := by
  rw [State.takeService, h, directionOf?_of_le hd]
  rfl

theorem State.takeService_of_draw (h : present s.settings i = true) (hdraw : s.book.hasLiveDraw i = true) :
    s.takeService i 0 = s.refuse .state := by
  rw [State.takeService, h]
  simp [directionOf?, hdraw]

theorem State.takeService_of_out (h : present s.settings i = true) (hdraw : s.book.hasLiveDraw i = false)
    (hservice : (s.turnout i).inService = false) : s.takeService i 0 = s.accept [] := by
  rw [State.takeService, h]
  simp [directionOf?, hdraw, hservice]

theorem State.takeService_takesOut (h : present s.settings i = true) (hdraw : s.book.hasLiveDraw i = false)
    (hservice : (s.turnout i).inService = true) : s.takeService i 0 = (s.takenOut i).accept [] := by
  rw [State.takeService, h, ← State.outOfService_eq]
  simp [directionOf?, hdraw, hservice]

theorem State.takeService_of_in (h : present s.settings i = true) (hservice : (s.turnout i).inService = true) :
    s.takeService i 1 = s.accept [] := by
  rw [State.takeService, h]
  simp [directionOf?, hservice]

theorem State.takeService_takesIn (h : present s.settings i = true) (hservice : (s.turnout i).inService = false) :
    s.takeService i 1 = (s.setService i true).accept [] := by
  rw [State.takeService, h]
  simp [directionOf?, hservice]

/-! ## TURNOUT_ACK (R126) -/

theorem State.takeTurnoutAck_of_absent (h : present s.settings i = false) (m : Byte) : s.takeTurnoutAck i m = s.refuse .badTurnout := by
  rw [State.takeTurnoutAck, h]
  rfl

theorem State.takeTurnoutAck_of_undefined (h : present s.settings i = true) {m : Byte} (hm : 15 < m.toNat) :
    s.takeTurnoutAck i m = s.refuse .badValue := by
  rw [State.takeTurnoutAck, h]
  exact if_pos hm

theorem State.takeTurnoutAck_of_marks (h : present s.settings i = true) {m : Byte} (hm : m.toNat ≤ 15) : s.takeTurnoutAck i m =
    (s.putTurnout i { s.turnout i with flags := (s.turnout i).flags.clearMarked m }).accept
      (byte ((s.turnout i).flags.clearMarked m).code) := by
  rw [State.takeTurnoutAck, h]
  exact if_neg (Nat.not_lt.2 hm)

end

/-- Settles O35: the cancellations slot by slot, then the outcomes of the two commands. -/
theorem turnoutServiceAndAck : Obligations.TurnoutServiceAndAck := by
  refine ⟨fun u => ⟨rfl, fun slot rest => ⟨fun hnone => State.cancelSlots_cons_of_none hnone rest, fun o ho => ?cancel⟩⟩,
    fun s i hrun => ?commands⟩
  case cancel =>
    intro served v
    have hcharge : ∀ h : o.flags.late = false, closeCharge u .cancel served = 0 := State.cancelCharge_zero
    refine ⟨State.cancelSlots_cons_of_some ho rest, fun hlate hlog hwait => ?_, fun hlate hfull => ?_⟩
    · have hv : v = _ := State.closeOrder_of_room (u.billing.hasRoom_iff.2 ⟨hlog, hwait⟩)
      rw [hv]
      exact ⟨rfl, _, rfl, rfl, rfl, hcharge hlate, rfl, rfl, rfl, rfl⟩
    · have hv : v = _ := State.closeOrder_of_no_room (Billing.hasRoom_eq_false_iff.2 hfull)
      rw [hv]
      refine ⟨rfl, u.recordAtClose .cancel u.curKey served, hcharge hlate, rfl, rfl, rfl, ?_⟩
      simp only [State.unbilled, hcharge hlate]
  case commands =>
    intro t served out slots
    refine ⟨fun hpresent => ⟨fun hdraw => ?_, fun hdraw hservice => ?_, fun hdraw hservice => ?_, fun hservice => ?_, fun hservice => ?_,
      fun d hd => ?_, fun m => ⟨fun hm => ?_, fun hm => ?_⟩⟩, fun habsent => ⟨fun d => ?_, fun m => ?_⟩⟩
    · exact State.serve_run_refuse hrun (State.takeService_of_draw hpresent hdraw)
    · exact State.serve_run_accept hrun (State.takeService_of_out hpresent hdraw hservice)
    · exact ⟨State.serve_run_accept hrun (State.takeService_takesOut hpresent hdraw hservice), s.book.pendingOn_pairwise i,
        fun slot => OrderBook.mem_pendingOn, fun slot o ho hi => State.takenOut_pending ho hi⟩
    · exact State.serve_run_accept hrun (State.takeService_of_in hpresent hservice)
    · exact State.serve_run_accept hrun (State.takeService_takesIn hpresent hservice)
    · exact State.serve_run_refuse hrun (State.takeService_of_undefined hpresent hd)
    · exact State.serve_run_accept hrun (State.takeTurnoutAck_of_marks hpresent hm)
    · exact State.serve_run_refuse hrun (State.takeTurnoutAck_of_undefined hpresent hm)
    · exact State.serve_run_refuse hrun (State.takeService_of_absent habsent d)
    · exact State.serve_run_refuse hrun (State.takeTurnoutAck_of_absent habsent m)

end Sys2Proof.Machine
end
section
/-! The flow through the gate (R95): the integer square root (chapter 0, "Arithmetic"), the head, the velocity term and the rounded product. -/

namespace Sys2Proof.Machine

section

/-! ## The integer square root -/

/-- One binary digit after the other: a root that is too small by less than 2 to the power of the digits that are left becomes the root. -/
theorem isqrtFrom_spec {k root n : Nat} (hlow : root * root ≤ n) (hhigh : n < (root + 2 ^ k) * (root + 2 ^ k)) :
    isqrtFrom k root n * isqrtFrom k root n ≤ n ∧ n < (isqrtFrom k root n + 1) * (isqrtFrom k root n + 1) := by
  induction k generalizing root with
  | zero => exact ⟨hlow, hhigh⟩
  | succ k ih =>
    rw [isqrtFrom]
    split
    · rename_i hdigit
      refine ih hdigit ?_
      rwa [Nat.add_assoc, ← Nat.two_mul, ← Nat.pow_succ']
    · rename_i hdigit
      exact ih hlow (Nat.lt_of_not_le hdigit)

/-- The greatest integer whose square does not exceed the operand. -/
theorem isqrt_spec (n : Nat) : isqrt n * isqrt n ≤ n ∧ n < (isqrt n + 1) * (isqrt n + 1) := by
  refine isqrtFrom_spec (Nat.zero_le n) ?_
  calc n < 2 ^ (n.log2 + 1) := Nat.lt_log2_self
    _ ≤ 2 ^ (n.log2 / 2 + 1 + (n.log2 / 2 + 1)) := Nat.pow_le_pow_right (by decide) (by omega)
    _ = (0 + 2 ^ (n.log2 / 2 + 1)) * (0 + 2 ^ (n.log2 / 2 + 1)) := by rw [Nat.zero_add, Nat.pow_add]

/-- A root between two squares is the integer square root. -/
theorem isqrt_unique {n v : Nat} (hlow : v * v ≤ n) (hhigh : n < (v + 1) * (v + 1)) : isqrt n = v := by
  obtain ⟨hlow', hhigh'⟩ := isqrt_spec n
  refine Nat.le_antisymm (Nat.le_of_lt_succ ?_) (Nat.le_of_lt_succ ?_)
  · exact Nat.mul_self_lt_mul_self_iff.1 (hlow'.trans_lt hhigh)
  · exact Nat.mul_self_lt_mul_self_iff.1 (hlow.trans_lt hhigh')

/-! ## The head, the velocity term and the rounded product -/

/-- The signed head: over half the opening in free flow, over the downstream level in submerged flow. -/
theorem headAt_eq (a hU hD : Nat) : headAt a hU hD = if hD ≤ a then (hU : Int) - (a / 2 : Nat) else (hU : Int) - hD := by
  unfold headAt regimeAt
  by_cases h : hD ≤ a
  · rw [if_pos h, if_pos h]
  · rw [if_neg h, if_neg h]

/-- The velocity term of a positive head, by the squares around its operand. -/
theorem velocity_unique {head : Int} {v : Nat} (hpos : 0 < head) (hlow : (v : Int) * v ≤ 19620 * head)
    (hhigh : 19620 * head < ((v : Int) + 1) * (v + 1)) : velocity head = v := by
  obtain ⟨m, rfl⟩ := Int.eq_ofNat_of_zero_le hpos.le
  exact isqrt_unique (by exact_mod_cast hlow) (by exact_mod_cast hhigh)

/-- The quotient rounded half up, by the multiples around its operand. -/
theorem roundDiv_unique {n q : Nat} (hlow : 1000000000 * q ≤ n + 500000000) (hhigh : n + 500000000 < 1000000000 * (q + 1)) :
    roundDiv n 1000000000 = q := by
  obtain ⟨hlow', hhigh'⟩ := roundDiv_spec n 1000000000 (by decide)
  omega

/-! ## The computation (R95) -/

variable {c : Config.Settings} {hU hD : Nat} {g : Gate}

/-- The gate is shut. -/
theorem Gate.computeFlow_of_shut (h : g.position c = 0) : g.computeFlow c hU hD =
    { g with flow := 0, reverseHead := false, saturated := false, regime := none } := if_pos h

/-- No positive head. -/
theorem Gate.computeFlow_of_reverse (h : g.position c ≠ 0) (hhead : headAt (g.position c) hU hD ≤ 0) : g.computeFlow c hU hD =
    { g with regime := some (regimeAt (g.position c) hD), flow := 0, reverseHead := true, saturated := false } := by
  rw [Gate.computeFlow]
  exact (if_neg h).trans (if_pos hhead)

/-- A positive head. -/
theorem Gate.computeFlow_of_head (h : g.position c ≠ 0) (hhead : 0 < headAt (g.position c) hU hD) : g.computeFlow c hU hD =
    { g with
      regime := some (regimeAt (g.position c) hD)
      flow := min (rawFlow c (g.position c) (headAt (g.position c) hU hD)) 32000, reverseHead := false
      saturated := decide (32000 < rawFlow c (g.position c) (headAt (g.position c) hU hD)) } := by
  rw [Gate.computeFlow]
  exact (if_neg h).trans (if_neg (not_le.2 hhead))

/-- The range of a flow. -/
theorem Gate.computeFlow_flow_le : (g.computeFlow c hU hD).flow ≤ 32000 := by
  by_cases h : g.position c = 0
  · rw [Gate.computeFlow_of_shut h]
    exact Nat.zero_le _
  · rcases le_or_gt (headAt (g.position c) hU hD) 0 with hhead | hhead
    · rw [Gate.computeFlow_of_reverse h hhead]
      exact Nat.zero_le _
    · rw [Gate.computeFlow_of_head h hhead]
      exact Nat.min_le_right _ _

end

/-- Settles O19: the integer square root, then the three cases of the flow. -/
theorem gateFlow : Obligations.GateFlow := by
  refine ⟨isqrt_spec, fun c hU hD g => ?_⟩
  intro g' a head
  have hhead : headAt (g.position c) hU hD = head := headAt_eq _ _ _
  refine ⟨Gate.computeFlow_flow_le, fun hshut => ?_, fun hopen hreverse => ?_, fun hopen hpos v hlow hhigh q hqlow hqhigh => ?_⟩
  · have hg' : g' = _ := Gate.computeFlow_of_shut hshut
    rw [hg']
    exact ⟨rfl, rfl, rfl⟩
  · have hg' : g' = _ := Gate.computeFlow_of_reverse hopen (hhead ▸ hreverse)
    rw [hg']
    exact ⟨rfl, rfl, rfl⟩
  · have hg' : g' = _ := Gate.computeFlow_of_head hopen (hhead ▸ hpos)
    have hraw : rawFlow c (g.position c) (headAt (g.position c) hU hD) = q := by
      rw [rawFlow, hhead, velocity_unique hpos hlow hhigh]
      exact roundDiv_unique hqlow hqhigh
    rw [hg', hraw]
    exact ⟨rfl, rfl, decide_eq_true_iff⟩

end Sys2Proof.Machine
end
section
/-! The Gate Controller's shared rules: the start rule (R105), the drive on a new target (R106), and the opening target (R101, R102), each case
by case. -/

namespace Sys2Proof.Machine

section

variable {c : Config.Settings} {now : Nat} {g : Gate}

/-- The drive enters a state with both outputs off: a stop of a move is recorded (R104). -/
theorem Gate.enter_of_off {d : Drive} (h : d.on = false) : g.enter now d = { g with
    drive := d, restStart := if d.rests = true then some now else none, stallStart := none
    lastOff := if g.drive.on = true then some now else g.lastOff } := by
  simp [Gate.enter, h]

/-! ## The start rule (R105) -/

/-- The drive that the start rule gives in STOPPED. -/
def Gate.ruleDrive (c : Config.Settings) (g : Gate) : Drive :=
  if g.supplyLow = true ∨ (g.mode = .auto ∧ g.levelFault = true) then .stopped
  else if g.position c + c.levels.deadband < g.target ∧ g.limOpen = false then .opening
  else if g.target + c.levels.deadband < g.position c ∧ g.limClosed = false then .closing
  else .stopped

/-- The start rule starts none: with SUPPLY_LOW, or in AUTO with LEVEL_FAULT. -/
theorem Gate.ruleDrive_of_held (h : g.supplyLow = true ∨ (g.mode = .auto ∧ g.levelFault = true)) : g.ruleDrive c = .stopped := if_pos h

theorem Gate.ruleDrive_of_free (h : ¬(g.supplyLow = true ∨ (g.mode = .auto ∧ g.levelFault = true))) : g.ruleDrive c =
    if g.position c + c.levels.deadband < g.target ∧ g.limOpen = false then .opening
    else if g.target + c.levels.deadband < g.position c ∧ g.limClosed = false then .closing else .stopped := if_neg h

/-- In STOPPED the start rule gives its drive. -/
theorem Gate.startRule_drive (h : g.drive = .stopped) : (g.startRule c now).drive = g.ruleDrive c := by
  unfold Gate.startRule Gate.ruleDrive
  simp only [h, ne_eq, not_true_eq_false, if_false, Bool.not_eq_true']
  cases g.supplyLow
  · by_cases hauto : g.mode = .auto ∧ g.levelFault = true
    · simp [hauto, h]
    · by_cases hup : g.position c + c.levels.deadband < g.target ∧ g.limOpen = false
      · simp [hauto, hup, Gate.enter]
      · by_cases hdown : g.target + c.levels.deadband < g.position c ∧ g.limClosed = false
        · simp [hauto, hup, hdown, Gate.enter]
        · simp [hauto, hup, hdown, h]
  · simp [h]

/-- Outside STOPPED it is not applied. -/
theorem Gate.startRule_of_ne (h : g.drive ≠ .stopped) : g.startRule c now = g := if_pos h

/-- The start rule leaves all but the drive, its timers and the time of the last stop. -/
theorem Gate.startRule_eq : g.startRule c now = { g with
    drive := (g.startRule c now).drive, restStart := (g.startRule c now).restStart
    stallStart := (g.startRule c now).stallStart, lastOff := (g.startRule c now).lastOff } := by
  rcases Gate.startRule_cases c now g with h | ⟨d, h⟩
  · rw [h]
  · rw [h, Gate.enter]

/-! ## The drive on a new target (R105, R106) -/

theorem Gate.onTarget_of_stopped (h : g.drive = .stopped) : (g.onTarget c now).drive = g.ruleDrive c := by
  rw [← Gate.startRule_drive h, Gate.onTarget, h]

/-- An opening move ends when it arrives. -/
theorem Gate.onTarget_of_opening (h : g.drive = .opening) :
    (g.onTarget c now).drive = if g.target ≤ g.position c + c.levels.deadband / 2 then .resting else .opening := by
  by_cases harrived : g.target ≤ g.position c + c.levels.deadband / 2
  · simp [Gate.onTarget, h, arrived, arrivalMargin, harrived, Gate.enter]
  · simp [Gate.onTarget, h, arrived, arrivalMargin, harrived]

/-- A closing move ends when it arrives. -/
theorem Gate.onTarget_of_closing (h : g.drive = .closing) :
    (g.onTarget c now).drive = if g.position c ≤ g.target + c.levels.deadband / 2 then .resting else .closing := by
  by_cases harrived : g.position c ≤ g.target + c.levels.deadband / 2
  · simp [Gate.onTarget, h, arrived, arrivalMargin, harrived, Gate.enter]
  · simp [Gate.onTarget, h, arrived, arrivalMargin, harrived]

/-- In the other states the new target is stored. -/
theorem Gate.onTarget_of_other (h : g.drive = .resting ∨ g.drive = .fault ∨ g.drive.isTripped = true) : g.onTarget c now = g := by
  rw [Gate.onTarget]
  cases hd : g.drive with
  | resting | tripped | fault => rfl
  | stopped | opening | closing => simp [hd, Drive.isTripped] at h

/-- What acting on a new target leaves. -/
@[simp] theorem Gate.onTarget_frame (c : Config.Settings) (now : Nat) (g : Gate) :
    (g.onTarget c now).mode = g.mode ∧ (g.onTarget c now).manual = g.manual ∧ (g.onTarget c now).target = g.target ∧
      (g.onTarget c now).counts = g.counts ∧ (g.onTarget c now).window = g.window ∧ (g.onTarget c now).record = g.record ∧
      (g.onTarget c now).inHand = g.inHand ∧ (g.onTarget c now).lastUsed = g.lastUsed := by
  rw [Gate.onTarget_eq]
  exact ⟨rfl, rfl, rfl, rfl, rfl, rfl, rfl, rfl⟩

/-! ## The opening target (R101, R102) -/

/-- The levels are formed exactly when the window holds a sample (R92). -/
theorem Gate.hU_eq_none_iff : g.hU = none ↔ g.window = [] := by
  simp [Gate.hU]

/-- In MANUAL, with LEVEL_FAULT or without a release target in hand the opening target is held. -/
theorem Gate.computeTarget_of_held (h : g.mode = .manual ∨ g.levelFault = true ∨ g.inHand = none) : g.computeTarget c = g := by
  unfold Gate.computeTarget
  split
  · rfl
  · rename_i hfree
    rw [not_or] at hfree
    rw [(h.resolve_left hfree.1).resolve_left hfree.2]

section

variable {r : Nat} (hmode : g.mode = .auto) (hfault : g.levelFault = false) (hr : g.inHand = some r)

include hmode hfault hr

/-- Otherwise the opening that passes the release target decides. -/
theorem Gate.computeTarget_of_none (h : g.openingFor c r = none) : g.computeTarget c = g := by
  rw [Gate.computeTarget, if_neg (by simp [hmode, hfault])]
  simp only [hr, h]

theorem Gate.computeTarget_of_some {x : Nat} (h : g.openingFor c r = some x) :
    g.computeTarget c = { g with target := x, lastUsed := some r } := by
  rw [Gate.computeTarget, if_neg (by simp [hmode, hfault])]
  simp only [hr, h]

/-- A release target of 0 shuts the gate. -/
theorem Gate.computeTarget_of_zero (h : r = 0) : g.computeTarget c = { g with target := 0, lastUsed := some 0 } := by
  rw [Gate.computeTarget_of_some hmode hfault hr (if_pos h), h]

/-- Without levels the target is held. -/
theorem Gate.computeTarget_of_no_level (h : r ≠ 0) (hwindow : g.window = []) : g.computeTarget c = g := by
  refine Gate.computeTarget_of_none hmode hfault hr ?_
  rw [Gate.openingFor, if_neg h, Gate.hU_eq_none_iff.2 hwindow]

/-- Without a positive head the target is held. -/
theorem Gate.computeTarget_of_no_head (h : r ≠ 0) {x y : Nat} (hx : g.hU = some x) (hy : g.hD = some y)
    (hhead : headAt (g.position c) x y ≤ 0) : g.computeTarget c = g := by
  refine Gate.computeTarget_of_none hmode hfault hr ?_
  rw [Gate.openingFor, if_neg h, hx, hy]
  exact if_pos hhead

/-- With a positive head the target is the opening that passes the release target. -/
theorem Gate.computeTarget_of_head (h : r ≠ 0) {x y v : Nat} (hx : g.hU = some x) (hy : g.hD = some y)
    (hhead : 0 < headAt (g.position c) x y) (hlow : (v : Int) * v ≤ 19620 * headAt (g.position c) x y)
    (hhigh : 19620 * headAt (g.position c) x y < ((v : Int) + 1) * (v + 1)) : g.computeTarget c = { g with
      target := min (roundDiv (r * 1000000000) (c.reach.cd * c.reach.width * v)) c.reach.aMax, lastUsed := some r } := by
  refine Gate.computeTarget_of_some hmode hfault hr ?_
  rw [Gate.openingFor, if_neg h, hx, hy, ← velocity_unique hhead hlow hhigh]
  exact if_neg (not_le.2 hhead)

end

/-- A trip cause holds: TRIP, or the averaged upstream level with the level trip enabled (R110). -/
theorem Gate.tripCause_iff : g.tripCause c = true ↔
    g.tripIn = true ∨ (c.levels.levelTrip = true ∧ ∃ u, g.hU = some u ∧ c.levels.upHigh < u) := by
  simp [Gate.tripCause, Gate.levelCause_eq, Option.any_eq_true]

end

end Sys2Proof.Machine
end

section
/-! GATE_MODE and TRIP_CLEAR in RUN (R103, R113). -/

namespace Sys2Proof.Machine

section

variable {c : Config.Settings} {now : Nat} {g : Gate} {s : State}

/-- What the drive makes of a new target, by its state (R105, R106). -/
theorem Gate.onTarget_drive (c : Config.Settings) (now : Nat) (g : Gate) :
    (g.drive = .stopped → (g.onTarget c now).drive = g.ruleDrive c) ∧
    (g.drive = .opening → (g.onTarget c now).drive = if g.target ≤ g.position c + c.levels.deadband / 2 then .resting else .opening) ∧
    (g.drive = .closing → (g.onTarget c now).drive = if g.position c ≤ g.target + c.levels.deadband / 2 then .resting else .closing) ∧
    (g.drive.isTripped = true ∨ g.drive = .fault ∨ g.drive = .resting → (g.onTarget c now).drive = g.drive) := by
  refine ⟨Gate.onTarget_of_stopped, Gate.onTarget_of_opening, Gate.onTarget_of_closing, fun h => ?_⟩
  rw [Gate.onTarget_of_other (by tauto)]

/-- The gate with another mode, manual opening, opening target and release target last used. -/
def Gate.aimedAt (g : Gate) (mode : ControlMode) (manual target : Nat) (lastUsed : Option Nat) : Gate :=
  { g with mode := mode, manual := manual, target := target, lastUsed := lastUsed }

/-- The gate that MANUAL makes (R103). -/
def Gate.manualAt (c : Config.Settings) (opening : Nat) (g : Gate) : Gate :=
  g.aimedAt .manual (min opening c.reach.aMax) (min opening c.reach.aMax) g.lastUsed

/-- The gate in AUTO. -/
def Gate.autoMode (g : Gate) : Gate := g.aimedAt .auto g.manual g.target g.lastUsed

/-- The gate that AUTO makes (R103). -/
def Gate.inAuto (c : Config.Settings) (g : Gate) : Gate := g.autoMode.computeTarget c

theorem Gate.setMode_manual (opening : Nat) : g.setMode .manual opening c now = (g.manualAt c opening).onTarget c now := rfl

theorem Gate.setMode_auto (opening : Nat) : g.setMode .auto opening c now = (g.inAuto c).onTarget c now := rfl

/-- A computation in AUTO writes the mode, the target and the release target last used. -/
theorem Gate.inAuto_eq : g.inAuto c = g.aimedAt .auto g.manual (g.inAuto c).target (g.inAuto c).lastUsed :=
  Gate.computeTarget_eq c g.autoMode

/-- The target that AUTO gives, case by case (R102). -/
theorem Gate.inAuto_target (c : Config.Settings) (g : Gate) :
    (g.levelFault = true ∨ g.inHand = none ∨ (g.window = [] ∧ g.inHand ≠ some 0) →
      (g.inAuto c).target = g.target ∧ (g.inAuto c).lastUsed = g.lastUsed) ∧
    (g.levelFault = false → g.inHand = some 0 → (g.inAuto c).target = 0 ∧ (g.inAuto c).lastUsed = some 0) ∧
    ∀ (r u d v : Nat), g.levelFault = false → g.inHand = some r → r ≠ 0 → g.hU = some u → g.hD = some d →
      (headAt (g.position c) u d ≤ 0 → (g.inAuto c).target = g.target ∧ (g.inAuto c).lastUsed = g.lastUsed) ∧
      (0 < headAt (g.position c) u d → (v : Int) * v ≤ 19620 * headAt (g.position c) u d →
        19620 * headAt (g.position c) u d < ((v : Int) + 1) * (v + 1) →
        (g.inAuto c).target = min (roundDiv (r * 1000000000) (c.reach.cd * c.reach.width * v)) c.reach.aMax ∧
        (g.inAuto c).lastUsed = some r) := by
  have hheld : g.autoMode.computeTarget c = g.autoMode → (g.inAuto c).target = g.target ∧ (g.inAuto c).lastUsed = g.lastUsed :=
    fun h => by rw [Gate.inAuto, h]; exact ⟨rfl, rfl⟩
  refine ⟨fun h => hheld ?_, fun hfault hr => ?_, fun r u d v hfault hr h0 hu hd => ⟨fun hhead => hheld ?_, fun hhead hlow hhigh => ?_⟩⟩
  · cases hfault : g.levelFault with
    | true => exact Gate.computeTarget_of_held (.inr (.inl hfault))
    | false =>
      cases hr : g.inHand with
      | none => exact Gate.computeTarget_of_held (.inr (.inr hr))
      | some r =>
        simp only [hfault, hr, Bool.false_eq_true, reduceCtorEq, false_or, ne_eq, Option.some.injEq] at h
        exact Gate.computeTarget_of_no_level (g := g.autoMode) rfl hfault hr h.2 h.1
  · rw [Gate.inAuto, Gate.computeTarget_of_zero (g := g.autoMode) rfl hfault hr rfl]
    exact ⟨rfl, rfl⟩
  · exact Gate.computeTarget_of_no_head (g := g.autoMode) rfl hfault hr h0 hu hd hhead
  · rw [Gate.inAuto, Gate.computeTarget_of_head (g := g.autoMode) rfl hfault hr h0 hu hd hhead hlow hhigh]
    exact ⟨rfl, rfl⟩

/-- An undefined mode (R187). -/
theorem modeOf?_of_le {mode : Nat} (h : 2 ≤ mode) : modeOf? mode = none := by
  match mode, h with
  | n + 2, _ => rfl

theorem State.takeGateMode_of_undefined {mode : Nat} (h : 2 ≤ mode) (opening : Nat) : s.takeGateMode mode opening = s.refuse .badValue := by
  rw [State.takeGateMode, modeOf?_of_le h]

/-- A mode that is taken, with the reply's data. -/
theorem State.takeGateMode_of_mode {mode : Nat} {m : ControlMode} (h : modeOf? mode = some m) (opening : Nat) :
    s.takeGateMode mode opening = (s.changeGate (Gate.setMode m opening)).accept
      (byte (s.changeGate (Gate.setMode m opening)).gate.mode.code ++ toBytes 2 (s.changeGate (Gate.setMode m opening)).gate.target) := by
  rw [State.takeGateMode, h]

/-- TRIP_CLEAR ends a trip or a fault that no cause and no pair of limits keeps up (R113). -/
theorem State.takeTripClear_of_ended (hended : s.gate.drive.isTripped = true ∨ s.gate.drive = .fault)
    (hcause : ¬s.gate.tripCause s.settings = true) (hlimits : ¬(s.gate.limClosed = true ∧ s.gate.limOpen = true)) :
    s.takeTripClear = State.accept (s.changeGate fun _ now g => Gate.enter now .resting { g with record := .none }) [] := by
  have hended' : (s.gate.drive.isTripped || s.gate.drive == .fault) = true := by simpa using hended
  have hlimits' : (s.gate.limClosed && s.gate.limOpen) = false := by simpa using hlimits
  rw [State.takeTripClear]
  simp [hended', hcause, hlimits']

theorem State.takeTripClear_of_refused (h : ¬(s.gate.drive.isTripped = true ∨ s.gate.drive = .fault) ∨
    s.gate.tripCause s.settings = true ∨ (s.gate.limClosed = true ∧ s.gate.limOpen = true)) : s.takeTripClear = s.refuse .state := by
  refine if_pos ?_
  simpa [or_assoc] using h

end

/-- Settles O58: MANUAL, AUTO, an undefined mode, and the two outcomes of TRIP_CLEAR. -/
theorem gateModeAndTripClear : Obligations.GateModeAndTripClear := by
  intro s hrun g c acts
  have hacts : ∀ mode manual target lastUsed, acts ((g.aimedAt mode manual target lastUsed).onTarget c s.time.elapsed) := by
    intro mode manual target lastUsed
    simp only [acts, Gate.onTarget_frame]
    exact Gate.onTarget_drive c _ (g.aimedAt mode manual target lastUsed)
  refine ⟨fun opening => ?manual, fun opening => ?auto, fun mode opening hmode => ?undefined, ?clear⟩
  case manual =>
    intro i goal
    obtain ⟨hmode, hmanual, htarget, hcounts, hwindow, hrecord, hinHand, hlastUsed⟩ :=
      Gate.onTarget_frame c s.time.elapsed (g.manualAt c opening)
    refine ⟨s.changeGate (Gate.setMode .manual opening), State.serve_run_accept hrun ?_, rfl, hacts _ _ _ _, hmode, hmanual, htarget,
      hcounts, hwindow, hrecord, hinHand, hlastUsed⟩
    have hreply : (s.changeGate (Gate.setMode .manual opening)).gate.mode = .manual ∧
        (s.changeGate (Gate.setMode .manual opening)).gate.target = goal := ⟨hmode, htarget⟩
    rw [State.takeGateMode_of_mode rfl, hreply.1, hreply.2]
    rfl
  case auto =>
    intro i
    obtain ⟨hmode, hmanual, htarget, hcounts, hwindow, hrecord, hinHand, hlastUsed⟩ := Gate.onTarget_frame c s.time.elapsed (g.inAuto c)
    have hauto := Gate.inAuto_eq (c := c) (g := g)
    have hleaves : (g.inAuto c).manual = g.manual ∧ (g.inAuto c).counts = g.counts ∧ (g.inAuto c).window = g.window ∧
        (g.inAuto c).record = g.record ∧ (g.inAuto c).inHand = g.inHand := by
      rw [hauto]
      exact ⟨rfl, rfl, rfl, rfl, rfl⟩
    obtain ⟨hmanual', hcounts', hwindow', hrecord', hinHand'⟩ := hleaves
    have hreply : (s.changeGate (Gate.setMode .auto opening)).gate.mode = .auto := hmode.trans (congrArg Gate.mode hauto)
    refine ⟨s.changeGate (Gate.setMode .auto opening), State.serve_run_accept hrun ?_, rfl, ?_, hreply,
      hmanual.trans hmanual', hcounts.trans hcounts', hwindow.trans hwindow', hrecord.trans hrecord', hinHand.trans hinHand', ?_⟩
    · rw [State.takeGateMode_of_mode rfl, hreply]
      rfl
    · have h := hacts .auto g.manual (g.inAuto c).target (g.inAuto c).lastUsed
      rw [← hauto] at h
      exact h
    · have htargets := Gate.inAuto_target c g
      simp only [headAt_eq] at htargets
      rw [← htarget, ← hlastUsed] at htargets
      exact htargets
  case undefined => exact State.serve_run_refuse hrun (State.takeGateMode_of_undefined hmode opening)
  case clear =>
    intro ended cause
    have hcause : s.gate.tripCause s.settings = true ↔ cause := Gate.tripCause_iff
    refine ⟨fun hended hno hlimits => ?_, fun hrefused => ?_⟩
    · have hserved : exec .tripClear s = _ := State.serve_run_accept hrun
        (State.takeTripClear_of_ended hended (mt hcause.1 hno) hlimits)
      rw [State.changeGate, Gate.enter_of_off rfl] at hserved
      exact hserved
    · exact State.serve_run_refuse hrun (State.takeTripClear_of_refused (by rwa [hcause]))

end Sys2Proof.Machine
end
section
/-! The drive at the events of its timers and inputs (R104, R105, R107 to R111). -/

namespace Sys2Proof.Machine

section

variable {c : Config.Settings} {now : Nat} {g g' g'' : Gate}

/-! ## What the drive's operations write -/

/-- The drive, its timers and the time of the last stop are all that changes. -/
def Gate.DriveOnly (g g' : Gate) : Prop := g' = { g with
  drive := g'.drive, restStart := g'.restStart, stallStart := g'.stallStart, lastOff := g'.lastOff }

theorem Gate.DriveOnly.refl : g.DriveOnly g := rfl

theorem Gate.DriveOnly.trans (h : g.DriveOnly g') (h' : g'.DriveOnly g'') : g.DriveOnly g'' := by
  unfold Gate.DriveOnly at h h' ⊢
  rw [h', h]

theorem Gate.driveOnly_enter (d : Drive) : g.DriveOnly (g.enter now d) := rfl

theorem Gate.driveOnly_startRule : g.DriveOnly (g.startRule c now) := Gate.startRule_eq

theorem Gate.startRule_drive_of_ne (h : g.drive ≠ .stopped) : (g.startRule c now).drive = g.drive :=
  congrArg Gate.drive (Gate.startRule_of_ne h)

theorem Gate.driveOnly_onTarget : g.DriveOnly (g.onTarget c now) := Gate.onTarget_eq c now g

/-- What such a change leaves. -/
theorem Gate.DriveOnly.leaves (h : g.DriveOnly g') : g'.target = g.target ∧ g'.counts = g.counts ∧ g'.window = g.window ∧
    g'.volume = g.volume ∧ g'.mode = g.mode ∧ g'.record = g.record := by
  rw [h]
  exact ⟨rfl, rfl, rfl, rfl, rfl, rfl⟩

theorem Gate.DriveOnly.supplyLow (h : g.DriveOnly g') : g'.supplyLow = g.supplyLow := by rw [h]

/-- The trip action writes the drive alone. -/
theorem Gate.driveOnly_tripAct : g.DriveOnly (g.tripAct c now) := by
  rcases g.tripAct_cases c now with h | ⟨up, h⟩
  · rw [h]; exact Gate.driveOnly_enter _
  · rw [h]; exact Gate.driveOnly_enter _

theorem Gate.driveOnly_supplyLowChanged : g.DriveOnly (g.supplyLowChanged c now) := by
  unfold Gate.supplyLowChanged
  split
  · split
    · exact Gate.driveOnly_enter _
    · exact Gate.driveOnly_enter _
    all_goals exact .refl
  · exact Gate.driveOnly_startRule

/-! ## A fault of the drive (R109) -/

/-- The drive after a fault. -/
def Gate.faultDrive (g : Gate) : Drive :=
  if g.drive.isTripped = false then .fault else if g.drive.on = true then .tripped .done else g.drive

/-- A fault is recorded, and the drive alone changes besides. -/
theorem Gate.driveOnly_setFault (r : FaultRecord) : Gate.DriveOnly { g with record := r } (g.setFault now r) := by
  unfold Gate.setFault
  dsimp only
  split
  · exact Gate.driveOnly_enter _
  · exact .refl
  · exact Gate.driveOnly_enter _

theorem Gate.setFault_drive (r : FaultRecord) : (g.setFault now r).drive = g.faultDrive := by
  unfold Gate.setFault Gate.faultDrive
  cases hd : g.drive with
  | tripped phase =>
    cases phase with
    | moving up => cases up <;> rfl
    | waiting | done => rfl
  | stopped | opening | closing | resting | fault => rfl

/-! ## The trip action (R111) -/

/-- The arrival test of a move up and of a move down (R106). -/
theorem arrived_up_iff {p aim : Nat} : arrived c true p aim = true ↔ aim ≤ p + c.levels.deadband / 2 := decide_eq_true_iff

theorem arrived_down_iff {p aim : Nat} : arrived c false p aim = true ↔ p ≤ aim + c.levels.deadband / 2 := decide_eq_true_iff

/-- The opening that the trip action moves to: none for HOLD. -/
theorem tripTarget_eq_some {aim : Nat} (h : (c.levels.tripAction = .close ∧ aim = 0) ∨
    (c.levels.tripAction = .openTo ∧ aim = min c.levels.tripOpening c.reach.aMax)) : tripTarget c = some aim := by
  rcases h with ⟨hclose, rfl⟩ | ⟨hopen, rfl⟩
  · rw [tripTarget, hclose]
  · rw [tripTarget, hopen]

theorem tripTarget_of_hold (h : c.levels.tripAction = .hold) : tripTarget c = none := by rw [tripTarget, h]

theorem Gate.tripAct_of_none (h : tripTarget c = none) : g.tripAct c now = g.enter now (.tripped .done) := by
  rw [Gate.tripAct, h]

/-- With a trip target the trip moves toward it, unless it has arrived or the switch of that sense is active. -/
theorem Gate.tripAct_drive {aim : Nat} (h : tripTarget c = some aim) : (g.tripAct c now).drive =
    if g.position c + c.levels.deadband / 2 < aim ∧ g.limOpen = false then .tripped (.moving true)
    else if aim + c.levels.deadband / 2 < g.position c ∧ g.limClosed = false then .tripped (.moving false)
    else .tripped .done := by
  rw [Gate.tripAct, h]
  dsimp only
  by_cases hside : g.position c < aim
  · have hends : (arrived c true (g.position c) aim || g.limOpen) = true ↔
        ¬(g.position c + c.levels.deadband / 2 < aim ∧ g.limOpen = false) := by
      rw [Bool.or_eq_true, arrived_up_iff, not_and_or, Nat.not_lt, Bool.not_eq_false]
    have hdown : ¬(aim + c.levels.deadband / 2 < g.position c ∧ g.limClosed = false) := by omega
    rw [if_pos hside, if_neg hdown]
    by_cases hmove : g.position c + c.levels.deadband / 2 < aim ∧ g.limOpen = false
    · rw [if_pos hmove, if_neg (mt hends.1 (not_not.2 hmove))]
      rfl
    · rw [if_neg hmove, if_pos (hends.2 hmove)]
      rfl
  · have hends : (arrived c false (g.position c) aim || g.limClosed) = true ↔
        ¬(aim + c.levels.deadband / 2 < g.position c ∧ g.limClosed = false) := by
      rw [Bool.or_eq_true, arrived_down_iff, not_and_or, Nat.not_lt, Bool.not_eq_false]
    have hup : ¬(g.position c + c.levels.deadband / 2 < aim ∧ g.limOpen = false) := by omega
    rw [if_neg hside, if_neg hup]
    by_cases hmove : aim + c.levels.deadband / 2 < g.position c ∧ g.limClosed = false
    · rw [if_pos hmove, if_neg (mt hends.1 (not_not.2 hmove))]
      rfl
    · rw [if_neg hmove, if_pos (hends.2 hmove)]
      rfl

/-! ## SUPPLY_LOW (R108) -/

theorem Gate.supplyLowChanged_of_low (h : g.supplyLow = true) : (g.supplyLowChanged c now).drive =
    if g.drive = .opening ∨ g.drive = .closing then .resting else g.drive := by
  rw [Gate.supplyLowChanged, if_pos h]
  cases hd : g.drive <;> simp [hd, Gate.enter]

theorem Gate.supplyLowChanged_of_good (h : g.supplyLow = false) : g.supplyLowChanged c now = g.startRule c now :=
  if_neg (by simp [h])

end

section

variable {s : State}

/-! ## The commands -/

theorem exec_restExpiry (hw : s.working = true) (hd : s.gate.drive = .resting) {x : Nat} (hx : s.gate.restStart = some x)
    (hend : x + s.settings.levels.restTime * 1000 ≤ s.time.elapsed) :
    exec .restExpiry s = .next (s.changeGate fun c now g => (g.enter now .stopped).startRule c now) :=
  if_pos ⟨hd, State.expired_iff.2 ⟨hw, x, hx, hend⟩⟩

theorem exec_stallExpiry (hw : s.working = true) (hd : s.gate.drive.on = true) {x : Nat} (hx : s.gate.stallStart = some x)
    (hend : x + s.settings.levels.stallTime * 1000 ≤ s.time.elapsed) :
    exec .stallExpiry s = .next ((s.changeGate fun _ now g => g.setFault now .stall).raise .gateFault) :=
  if_pos ⟨hd, State.expired_iff.2 ⟨hw, x, hx, hend⟩⟩

theorem exec_tripWaitExpiry (hw : s.working = true) (hd : s.gate.drive = .tripped .waiting) {x : Nat} (hx : s.gate.restStart = some x)
    (hend : x + s.settings.levels.restTime * 1000 ≤ s.time.elapsed) :
    exec .tripWaitExpiry s = .next (s.changeGate Gate.tripAct) :=
  if_pos ⟨hd, State.expired_iff.2 ⟨hw, x, hx, hend⟩⟩

theorem exec_supplyLowChange (hw : s.working = true) {active : Bool} (h : s.gate.supplyLow ≠ active) :
    exec (.supplyLowChange active) s =
      .next ((s.withGate { s.gate with supplyLow := active }).changeGate Gate.supplyLowChanged) := by
  refine (if_neg h).trans (if_pos ?_)
  exact hw

theorem exec_tripInputChange_active (hw : s.working = true) (h : s.gate.tripIn = false) :
    exec (.tripInputChange true) s = .next (s.withGate { s.gate with tripIn := true }).tripOnset := by
  refine (if_neg (by simp [h])).trans (if_pos ?_)
  rw [Bool.and_true]
  exact hw

theorem exec_tripInputChange_inactive (h : s.gate.tripIn = true) :
    exec (.tripInputChange false) s = .next (s.withGate { s.gate with tripIn := false }) := by
  refine (if_neg (by simp [h])).trans (if_neg ?_)
  rw [Bool.and_false]
  decide

/-- A trip onset, unless a trip is in force (R110). -/
theorem State.tripOnset_of_tripped (h : s.gate.drive.isTripped = true) : s.tripOnset = s := if_pos h

theorem State.tripOnset_of_not_tripped (h : s.gate.drive.isTripped = false) :
    s.tripOnset = (s.withGate (s.gate.enter s.time.elapsed (.tripped .waiting))).raise .gateTrip := if_neg (by simp [h])

end

/-- Settles O57: the three timers, SUPPLY_LOW in both directions, and TRIP in both directions. -/
theorem driveEvents : Obligations.DriveEvents := by
  intro s hw g c now up down held changed
  have hchanged : ∀ (f : Config.Settings → Nat → Gate → Gate), g.DriveOnly (f c now g) →
      changed (s.changeGate f) ∧ (s.changeGate f).alerts = s.alerts ∧ (s.changeGate f).gate.record = g.record := by
    intro f hf
    obtain ⟨htarget, hcounts, hwindow, hvolume, hmode, hrecord⟩ := hf.leaves
    exact ⟨⟨rfl, htarget, hcounts, hwindow, hvolume, hmode⟩, rfl, hrecord⟩
  refine ⟨fun x hd hx hend => ?rest, fun x hd hx hend => ?stall, fun x hd hx hend => ?wait, fun hlow => ?low, fun hlow => ?good,
    fun htrip => ?trip, fun htrip => exec_tripInputChange_inactive htrip⟩
  case rest =>
    obtain ⟨hchange, halerts, hrecord⟩ := hchanged (fun c now g => (g.enter now .stopped).startRule c now)
      ((Gate.driveOnly_enter .stopped).trans Gate.driveOnly_startRule)
    have hdrive : ((g.enter now .stopped).startRule c now).drive = g.ruleDrive c := Gate.startRule_drive rfl
    exact ⟨_, exec_restExpiry hw hd hx hend, hchange, halerts, hrecord, fun hheld => hdrive.trans (Gate.ruleDrive_of_held hheld),
      fun hfree => hdrive.trans (Gate.ruleDrive_of_free hfree)⟩
  case stall =>
    obtain ⟨htarget, hcounts, hwindow, hvolume, hmode, hrecord⟩ := (Gate.driveOnly_setFault (g := g) (now := now) .stall).leaves
    have hcause : hasCause (s.alerts.raise .gateFault).pending .gateFault = true := by simp
    refine ⟨_, exec_stallExpiry hw hd hx hend, ⟨rfl, htarget, hcounts, hwindow, hvolume, hmode⟩, hrecord, hcause, ?_⟩
    refine (Gate.setFault_drive .stall).trans ?_
    have hon : g.drive.on = true := hd
    rw [Gate.faultDrive, if_pos hon]
    cases g.drive.isTripped <;> rfl
  case wait =>
    obtain ⟨hchange, halerts, hrecord⟩ := hchanged Gate.tripAct Gate.driveOnly_tripAct
    refine ⟨_, exec_tripWaitExpiry hw hd hx hend, hchange, halerts, hrecord, fun hhold => ?_, fun aim haim =>
      Gate.tripAct_drive (tripTarget_eq_some haim)⟩
    exact congrArg Gate.drive (Gate.tripAct_of_none (g := g) (now := now) (tripTarget_of_hold hhold))
  case low =>
    have honly := Gate.driveOnly_supplyLowChanged (c := c) (now := now) (g := { g with supplyLow := true })
    obtain ⟨htarget, hcounts, hwindow, hvolume, hmode, -⟩ := honly.leaves
    exact ⟨_, exec_supplyLowChange (active := true) hw (by rw [hlow]; decide), ⟨rfl, htarget, hcounts, hwindow, hvolume, hmode⟩,
      honly.supplyLow, rfl, Gate.supplyLowChanged_of_low (c := c) (now := now) (g := { g with supplyLow := true }) rfl⟩
  case good =>
    have honly := Gate.driveOnly_supplyLowChanged (c := c) (now := now) (g := { g with supplyLow := false })
    obtain ⟨htarget, hcounts, hwindow, hvolume, hmode, -⟩ := honly.leaves
    have hrule := congrArg Gate.drive (Gate.supplyLowChanged_of_good (c := c) (now := now) (g := { g with supplyLow := false }) rfl)
    have hstopped : g.drive = .stopped → _ := fun h => hrule.trans (Gate.startRule_drive h)
    refine ⟨_, exec_supplyLowChange (active := false) hw (by rw [hlow]; decide),
      ⟨rfl, htarget, hcounts, hwindow, hvolume, hmode⟩, honly.supplyLow, rfl,
      fun hne => hrule.trans (Gate.startRule_drive_of_ne (g := { g with supplyLow := false }) hne), fun hd hheld => ?_, fun hd hfree => ?_⟩
    · exact (hstopped hd).trans (Gate.ruleDrive_of_held (.inr hheld))
    · exact (hstopped hd).trans (Gate.ruleDrive_of_free (not_or.2 ⟨Bool.false_ne_true, hfree⟩))
  case trip =>
    refine ⟨_, exec_tripInputChange_active hw htrip, ?_⟩
    cases htripped : g.drive.isTripped with
    | true =>
      rw [State.tripOnset_of_tripped (s := s.withGate { s.gate with tripIn := true }) htripped]
      exact ⟨⟨rfl, rfl, rfl, rfl, rfl, rfl⟩, rfl, rfl, fun _ => ⟨rfl, rfl⟩, fun h => by cases h⟩
    | false =>
      have hcause : hasCause (s.alerts.raise .gateTrip).pending .gateTrip = true := by simp
      rw [State.tripOnset_of_not_tripped (s := s.withGate { s.gate with tripIn := true }) htripped]
      exact ⟨⟨rfl, rfl, rfl, rfl, rfl, rfl⟩, rfl, rfl, fun h => (by cases h), fun _ => ⟨rfl, rfl, hcause⟩⟩

end Sys2Proof.Machine
end
section
/-! The drive at a count of the encoder and at a change of a limit switch (R99, R100, R106, R109). -/

namespace Sys2Proof.Machine

section

variable {c : Config.Settings} {now : Nat} {g g' g'' x : Gate}

/-! ## What a count and a switch write -/

/-- The position, the drive with its timers and its record, and the limit inputs are all that changes. -/
def Gate.PositionOnly (g x : Gate) : Prop := x = { g with
  counts := x.counts, suspect := x.suspect, drive := x.drive, record := x.record, restStart := x.restStart
  stallStart := x.stallStart, lastOff := x.lastOff, limClosed := x.limClosed, limOpen := x.limOpen }

theorem Gate.PositionOnly.trans (h : g.PositionOnly g') (h' : g'.PositionOnly g'') : g.PositionOnly g'' := by
  unfold Gate.PositionOnly at h h' ⊢
  rw [h', h]

theorem Gate.DriveOnly.positionOnly (h : g.DriveOnly x) : g.PositionOnly x := by
  unfold Gate.PositionOnly
  rw [h]

theorem Gate.positionOnly_count (opening : Bool) : g.PositionOnly (g.count opening) := by
  unfold Gate.count
  split <;> split <;> rfl

theorem Gate.positionOnly_setLimit (openLimit active : Bool) : g.PositionOnly (g.setLimit openLimit active) := by
  cases openLimit <;> rfl

theorem Gate.positionOnly_limitPosition (openLimit : Bool) : g.PositionOnly (g.limitPosition c openLimit) := by
  cases openLimit <;> rfl

/-- A change of the drive alone leaves the count, the record and the limit inputs. -/
theorem Gate.DriveOnly.leaves_position (h : g.DriveOnly x) : x.counts = g.counts ∧ x.suspect = g.suspect ∧ x.record = g.record ∧
    x.limClosed = g.limClosed ∧ x.limOpen = g.limOpen := by
  rw [h]
  exact ⟨rfl, rfl, rfl, rfl, rfl⟩

theorem Gate.DriveOnly.position (h : g.DriveOnly x) : x.position c = g.position c := by
  rw [h]
  rfl

/-- The start rule judges nothing that a change of the drive alone writes. -/
theorem Gate.DriveOnly.ruleDrive (h : g.DriveOnly x) : x.ruleDrive c = g.ruleDrive c := by
  rw [h]
  rfl

/-! ## The drive at a new position (R106, R111) -/

/-- The output state of a move toward a sense. -/
def Drive.move (up : Bool) : Drive := if up = true then .opening else .closing

/-- A move of this sense at the position of `x` has reached `aim`. -/
def Gate.There (c : Config.Settings) (up : Bool) (x : Gate) (aim : Nat) : Prop :=
  if up = true then aim ≤ x.position c + c.levels.deadband / 2 else x.position c ≤ aim + c.levels.deadband / 2

theorem arrived_iff {up : Bool} {aim : Nat} : arrived c up (x.position c) aim = true ↔ x.There c up aim := by
  cases up
  · exact arrived_down_iff
  · exact arrived_up_iff

theorem Gate.onPosition_of_move {up : Bool} (h : g.drive = .move up) :
    g.onPosition c now = if arrived c up (g.position c) g.target then g.enter now .resting else g := by
  cases up <;> simp [Gate.onPosition, Gate.onTarget, h, Drive.move]

/-- A trip move is judged against the trip target alone. -/
theorem Gate.onPosition_of_tripMove {up : Bool} {aim : Nat} (h : g.drive = .tripped (.moving up)) (ht : tripTarget c = some aim) :
    g.onPosition c now = if arrived c up (g.position c) aim then g.enter now (.tripped .done) else g := by
  rw [Gate.onPosition, h]
  dsimp only
  rw [ht]

theorem Gate.onPosition_of_tripMove_hold {up : Bool} (h : g.drive = .tripped (.moving up)) (ht : tripTarget c = none) :
    g.onPosition c now = g := by
  rw [Gate.onPosition, h]
  dsimp only
  rw [ht]

theorem Gate.onPosition_of_stopped (h : g.drive = .stopped) : (g.onPosition c now).drive = g.ruleDrive c := by
  rw [Gate.onPosition, h]
  exact Gate.onTarget_of_stopped h

theorem Gate.onPosition_of_still (h : g.drive = .resting ∨ g.drive = .fault ∨ g.drive = .tripped .waiting ∨ g.drive = .tripped .done) :
    g.onPosition c now = g := by
  rcases h with h | h | h | h <;> simp [Gate.onPosition, Gate.onTarget, h]

/-- A move that goes on writes nothing; one that ends leaves its state. -/
theorem Gate.onPosition_moves (h : g.drive.on = true) :
    g.onPosition c now = g ∨ (g.onPosition c now).drive ≠ g.drive ∧ ∃ d, g.onPosition c now = g.enter now d := by
  cases hd : g.drive with
  | opening =>
    rw [Gate.onPosition_of_move (up := true) hd]
    split
    · exact .inr ⟨Drive.noConfusion, _, rfl⟩
    · exact .inl rfl
  | closing =>
    rw [Gate.onPosition_of_move (up := false) hd]
    split
    · exact .inr ⟨Drive.noConfusion, _, rfl⟩
    · exact .inl rfl
  | tripped phase =>
    cases phase with
    | moving up =>
      cases ht : tripTarget c with
      | none => exact .inl (Gate.onPosition_of_tripMove_hold hd ht)
      | some aim =>
        rw [Gate.onPosition_of_tripMove hd ht]
        split
        · exact .inr ⟨by simp [Gate.enter], _, rfl⟩
        · exact .inl rfl
    | waiting | done => exact .inl (Gate.onPosition_of_still (by simp [hd]))
  | stopped | resting | fault => simp [hd, Drive.on, Drive.openOn, Drive.closeOn] at h

theorem Gate.driveOnly_onPosition : g.DriveOnly (g.onPosition c now) := by
  unfold Gate.onPosition
  split
  · split
    · split
      · exact Gate.driveOnly_enter _
      · exact .refl
    · exact .refl
  · exact Gate.driveOnly_onTarget

/-! ## The judgement of a move, and the drive without one -/

/-- The drive of a move of sense `up` in `g`, at the position of `x`. -/
def Gate.MoveJudged (c : Config.Settings) (g : Gate) (up : Bool) (x : Gate) : Prop :=
  (g.drive = .move up → (x.There c up g.target → x.drive = .resting) ∧ (¬x.There c up g.target → x.drive = g.drive)) ∧
  (g.drive = .tripped (.moving up) →
    (c.levels.tripAction = .hold → x.drive = g.drive) ∧
    ∀ aim, (c.levels.tripAction = .close ∧ aim = 0) ∨
        (c.levels.tripAction = .openTo ∧ aim = min c.levels.tripOpening c.reach.aMax) →
      (x.There c up aim → x.drive = .tripped .done) ∧ (¬x.There c up aim → x.drive = g.drive))

/-- The drive where no move was in flight. -/
def Gate.OffJudged (c : Config.Settings) (g x : Gate) : Prop :=
  (g.drive = .stopped → x.drive = x.ruleDrive c) ∧
  (g.drive = .resting ∨ g.drive = .fault ∨ g.drive = .tripped .waiting ∨ g.drive = .tripped .done → x.drive = g.drive)

/-- A move in flight is judged at the new position. -/
theorem Gate.moveJudged_onPosition {up : Bool}
    (h : g.drive = .move up ∨ g.drive = .tripped (.moving up) → g'.drive = g.drive ∧ g'.target = g.target) :
    g.MoveJudged c up (g'.onPosition c now) := by
  have hthere (aim : Nat) : (g'.onPosition c now).There c up aim ↔ arrived c up (g'.position c) aim = true := by
    rw [← arrived_iff, Gate.driveOnly_onPosition.position]
  refine ⟨fun hmove => ?_, fun htrip => ?_⟩
  · obtain ⟨hdrive, htarget⟩ := h (.inl hmove)
    have hjudge := Gate.onPosition_of_move (c := c) (now := now) (hdrive.trans hmove)
    rw [hthere, ← htarget, hjudge, ← hdrive]
    refine ⟨fun harrived => ?_, fun hnot => ?_⟩
    · rw [if_pos harrived]; rfl
    · rw [if_neg hnot]
  · obtain ⟨hdrive, -⟩ := h (.inr htrip)
    refine ⟨fun hhold => ?_, fun aim haim => ?_⟩
    · rw [Gate.onPosition_of_tripMove_hold (hdrive.trans htrip) (tripTarget_of_hold hhold), hdrive]
    · rw [hthere, Gate.onPosition_of_tripMove (hdrive.trans htrip) (tripTarget_eq_some haim), ← hdrive]
      refine ⟨fun harrived => ?_, fun hnot => ?_⟩
      · rw [if_pos harrived]; rfl
      · rw [if_neg hnot]

/-- Out of a move the start rule judges STOPPED, and the other states stay. -/
theorem Gate.offJudged_onPosition (h : g.drive.on = false → g'.drive = g.drive) : g.OffJudged c (g'.onPosition c now) := by
  refine ⟨fun hstopped => ?_, fun hstill => ?_⟩
  · have hdrive : g'.drive = .stopped := (h (by rw [hstopped]; rfl)).trans hstopped
    rw [Gate.onPosition_of_stopped hdrive, Gate.driveOnly_onPosition.ruleDrive]
  · have hdrive : g'.drive = g.drive := h (by rcases hstill with hd | hd | hd | hd <;> rw [hd] <;> rfl)
    rw [Gate.onPosition_of_still (hdrive ▸ hstill), hdrive]

/-! ## One count of the encoder (R99) -/

/-- The gate after a count, the stall watch of a move restarted, before the position is judged. -/
def Gate.counted (opening : Bool) (now : Nat) (g : Gate) : Gate :=
  if (g.count opening).drive.on then { g.count opening with stallStart := some now } else g.count opening

theorem Gate.step_eq (opening : Bool) : g.step opening c now = (g.counted opening now).onPosition c now := rfl

theorem Gate.count_drive (opening : Bool) : (g.count opening).drive = g.drive := by
  unfold Gate.count
  split <;> split <;> rfl

theorem Gate.count_leaves (opening : Bool) : (g.count opening).target = g.target ∧ (g.count opening).record = g.record ∧
    (g.count opening).limClosed = g.limClosed ∧ (g.count opening).limOpen = g.limOpen := by
  unfold Gate.count
  split <;> split <;> exact ⟨rfl, rfl, rfl, rfl⟩

/-- The count up, held at 65 535. -/
theorem Gate.count_up : (g.count true).counts = min (g.counts + 1) (max g.counts 65535) ∧
    (g.count true).suspect = (g.suspect || decide (65535 ≤ g.counts)) := by
  unfold Gate.count
  by_cases h : g.counts < 65535
  · simp [h]
  · simp [h, Nat.le_of_not_lt h]

/-- The count down, held at 0. -/
theorem Gate.count_down : (g.count false).counts = g.counts - 1 ∧
    (g.count false).suspect = (g.suspect || decide (g.counts = 0)) := by
  unfold Gate.count
  by_cases h : 0 < g.counts
  · simp [h, Nat.ne_of_gt h]
  · simp [Nat.eq_zero_of_not_pos h]

/-- Beside the count, the stall watch alone. -/
theorem Gate.driveOnly_counted (opening : Bool) : (g.count opening).DriveOnly (g.counted opening now) := by
  unfold Gate.counted
  split <;> rfl

theorem Gate.counted_drive (opening : Bool) : (g.counted opening now).drive = g.drive := by
  unfold Gate.counted
  split <;> exact Gate.count_drive opening

theorem Gate.counted_stallStart (opening : Bool) (h : g.drive.on = true) : (g.counted opening now).stallStart = some now := by
  rw [Gate.counted, Gate.count_drive, if_pos h]

/-- A move that a count does not end has its stall watch restarted. -/
theorem Gate.step_stallStart (opening : Bool) (h : g.drive.on = true) (hstay : (g.step opening c now).drive = g.drive) :
    (g.step opening c now).stallStart = some now := by
  rw [Gate.step_eq] at hstay ⊢
  have hdrive := Gate.counted_drive (g := g) (now := now) opening
  rcases Gate.onPosition_moves (c := c) (now := now) (hdrive ▸ h) with hsame | ⟨hends, -⟩
  · rw [hsame, Gate.counted_stallStart opening h]
  · exact absurd (hstay.trans hdrive.symm) hends

/-! ## A limit switch that becomes active (R100) -/

theorem Gate.limitStop_of_move (openLimit : Bool) (h : g.drive = .move openLimit) : g.limitStop now openLimit = g.enter now .resting := by
  cases openLimit <;> simp [Gate.limitStop, h, Drive.move]

theorem Gate.limitStop_of_tripMove (openLimit : Bool) (h : g.drive = .tripped (.moving openLimit)) :
    g.limitStop now openLimit = g.enter now (.tripped .done) := by
  simp [Gate.limitStop, h]

/-- A drive that does not move in the sense of the switch is left as it is. -/
theorem Gate.limitStop_of_other (openLimit : Bool) (hmove : g.drive ≠ .move openLimit)
    (htrip : g.drive ≠ .tripped (.moving openLimit)) : g.limitStop now openLimit = g := by
  unfold Gate.limitStop
  cases hd : g.drive with
  | opening =>
    cases openLimit with
    | true => exact absurd hd hmove
    | false => rfl
  | closing =>
    cases openLimit with
    | true => rfl
    | false => exact absurd hd hmove
  | tripped phase =>
    cases phase with
    | moving up => exact if_neg fun hup => htrip (by rw [hd, hup])
    | waiting | done => rfl
  | stopped | resting | fault => rfl

theorem Gate.driveOnly_limitStop (openLimit : Bool) : g.DriveOnly (g.limitStop now openLimit) := by
  by_cases hmove : g.drive = .move openLimit
  · rw [Gate.limitStop_of_move openLimit hmove]; exact Gate.driveOnly_enter _
  by_cases htrip : g.drive = .tripped (.moving openLimit)
  · rw [Gate.limitStop_of_tripMove openLimit htrip]; exact Gate.driveOnly_enter _
  · rw [Gate.limitStop_of_other openLimit hmove htrip]; exact .refl

/-- The drive at a switch of sense `openLimit` that becomes active while the other is not. -/
def Gate.AtSwitch (c : Config.Settings) (g : Gate) (openLimit : Bool) (x : Gate) : Prop :=
  (g.drive = .move openLimit → x.drive = .resting) ∧ (g.drive = .tripped (.moving openLimit) → x.drive = .tripped .done) ∧
  g.MoveJudged c (!openLimit) x ∧ g.OffJudged c x ∧ (g.drive.on = true → x.drive = g.drive → x.stallStart = g.stallStart)

/-- The switch ends a move in its own sense; the position judges every other state. -/
theorem Gate.atSwitch_onPosition (openLimit : Bool) (hdrive : g'.drive = g.drive) (htarget : g'.target = g.target)
    (hstall : g'.stallStart = g.stallStart) : g.AtSwitch c openLimit ((g'.limitStop now openLimit).onPosition c now) := by
  have hother (hmove : g.drive ≠ .move openLimit) (htrip : g.drive ≠ .tripped (.moving openLimit)) :
      g'.limitStop now openLimit = g' := Gate.limitStop_of_other openLimit (hdrive ▸ hmove) (hdrive ▸ htrip)
  refine ⟨fun hmove => ?own, fun htrip => ?ownTrip, ?against, ?off, fun hon hstay => ?stall⟩
  case own =>
    rw [Gate.limitStop_of_move openLimit (hdrive.trans hmove), Gate.onPosition_of_still (.inl rfl)]
    rfl
  case ownTrip =>
    rw [Gate.limitStop_of_tripMove openLimit (hdrive.trans htrip), Gate.onPosition_of_still (.inr (.inr (.inr rfl)))]
    rfl
  case against =>
    refine Gate.moveJudged_onPosition fun hagainst => ?_
    rw [hother]
    · exact ⟨hdrive, htarget⟩
    · rcases hagainst with h | h <;> rw [h] <;> cases openLimit <;> decide
    · rcases hagainst with h | h <;> rw [h] <;> cases openLimit <;> decide
  case off =>
    refine Gate.offJudged_onPosition fun hoff => ?_
    rw [hother, hdrive]
    · rintro h; rw [h] at hoff; cases openLimit <;> cases hoff
    · rintro h; rw [h] at hoff; cases openLimit <;> cases hoff
  case stall =>
    by_cases hmove : g.drive = .move openLimit
    · rw [Gate.limitStop_of_move openLimit (hdrive.trans hmove), Gate.onPosition_of_still (.inl rfl), hmove] at hstay
      cases openLimit <;> cases hstay
    by_cases htrip : g.drive = .tripped (.moving openLimit)
    · rw [Gate.limitStop_of_tripMove openLimit (hdrive.trans htrip), Gate.onPosition_of_still (.inr (.inr (.inr rfl))), htrip] at hstay
      cases hstay
    rw [hother hmove htrip] at hstay ⊢
    rcases Gate.onPosition_moves (c := c) (now := now) (hdrive ▸ hon) with hsame | ⟨hends, -⟩
    · rw [hsame, hstall]
    · exact absurd (hstay.trans hdrive.symm) hends

/-- Both switches active are a sensor fault. -/
theorem Gate.limitActive_of_both (openLimit : Bool) (hclosed : g.limClosed = true) (hopen : g.limOpen = true) :
    g.limitActive openLimit c now = (g.limitPosition c openLimit).setFault now .limits := by
  refine if_pos ?_
  cases openLimit <;> simp [Gate.limitPosition, hclosed, hopen]

theorem Gate.limitActive_of_one (openLimit : Bool) (h : g.limClosed = false ∨ g.limOpen = false) :
    g.limitActive openLimit c now = ((g.limitPosition c openLimit).limitStop now openLimit).onPosition c now := by
  refine if_neg ?_
  cases openLimit <;> rcases h with h | h <;> simp [Gate.limitPosition, h]

end

section

variable {s : State} {openLimit : Bool}

theorem exec_encoderStep (hw : s.working = true) (opening : Bool) :
    exec (.encoderStep opening) s = .next (s.changeGate (Gate.step opening)) := if_pos hw

theorem exec_limitInputChange_active (hw : s.working = true) (h : s.gate.limit openLimit = false) :
    exec (.limitInputChange openLimit true) s =
      .next (((s.withGate (s.gate.setLimit openLimit true)).changeGate (Gate.limitActive openLimit)).raiseIf
        ((s.gate.setLimit openLimit true).limClosed && (s.gate.setLimit openLimit true).limOpen) .gateFault) := by
  refine (if_neg (by simp [h])).trans ((if_neg ?_).trans (if_pos rfl))
  exact (Bool.not_eq_true _).mpr (congrArg not hw)

theorem exec_limitInputChange_inactive (hw : s.working = true) (h : s.gate.limit openLimit = true) :
    exec (.limitInputChange openLimit false) s =
      .next ((s.withGate (s.gate.setLimit openLimit false)).changeGate Gate.startRule) := by
  refine (if_neg (by simp [h])).trans ((if_neg ?_).trans (if_neg Bool.false_ne_true))
  exact (Bool.not_eq_true _).mpr (congrArg not hw)

/-- A raise on a condition that fails, and on one that holds. -/
theorem State.raiseIf_false {b : Bool} {x : Cause} (h : b = false) : s.raiseIf b x = s := by rw [h]; rfl

theorem State.raiseIf_true {b : Bool} {x : Cause} (h : b = true) : s.raiseIf b x = s.raise x := by rw [h]; rfl

/-! ## A switch that becomes active -/

/-- The gate when a switch has become active: the position is that of its end. -/
def Gate.switched (c : Config.Settings) (openLimit : Bool) (g : Gate) : Gate := (g.setLimit openLimit true).limitPosition c openLimit

theorem Gate.positionOnly_switched {c : Config.Settings} {g : Gate} : g.PositionOnly (g.switched c openLimit) :=
  (Gate.positionOnly_setLimit openLimit true).trans (Gate.positionOnly_limitPosition openLimit)

theorem Gate.switched_leaves {c : Config.Settings} {g : Gate} : (g.switched c openLimit).drive = g.drive ∧
    (g.switched c openLimit).target = g.target ∧ (g.switched c openLimit).stallStart = g.stallStart ∧
    (g.switched c openLimit).record = g.record := by
  cases openLimit <;> exact ⟨rfl, rfl, rfl, rfl⟩

/-- A switch alone: the drive is stopped in the sense of the switch, and judged at the new position. -/
theorem exec_limitInputChange_alone (hw : s.working = true) (h : s.gate.limit openLimit = false)
    (hother : s.gate.limit (!openLimit) = false) : ∃ x, exec (.limitInputChange openLimit true) s = .next (s.withGate x) ∧
      (s.gate.switched s.settings openLimit).DriveOnly x ∧ s.gate.AtSwitch s.settings openLimit x := by
  have hone : (s.gate.setLimit openLimit true).limClosed = false ∨ (s.gate.setLimit openLimit true).limOpen = false := by
    cases openLimit
    · exact .inr hother
    · exact .inl hother
  obtain ⟨hdrive, htarget, hstall, -⟩ := Gate.switched_leaves (openLimit := openLimit) (c := s.settings) (g := s.gate)
  refine ⟨_, ?_, (Gate.driveOnly_limitStop openLimit).trans Gate.driveOnly_onPosition,
    Gate.atSwitch_onPosition (now := s.time.elapsed) openLimit hdrive htarget hstall⟩
  rw [exec_limitInputChange_active hw h, State.raiseIf_false (by rcases hone with h | h <;> simp [h])]
  exact congrArg (fun x => Host.Outcome.next (s.withGate x)) (Gate.limitActive_of_one openLimit hone)

/-- A switch with the other active: a fault of the sensors. -/
theorem exec_limitInputChange_both (hw : s.working = true) (h : s.gate.limit openLimit = false)
    (hother : s.gate.limit (!openLimit) = true) : ∃ x,
      exec (.limitInputChange openLimit true) s = .next ((s.withGate x).raise .gateFault) ∧
      Gate.DriveOnly { s.gate.switched s.settings openLimit with record := .limits } x ∧ x.drive = s.gate.faultDrive := by
  have hboth : (s.gate.setLimit openLimit true).limClosed = true ∧ (s.gate.setLimit openLimit true).limOpen = true := by
    cases openLimit
    · exact ⟨rfl, hother⟩
    · exact ⟨hother, rfl⟩
  refine ⟨_, ?_, Gate.driveOnly_setFault (now := s.time.elapsed) .limits, ?_⟩
  · rw [exec_limitInputChange_active hw h, State.raiseIf_true (by simpa using hboth)]
    exact congrArg (fun x => Host.Outcome.next ((s.withGate x).raise .gateFault)) (Gate.limitActive_of_both openLimit hboth.1 hboth.2)
  · obtain ⟨hdrive, -⟩ := Gate.switched_leaves (openLimit := openLimit) (c := s.settings) (g := s.gate)
    rw [Gate.setFault_drive, Gate.faultDrive, hdrive]
    rfl

end

/-- Settles O56: the encoder, each switch becoming active alone and with the other, and a switch becoming inactive. -/
theorem encoderAndLimits : Obligations.EncoderAndLimits := by
  intro s hw g c drives same fault rule half there judged off atSwitch
  refine ⟨fun opening => ?count, fun hopen => ?openSwitch, fun hclosed => ?closedSwitch, fun o ho => ?inactive⟩
  case count =>
    obtain ⟨htarget, hrecord, hclosed, hopen⟩ := Gate.count_leaves (g := g) opening
    have hcounted := Gate.counted_drive (g := g) (now := s.time.elapsed) opening
    have honly : (g.count opening).DriveOnly (g.step opening c s.time.elapsed) :=
      (Gate.driveOnly_counted opening).trans Gate.driveOnly_onPosition
    obtain ⟨hcounts, hsuspect, hrecord', hclosed', hopen'⟩ := honly.leaves_position
    have hjudged (up : Bool) : g.MoveJudged c up (g.step opening c s.time.elapsed) :=
      Gate.moveJudged_onPosition fun _ => ⟨hcounted, ((Gate.driveOnly_counted opening).leaves.1).trans htarget⟩
    refine ⟨_, exec_encoderStep hw opening, ⟨rfl, (Gate.positionOnly_count opening).trans honly.positionOnly⟩,
      hrecord'.trans hrecord, hclosed'.trans hclosed, hopen'.trans hopen, fun hup => ?_, fun hdown => ?_,
      Gate.step_stallStart opening, hjudged true, hjudged false, Gate.offJudged_onPosition fun _ => hcounted⟩
    · subst hup
      exact ⟨hcounts.trans Gate.count_up.1, hsuspect.trans Gate.count_up.2⟩
    · subst hdown
      exact ⟨hcounts.trans Gate.count_down.1, hsuspect.trans Gate.count_down.2⟩
  case openSwitch =>
    cases hother : g.limClosed with
    | false =>
      obtain ⟨x, hexec, honly, hat⟩ := exec_limitInputChange_alone (openLimit := true) hw hopen hother
      obtain ⟨hcounts, hsuspect, hrecord, hclosed', hopen'⟩ := honly.leaves_position
      exact ⟨_, hexec, hopen', hcounts, hsuspect,
        fun _ => ⟨⟨rfl, Gate.positionOnly_switched.trans honly.positionOnly⟩, hclosed'.trans hother, hrecord, hat⟩,
        fun h => by cases h⟩
    | true =>
      obtain ⟨x, hexec, honly, hdrive⟩ := exec_limitInputChange_both (openLimit := true) hw hopen hother
      obtain ⟨hcounts, hsuspect, hrecord, hclosed', hopen'⟩ := honly.leaves_position
      exact ⟨_, hexec, hopen', hcounts, hsuspect, fun h => (by cases h),
        fun _ => ⟨rfl, Gate.positionOnly_switched.trans (Gate.PositionOnly.trans (g' := { g.switched c _ with record := .limits }) rfl honly.positionOnly), hrecord, hclosed'.trans hother, hopen', hdrive⟩⟩
  case closedSwitch =>
    cases hother : g.limOpen with
    | false =>
      obtain ⟨x, hexec, honly, hat⟩ := exec_limitInputChange_alone (openLimit := false) hw hclosed hother
      obtain ⟨hcounts, hsuspect, hrecord, hclosed', hopen'⟩ := honly.leaves_position
      exact ⟨_, hexec, hclosed', hcounts, hsuspect,
        fun _ => ⟨⟨rfl, Gate.positionOnly_switched.trans honly.positionOnly⟩, hopen'.trans hother, hrecord, hat⟩,
        fun h => by cases h⟩
    | true =>
      obtain ⟨x, hexec, honly, hdrive⟩ := exec_limitInputChange_both (openLimit := false) hw hclosed hother
      obtain ⟨hcounts, hsuspect, hrecord, hclosed', hopen'⟩ := honly.leaves_position
      exact ⟨_, hexec, hclosed', hcounts, hsuspect, fun h => (by cases h),
        fun _ => ⟨rfl, Gate.positionOnly_switched.trans (Gate.PositionOnly.trans (g' := { g.switched c _ with record := .limits }) rfl honly.positionOnly), hrecord, hclosed', hopen'.trans hother, hdrive⟩⟩
  case inactive =>
    have hset : (g.setLimit o false).drive = g.drive ∧ (g.setLimit o false).counts = g.counts ∧
        (g.setLimit o false).suspect = g.suspect ∧ (g.setLimit o false).record = g.record ∧
        (g.setLimit o false).limit o = false ∧ (g.setLimit o false).limit (!o) = g.limit (!o) := by
      cases o <;> exact ⟨rfl, rfl, rfl, rfl, rfl, rfl⟩
    obtain ⟨hdrive, hcounts, hsuspect, hrecord, hself, hother⟩ := hset
    have honly : (g.setLimit o false).DriveOnly ((g.setLimit o false).startRule c s.time.elapsed) := Gate.driveOnly_startRule
    obtain ⟨hcounts', hsuspect', hrecord', hclosed', hopen'⟩ := honly.leaves_position
    have hlimit (up : Bool) : ((g.setLimit o false).startRule c s.time.elapsed).limit up = (g.setLimit o false).limit up := by
      cases up
      · exact hclosed'
      · exact hopen'
    exact ⟨_, exec_limitInputChange_inactive hw ho, ⟨rfl, (Gate.positionOnly_setLimit o false).trans honly.positionOnly⟩,
      (hlimit o).trans hself, (hlimit (!o)).trans hother, hcounts'.trans hcounts, hsuspect'.trans hsuspect, hrecord'.trans hrecord,
      fun hne => (Gate.startRule_drive_of_ne (hdrive ▸ hne)).trans hdrive,
      fun hd => (Gate.startRule_drive (hdrive.trans hd)).trans honly.ruleDrive.symm⟩

end Sys2Proof.Machine
end
section
/-! The gate and the meters at a period boundary (R97, R112, R122 to R124). -/

namespace Sys2Proof.Machine

section

variable {c : Config.Settings} {now key : Nat} {g : Gate}

/-! ## The boundary of the gate (R97, R101, R112) -/

/-- An accumulator that is closed under the key, or under a later one, is not closed again (R129). -/
theorem Gate.closeOnce_of_again (h : ∃ p, g.closed = some p ∧ key ≤ p.key) : g.closeOnce key = g := by
  obtain ⟨p, hclosed, hle⟩ := h
  rw [Gate.closeOnce, Gate.closedAt, hclosed]
  exact if_pos (decide_eq_true hle)

/-- The close of the accumulator leaves the rest of the gate. -/
theorem Gate.closeOnce_eq : g.closeOnce key = { g with
    closed := (g.closeOnce key).closed, volume := (g.closeOnce key).volume, volumeEst := (g.closeOnce key).volumeEst } := by
  unfold Gate.closeOnce
  split <;> rfl

/-- Acting on a target begins and ends no trip. -/
theorem Gate.onTarget_isTripped : (g.onTarget c now).drive.isTripped = g.drive.isTripped := by
  obtain ⟨hstopped, hopening, hclosing, hother⟩ := Gate.onTarget_drive c now g
  cases hd : g.drive with
  | stopped =>
    rw [hstopped hd]
    unfold Gate.ruleDrive
    repeat' split
    all_goals rfl
  | opening => rw [hopening hd]; split <;> rfl
  | closing => rw [hclosing hd]; split <;> rfl
  | tripped | resting | fault => rw [hother (by simp [hd, Drive.isTripped]), hd]

/-- In MANUAL the boundary computes no target. -/
theorem Gate.boundaryAimed_of_manual (h : g.mode = .manual) : g.boundaryAimed c now key = g.closeOnce key := by
  refine if_neg ?_
  rw [Gate.closeOnce_eq, h]
  decide

theorem Gate.boundaryAimed_of_auto (h : g.mode = .auto) :
    g.boundaryAimed c now key = ((g.closeOnce key).computeTarget c).onTarget c now := by
  refine if_pos ?_
  rw [Gate.closeOnce_eq, h]

/-- What auto-resume asks for is as the boundary found it. -/
theorem Gate.boundaryAimed_leaves : (g.boundaryAimed c now key).drive.isTripped = g.drive.isTripped ∧
    (g.boundaryAimed c now key).tripIn = g.tripIn ∧ (g.boundaryAimed c now key).hU = g.hU ∧
    (g.boundaryAimed c now key).record = g.record := by
  cases hmode : g.mode with
  | manual =>
    rw [Gate.boundaryAimed_of_manual hmode, Gate.closeOnce_eq]
    exact ⟨rfl, rfl, rfl, rfl⟩
  | auto =>
    rw [Gate.boundaryAimed_of_auto hmode]
    refine ⟨Gate.onTarget_isTripped.trans ?_, ?_⟩
    · rw [Gate.computeTarget_eq, Gate.closeOnce_eq]
    · rw [Gate.onTarget_eq, Gate.computeTarget_eq, Gate.closeOnce_eq]
      exact ⟨rfl, rfl, rfl⟩

/-- Auto-resume ends a trip with TRIP inactive and the averaged upstream level below its limit, where it is a cause (R112). -/
theorem Gate.autoResumes_iff : g.autoResumes c = true ↔ c.levels.autoResume = true ∧ g.drive.isTripped = true ∧ g.tripIn = false ∧
    (c.levels.levelTrip = true → ∃ u, g.hU = some u ∧ u < c.levels.upHigh) := by
  unfold Gate.autoResumes
  cases hu : g.hU <;> cases c.levels.levelTrip <;> simp [and_assoc]

/-- The boundary judges auto-resume on the gate that it found. -/
theorem Gate.boundary_resumes_iff : (g.boundaryAimed c now key).autoResumes c = true ↔ g.autoResumes c = true := by
  obtain ⟨htripped, htripIn, hlevel, -⟩ := Gate.boundaryAimed_leaves (c := c) (now := now) (key := key) (g := g)
  rw [Gate.autoResumes_iff, Gate.autoResumes_iff, htripped, htripIn, hlevel]

theorem Gate.boundary_of_resumes (h : g.autoResumes c = true) : g.boundary c now key =
    (g.boundaryAimed c now key).enter now (if g.record = .none then .resting else .fault) := by
  obtain ⟨-, -, -, hrecord⟩ := Gate.boundaryAimed_leaves (c := c) (now := now) (key := key) (g := g)
  rw [Gate.boundary_eq, if_pos (Gate.boundary_resumes_iff.2 h), Gate.resume, hrecord]

theorem Gate.boundary_of_stays (h : ¬g.autoResumes c = true) : g.boundary c now key = g.boundaryAimed c now key := by
  rw [Gate.boundary_eq, if_neg (mt Gate.boundary_resumes_iff.1 h)]

end

section

variable {s : State} {x : Turnout} {book : OrderBook} {c : Config.Settings} {i key : Nat}

/-- The boundary at the gate, once every earlier record is taken (log 14). -/
theorem exec_gatePeriodBoundary {e : PeriodEvent} {rest : List PeriodEvent} (hrun : s.running = true) (h : s.inbox.gate = e :: rest)
    (hready : s.closeReady e.oldKey = true) : exec .gatePeriodBoundary s =
      .next ((s.withInbox { s.inbox with gate := rest }).withGate (s.gate.boundary s.settings s.time.elapsed e.oldKey)) := by
  change execGatePeriodBoundary s = _
  simp only [execGatePeriodBoundary, h]
  exact if_pos (by rw [hrun, hready]; rfl)

/-! ## The close of the meter periods (R122 to R124) -/

/-- An order is found exactly when one is ACTIVE on the turnout. -/
theorem OrderBook.activeOn_isSome_iff :
    (book.activeOn i).isSome = true ↔ ∃ slot o, book.at? slot = some o ∧ o.turnout = i ∧ o.state = .active := by
  rw [Option.isSome_iff_ne_none, ne_eq, OrderBook.activeOn_eq_none_iff]
  simp only [not_forall, not_not]

/-- A turnout has overdrawn through the whole period: its mark stands, and the rate is above 125 % of the grant of an ACTIVE order. -/
theorem Turnout.overdrawn_iff : x.overdrawn book i = true ↔ x.overdraw = true ∧
    (∃ slot o, book.at? slot = some o ∧ o.turnout = i ∧ o.state = .active) ∧ 5 * book.grantInForce i < 4 * x.rate := by
  rw [← OrderBook.activeOn_isSome_iff, Turnout.overdrawn, Turnout.judge_eq]
  by_cases hover : 5 * book.grantInForce i < 4 * x.rate
  · have hrate : x.rate ≠ 0 := by omega
    simp [overLimit, hover, hrate]
  · simp [overLimit, hover]

/-- The mark RATE_OVER of a closed meter period. -/
theorem Turnout.closePeriod_rateOver_iff : (x.closePeriod c book key i).flags.rateOver = true ↔
    x.flags.rateOver = true ∨ x.overdrawn book i = true := Bool.or_eq_true_iff

/-- One turnout's period closed (R123). -/
theorem Turnout.closePeriod_eq : x.closePeriod c book key i = { x with
    closed := some { key := key, pulses := x.pulses
                     litres := min (x.pulses * (configOf c i).litres) 4294967295
                     rejects := x.rejects, estimated := x.estimated }
    pulses := 0, rejects := 0, noisy := x.noisy && decide (x.rejects ≠ 0)
    estimated := x.noisy && decide (x.rejects ≠ 0), overdraw := decide (0 < x.rate)
    flags := { x.flags with rateOver := (x.closePeriod c book key i).flags.rateOver } } := by
  have hrejects : (x.rejects != 0) = decide (x.rejects ≠ 0) := by
    rw [Bool.eq_iff_iff, bne_iff_ne, decide_eq_true_iff]
  rw [← hrejects]
  rfl

/-- A present turnout has overdrawn through the period. -/
def State.someOverdrawn (s : State) : Bool :=
  s.meters.turnouts.zipIdx.any fun p => present s.settings p.2 && p.1.overdrawn s.book p.2

theorem State.someOverdrawn_iff : s.someOverdrawn = true ↔
    ∃ i x, s.meters.turnouts[i]? = some x ∧ present s.settings i = true ∧ x.overdrawn s.book i = true := by
  simp only [State.someOverdrawn, List.any_eq_true, Prod.exists, List.mem_zipIdx_iff_getElem?, Bool.and_eq_true]
  exact exists_comm

theorem State.closeMeters_meters : (s.closeMeters key).meters = {
    turnouts := s.meters.turnouts.zipIdx.map fun p =>
      if present s.settings p.2 then p.1.closePeriod s.settings s.book key p.2 else p.1
    closedKey := some key } := congrArg State.meters (State.raiseIf_eq ..)

theorem State.closeMeters_alerts : (s.closeMeters key).alerts = s.alerts.raiseIf s.someOverdrawn .overdraw :=
  congrArg State.alerts (State.raiseIf_eq ..)

/-- Closing the meter periods writes the meters and the alerts. -/
theorem State.closeMeters_eq : s.closeMeters key = { s with
    meters := (s.closeMeters key).meters, alerts := (s.closeMeters key).alerts } := by
  rw [State.closeMeters_meters, State.closeMeters_alerts]
  exact State.raiseIf_eq ..

/-- Every present turnout's period is closed, and an absent one is left. -/
theorem State.closeMeters_getElem? (h : s.meters.turnouts[i]? = some x) : (s.closeMeters key).meters.turnouts[i]? =
    some (if present s.settings i then x.closePeriod s.settings s.book key i else x) := by
  rw [State.closeMeters_meters, List.getElem?_map, List.getElem?_zipIdx, h]
  simp

/-- A key above every closed one is closed (R124). -/
theorem State.closeMetersOnce_of_open (h : ∀ k, s.meters.closedKey = some k → k < key) : s.closeMetersOnce key = s.closeMeters key := by
  unfold State.closeMetersOnce
  cases hclosed : s.meters.closedKey with
  | none => rfl
  | some k => exact if_neg (Nat.not_le.2 (h k hclosed))

end

/-- Settles O49: the boundary of the gate, the opening target and the drive on it case by case, and the close of the meter periods. -/
theorem gateAndMeterPeriods : Obligations.GateAndMeterPeriods := by
  refine ⟨fun s e rest hrun hinbox hready => ?boundary, fun c now g => ?target, fun s e rest hrun hinbox hready => ?meters⟩
  case boundary =>
    intro g c now again resumes
    refine ⟨g.closeOnce e.oldKey, g.boundaryAimed c now e.oldKey, g.boundary c now e.oldKey,
      exec_gatePeriodBoundary hrun hinbox (decide_eq_true hready), Gate.closeOnce_of_again, fun hopen => ?_,
      Gate.boundaryAimed_of_manual, Gate.boundaryAimed_of_auto,
      fun h => Gate.boundary_of_resumes (Gate.autoResumes_iff.2 h), fun h => Gate.boundary_of_stays (mt Gate.autoResumes_iff.1 h)⟩
    have hbelow : ∀ p, g.closed = some p → p.key < e.oldKey := fun p hp => Nat.not_le.1 fun hle => hopen ⟨p, hp, hle⟩
    exact Gate.closeOnce_of_open hbelow
  case target =>
    intro p u t
    obtain ⟨hstopped, hopening, hclosing, -⟩ := Gate.onTarget_drive c now g
    refine ⟨Gate.computeTarget_of_held, fun r hmode hfault hr => ⟨Gate.computeTarget_of_zero hmode hfault hr,
      Gate.computeTarget_of_no_level hmode hfault hr, fun x y v h0 hx hy => ?_⟩, Gate.onTarget_eq c now g, hstopped, hopening, hclosing,
      fun h => Gate.onTarget_of_other h⟩
    intro head
    have hhead : head = headAt p x y := (headAt_eq ..).symm
    rw [hhead]
    exact ⟨Gate.computeTarget_of_no_head hmode hfault hr h0 hx hy, Gate.computeTarget_of_head hmode hfault hr h0 hx hy⟩
  case meters =>
    intro u drawn some_
    have hexec : exec .meterPeriodClose s = .next (u.closeMetersOnce e.oldKey) :=
      exec_meterPeriodClose hrun hinbox (decide_eq_true hready)
    have hsome : u.someOverdrawn = true ↔ some_ := by
      simp only [State.someOverdrawn_iff, Turnout.overdrawn_iff]
      rfl
    refine ⟨fun k hk hle => hexec.trans ?_, fun hopen => ⟨u.closeMeters e.oldKey, hexec.trans ?_, State.closeMeters_eq, fun h => ?_, fun h => ?_, ?_, ?_, ?_⟩⟩
    · rw [State.closeMetersOnce_of_closed (s := u) hk hle]
    · rw [State.closeMetersOnce_of_open (s := u) hopen]
    · rw [State.closeMeters_alerts, hsome.2 h]
      rfl
    · rw [State.closeMeters_alerts, eq_false_of_ne_true (mt hsome.1 h)]
      rfl
    · rw [State.closeMeters_meters]
    · rw [State.closeMeters_meters, List.length_map, List.length_zipIdx]
    · intro i x hx
      have hentry := State.closeMeters_getElem? (s := u) (key := e.oldKey) hx
      refine ⟨fun habsent => hentry.trans ?_, fun hpresent => ⟨x.closePeriod s.settings s.book e.oldKey i, hentry.trans ?_,
        Turnout.closePeriod_eq, ?_⟩⟩
      · exact congrArg some (if_neg (by simp [u, habsent]))
      · exact congrArg some (if_pos hpresent)
      · rw [Turnout.closePeriod_rateOver_iff, Turnout.overdrawn_iff]

end Sys2Proof.Machine
end
section
/-! The samples of the level sensor (R91 to R98, R110, R191). -/

namespace Sys2Proof.Machine

section

/-! ## The sensor's record (R191) -/

/-- The five bytes of a record that its CRC covers. -/
def sampleBytes (u d : Nat) : List Byte := toBytes 2 u ++ toBytes 2 d ++ [0]

/-- A record in order reads as its two levels. -/
theorem readSample_of_order {u d : Nat} (hu : u ≤ 4000) (hd : d ≤ 4000) :
    readSample (0xE2 :: (sampleBytes u d ++ crcBytes (sampleBytes u d))) = some (u, d) := by
  have hfieldU : fieldAt (0xE2 :: (sampleBytes u d ++ crcBytes (sampleBytes u d))) 1 2 = u :=
    fieldAt_toBytes (n := 2) (by omega) (toBytes 2 d ++ [0] ++ crcBytes (sampleBytes u d))
  have hfieldD : fieldAt (0xE2 :: (sampleBytes u d ++ crcBytes (sampleBytes u d))) 3 2 = d :=
    fieldAt_toBytes (n := 2) (by omega) ([0] ++ crcBytes (sampleBytes u d))
  unfold readSample
  rw [hfieldU, hfieldD]
  exact if_pos ⟨rfl, rfl, rfl, rfl, hu, hd⟩

/-- Eight bytes with the sync byte, the status 0 and the CRC are the record of the levels they carry. -/
theorem record_eq_of_checks {record : List Byte} (hlength : record.length = 8) (hsync : byteAt record 0 = 0xE2)
    (hcrc : crcBytes ((record.drop 1).take 5) = record.drop 6) (hstatus : byteAt record 5 = 0) :
    record = 0xE2 :: (sampleBytes (fieldAt record 1 2) (fieldAt record 3 2) ++
      crcBytes (sampleBytes (fieldAt record 1 2) (fieldAt record 3 2))) := by
  have hbytes : sampleBytes (fieldAt record 1 2) (fieldAt record 3 2) = (record.drop 1).take 5 := by
    rw [sampleBytes, toBytes_fieldAt (by omega), toBytes_fieldAt (by omega), ← hstatus]
    match record, hlength with
    | [b0, b1, b2, b3, b4, b5, b6, b7], _ => rfl
  rw [hbytes, hcrc, ← hsync]
  match record, hlength with
  | [b0, b1, b2, b3, b4, b5, b6, b7], _ => rfl

theorem readSample_eq_some_iff {record : List Byte} {u d : Nat} : readSample record = some (u, d) ↔
    u ≤ 4000 ∧ d ≤ 4000 ∧ record = 0xE2 :: (sampleBytes u d ++ crcBytes (sampleBytes u d)) := by
  constructor
  · intro h
    obtain ⟨⟨hlength, hsync, hcrc, hstatus, hu, hd⟩, hlevels⟩ := Option.ite_none_right_eq_some.1 h
    obtain ⟨rfl, rfl⟩ := Prod.mk.inj (Option.some.inj hlevels)
    exact ⟨hu, hd, record_eq_of_checks hlength hsync hcrc hstatus⟩
  · rintro ⟨hu, hd, rfl⟩
    exact readSample_of_order hu hd

end

section

variable {s : State} {e : PeriodEvent}

/-! ## A period event that waits for the gate (R97) -/

theorem State.settleGate_of_not_running (h : s.running = false) : s.settleGate = s := if_neg (by simp [h])

/-- One waiting event closes the accumulator under its key, once. -/
theorem State.settleGate_of_again (hrun : s.running = true) (hinbox : s.inbox.gate = [e]) (hready : e.oldKey ≤ s.close.openKey)
    (h : ∃ p, s.gate.closed = some p ∧ e.oldKey ≤ p.key) : s.settleGate = s := by
  rw [s.settleGate_one e hrun hinbox (decide_eq_true hready), State.closeGateOnce, Gate.closeOnce_of_again h]
  rfl

theorem State.settleGate_of_open (hrun : s.running = true) (hinbox : s.inbox.gate = [e]) (hready : e.oldKey ≤ s.close.openKey)
    (h : ∀ p, s.gate.closed = some p → p.key < e.oldKey) : s.settleGate = s.withGate (s.gate.closeVolume e.oldKey) := by
  rw [s.settleGate_one e hrun hinbox (decide_eq_true hready), State.closeGateOnce, Gate.closeOnce_of_open h]

theorem State.settleGate_working (h : s.working = true) : s.settleGate.working = true := by
  simpa [State.working] using h

end

section

variable {c : Config.Settings} {now u d hU hD : Nat} {inRun : Bool} {g g' : Gate}

/-! ## A good sample (R92 to R98) -/

/-- A sample joins the window, of which the newest 8 stay. -/
theorem joinWindow_eq (w : List (Nat × Nat)) (sample : Nat × Nat) : joinWindow w sample = (w ++ [sample]).drop (w.length + 1 - 8) := by
  unfold joinWindow
  by_cases h : 8 ≤ w.length
  · rw [if_pos h, List.drop_append_of_le_length (by omega), show w.length + 1 - 8 = w.length - 7 by omega]
  · rw [if_neg h, show w.length + 1 - 8 = 0 by omega, List.drop_zero]

theorem joinWindow_ne_nil (w : List (Nat × Nat)) (sample : Nat × Nat) : joinWindow w sample ≠ [] := by simp [joinWindow]

/-- The averages over a window that holds a sample. -/
theorem Gate.hU_of_ne_nil (h : g.window ≠ []) : g.hU = some (sumList (g.window.map (·.1)) / g.window.length) :=
  if_neg (by simpa using h)

theorem Gate.hD_of_ne_nil (h : g.window ≠ []) : g.hD = some (sumList (g.window.map (·.2)) / g.window.length) :=
  if_neg (by simpa using h)

/-- The gate with the sample and its averages. -/
theorem Gate.sighted_eq (u d : Nat) (g : Gate) : g.sighted u d = { g with
    window := joinWindow g.window (u, d)
    lastU := sumList ((joinWindow g.window (u, d)).map (·.1)) / (joinWindow g.window (u, d)).length
    lastD := sumList ((joinWindow g.window (u, d)).map (·.2)) / (joinWindow g.window (u, d)).length
    missed := 0, levelFault := false } := by
  rw [Gate.sighted, Gate.hU_of_ne_nil (joinWindow_ne_nil _ _), Gate.hD_of_ne_nil (joinWindow_ne_nil _ _)]
  rfl

/-- What a computation of the flow writes. -/
theorem Gate.computeFlow_eq : g.computeFlow c hU hD = { g with
    flow := (g.computeFlow c hU hD).flow, regime := (g.computeFlow c hU hD).regime
    reverseHead := (g.computeFlow c hU hD).reverseHead, saturated := (g.computeFlow c hU hD).saturated } := by
  unfold Gate.computeFlow
  dsimp only
  repeat' split
  all_goals rfl

theorem Gate.computeFlow_leaves : (g.computeFlow c hU hD).volume = g.volume ∧ (g.computeFlow c hU hD).volumeEst = g.volumeEst ∧
    (g.computeFlow c hU hD).suspect = g.suspect := by
  rw [Gate.computeFlow_eq]
  exact ⟨rfl, rfl, rfl⟩

/-- The computation reads the position alone. -/
theorem Gate.computeFlow_congr (h : g'.position c = g.position c) :
    (g'.computeFlow c hU hD).flow = (g.computeFlow c hU hD).flow ∧
    (g'.computeFlow c hU hD).regime = (g.computeFlow c hU hD).regime ∧
    (g'.computeFlow c hU hD).reverseHead = (g.computeFlow c hU hD).reverseHead ∧
    (g'.computeFlow c hU hD).saturated = (g.computeFlow c hU hD).saturated := by
  unfold Gate.computeFlow
  rw [h]
  dsimp only
  repeat' split
  all_goals exact ⟨rfl, rfl, rfl, rfl⟩

/-- What acting on the sample leaves, before the flow is computed. -/
theorem Gate.sampleAimed_leaves : (g.sampleAimed c now u d).position c = g.position c ∧
    (g.sampleAimed c now u d).volume = g.volume ∧ (g.sampleAimed c now u d).volumeEst = g.volumeEst ∧
    (g.sampleAimed c now u d).suspect = g.suspect ∧ (g.sampleAimed c now u d).tripIn = g.tripIn ∧
    (g.sampleAimed c now u d).drive.isTripped = g.drive.isTripped := by
  unfold Gate.sampleAimed
  split
  · refine ⟨?_, ?_, ?_, ?_, ?_, Gate.onTarget_isTripped.trans ?_⟩
    · rw [Gate.onTarget_eq, Gate.computeTarget_eq]; rfl
    · rw [Gate.onTarget_eq, Gate.computeTarget_eq]; rfl
    · rw [Gate.onTarget_eq, Gate.computeTarget_eq]; rfl
    · rw [Gate.onTarget_eq, Gate.computeTarget_eq]; rfl
    · rw [Gate.onTarget_eq, Gate.computeTarget_eq]; rfl
    · rw [Gate.computeTarget_eq]; rfl
  · exact ⟨rfl, rfl, rfl, rfl, rfl, rfl⟩

/-- A good sample writes, beside the window and the target, the flow, the volume and the level window. -/
theorem Gate.goodSample_writes : g.goodSample c now inRun u d = { g.sampleAimed c now u d with
    flow := (g.goodSample c now inRun u d).flow, regime := (g.goodSample c now inRun u d).regime
    reverseHead := (g.goodSample c now inRun u d).reverseHead, saturated := (g.goodSample c now inRun u d).saturated
    volume := (g.goodSample c now inRun u d).volume, volumeEst := (g.goodSample c now inRun u d).volumeEst
    upHigh := (g.goodSample c now inRun u d).upHigh, upLow := (g.goodSample c now inRun u d).upLow
    downHigh := (g.goodSample c now inRun u d).downHigh } := by
  rw [Gate.goodSample_eq]
  cases inRun <;> rw [Gate.metered, Gate.computeFlow_eq] <;> rfl

/-- Metering computes the flow, and in RUN adds its volume. -/
theorem Gate.metered_flow : (g.metered c inRun hU hD).flow = (g.computeFlow c hU hD).flow ∧
    (g.metered c inRun hU hD).regime = (g.computeFlow c hU hD).regime ∧
    (g.metered c inRun hU hD).reverseHead = (g.computeFlow c hU hD).reverseHead ∧
    (g.metered c inRun hU hD).saturated = (g.computeFlow c hU hD).saturated := by
  cases inRun <;> exact ⟨rfl, rfl, rfl, rfl⟩

theorem Gate.metered_volume_running :
    (g.metered c true hU hD).volume = min (g.volume + (g.metered c true hU hD).flow * c.levels.sampleInterval) 4294967295 ∧
    (g.metered c true hU hD).volumeEst = (g.volumeEst || g.suspect) := by
  obtain ⟨hvolume, hest, hsuspect⟩ := Gate.computeFlow_leaves (c := c) (hU := hU) (hD := hD) (g := g)
  rw [← hvolume, ← hest, ← hsuspect, ← Bool.or_false (g.computeFlow c hU hD).volumeEst]
  exact ⟨rfl, rfl⟩

theorem Gate.metered_volume_waiting :
    (g.metered c false hU hD).volume = g.volume ∧ (g.metered c false hU hD).volumeEst = g.volumeEst := by
  obtain ⟨hvolume, hest, -⟩ := Gate.computeFlow_leaves (c := c) (hU := hU) (hD := hD) (g := g)
  exact ⟨hvolume, hest⟩

/-- The flow, the volume and the level window of a good sample. -/
theorem Gate.goodSample_measures (g : Gate) (c : Config.Settings) (now u d : Nat) (inRun : Bool) :
    let hU := (g.sighted u d).lastU
    let hD := (g.sighted u d).lastD
    let x := g.goodSample c now inRun u d
    let q := g.computeFlow c hU hD
    (x.flow = q.flow ∧ x.regime = q.regime ∧ x.reverseHead = q.reverseHead ∧ x.saturated = q.saturated) ∧
    (inRun = true → x.volume = min (g.volume + x.flow * c.levels.sampleInterval) 4294967295 ∧
      x.volumeEst = (g.volumeEst || g.suspect)) ∧
    (inRun = false → x.volume = g.volume ∧ x.volumeEst = g.volumeEst) ∧
    x.upHigh = decide (c.levels.upHigh < hU) ∧ x.upLow = decide (hU < c.levels.minimum) ∧ x.downHigh = decide (c.levels.downHigh < hD) := by
  intro hU hD x q
  have hx : x = ((g.sampleAimed c now u d).metered c inRun hU hD).judgeWindow c hU hD := Gate.goodSample_eq inRun u d
  obtain ⟨hposition, hvolume, hest, hsuspect, -⟩ := Gate.sampleAimed_leaves (c := c) (now := now) (u := u) (d := d) (g := g)
  obtain ⟨hflow, hregime, hreverse, hsaturated⟩ := Gate.computeFlow_congr (hU := hU) (hD := hD) hposition
  obtain ⟨hflow', hregime', hreverse', hsaturated'⟩ :=
    Gate.metered_flow (c := c) (inRun := inRun) (hU := hU) (hD := hD) (g := g.sampleAimed c now u d)
  rw [hx, ← hvolume, ← hest, ← hsuspect]
  refine ⟨⟨hflow'.trans hflow, hregime'.trans hregime, hreverse'.trans hreverse, hsaturated'.trans hsaturated⟩, fun h => ?_, fun h => ?_,
    rfl, rfl, rfl⟩
  · subst h
    exact Gate.metered_volume_running
  · subst h
    exact Gate.metered_volume_waiting

/-- A gate that a sample has written: the flow, the volume, the level window and the drive may differ from `g`. -/
def Gate.SampleWrites (g x : Gate) : Prop := x = { g with
  flow := x.flow, regime := x.regime, reverseHead := x.reverseHead, saturated := x.saturated
  volume := x.volume, volumeEst := x.volumeEst, upHigh := x.upHigh, upLow := x.upLow
  downHigh := x.downHigh, drive := x.drive, restStart := x.restStart, stallStart := x.stallStart
  lastOff := x.lastOff }

theorem Gate.SampleWrites.enter (h : g.SampleWrites g') (drive : Drive) : g.SampleWrites (g'.enter now drive) := by
  unfold Gate.SampleWrites at h ⊢
  rw [h]
  rfl

theorem Gate.sampleWrites_goodSample : (g.sampleAimed c now u d).SampleWrites (g.goodSample c now inRun u d) := by
  rw [Gate.goodSample_writes]
  rfl

/-- Before a trip is judged, the drive is that of the target. -/
theorem Gate.goodSample_drive : (g.goodSample c now inRun u d).drive = (g.sampleAimed c now u d).drive ∧
    (g.goodSample c now inRun u d).restStart = (g.sampleAimed c now u d).restStart ∧
    (g.goodSample c now inRun u d).stallStart = (g.sampleAimed c now u d).stallStart ∧
    (g.goodSample c now inRun u d).lastOff = (g.sampleAimed c now u d).lastOff := by
  rw [Gate.goodSample_writes]
  exact ⟨rfl, rfl, rfl, rfl⟩

/-- The averaged upstream level is that of the sample's window. -/
theorem Gate.goodSample_hU : (g.goodSample c now inRun u d).hU = some (g.sighted u d).lastU := by
  have hwindow := Gate.goodSample_window (c := c) (now := now) (g := g) inRun u d
  rw [Gate.hU_of_ne_nil (hwindow ▸ joinWindow_ne_nil _ _), hwindow, Gate.sighted_eq]

/-- Whether a trip is in force, and TRIP, are as the sample found them. -/
theorem Gate.goodSample_leaves : (g.goodSample c now inRun u d).drive.isTripped = g.drive.isTripped ∧
    (g.goodSample c now inRun u d).tripIn = g.tripIn := by
  obtain ⟨-, -, -, -, htripIn, htripped⟩ := Gate.sampleAimed_leaves (c := c) (now := now) (u := u) (d := d) (g := g)
  rw [Gate.goodSample_writes]
  exact ⟨htripped, htripIn⟩

/-- A good sample finds a trip cause: TRIP, or an average above the upstream high level (R110). -/
theorem Gate.goodSample_tripCause_iff : (g.goodSample c now inRun u d).tripCause c = true ↔
    g.tripIn = true ∨ (c.levels.levelTrip = true ∧ c.levels.upHigh < (g.sighted u d).lastU) := by
  rw [Gate.tripCause_iff, Gate.goodSample_hU, Gate.goodSample_leaves.2]
  simp

/-- A condition of the level window has become set (R98). -/
theorem Gate.windowRaised_iff : g.windowRaised g' = true ↔ (g'.upHigh = true ∧ g.upHigh = false) ∨
    (g'.upLow = true ∧ g.upLow = false) ∨ (g'.downHigh = true ∧ g.downHigh = false) := by
  simp [Gate.windowRaised, or_assoc]

/-! ## A missed sample (R93, R94) -/

/-- The count of a missed sample, before LEVEL_FAULT is judged. -/
theorem Gate.missCounted_eq : g.missCounted c inRun = { g with
    missed := min (g.missed + 1) 3, volume := (g.missCounted c inRun).volume, volumeEst := (g.missCounted c inRun).volumeEst } := by
  cases inRun <;> rfl

/-- The held volume of a missed sample in RUN is estimated (R96). -/
theorem Gate.missCounted_volume : (g.missCounted c true).volume = min (g.volume + g.flow * c.levels.sampleInterval) 4294967295 ∧
    (g.missCounted c true).volumeEst = true := by
  refine ⟨rfl, ?_⟩
  change (g.volumeEst || true || g.suspect) = true
  simp

/-- The third missed sample in a row, with LEVEL_FAULT clear. -/
theorem Gate.missedSample_of_third (hthird : 3 ≤ g.missed + 1) (hfault : g.levelFault = false) : g.missedSample c now inRun =
    Gate.startRule c now { g.missCounted c inRun with levelFault := true, window := [] } := by
  rw [Gate.missedSample_eq]
  refine if_pos ?_
  rw [Gate.missCounted_eq]
  exact ⟨Nat.min_eq_right hthird, congrArg not hfault⟩

/-- With LEVEL_FAULT set the start rule starts none in AUTO. -/
theorem Gate.startRule_drive_of_fault (h : g.levelFault = true) : (g.startRule c now).drive =
    if g.drive ≠ .stopped ∨ g.supplyLow = true ∨ g.mode = .auto then g.drive
    else if g.position c + c.levels.deadband < g.target ∧ g.limOpen = false then .opening
    else if g.target + c.levels.deadband < g.position c ∧ g.limClosed = false then .closing else .stopped := by
  by_cases hstopped : g.drive = .stopped
  · rw [Gate.startRule_drive hstopped]
    simp [Gate.ruleDrive, h, hstopped]
  · rw [Gate.startRule_drive_of_ne hstopped, if_pos (.inl hstopped)]

theorem Gate.missedSample_of_other (h : ¬(3 ≤ g.missed + 1 ∧ g.levelFault = false)) :
    g.missedSample c now inRun = g.missCounted c inRun := by
  rw [Gate.missedSample_eq]
  refine if_neg ?_
  rw [Gate.missCounted_eq]
  rintro ⟨hthird, hfault⟩
  exact h ⟨by dsimp only at hthird; omega, by simpa using hfault⟩

/-- What a missed sample leaves (R93). -/
theorem Gate.missedSample_leaves (g : Gate) (c : Config.Settings) (now : Nat) (inRun : Bool) :
    let x := g.missedSample c now inRun
    x.missed = min (g.missed + 1) 3 ∧ x.flow = g.flow ∧ x.sampleWatch = g.sampleWatch ∧ x.lastU = g.lastU ∧ x.lastD = g.lastD ∧
    x.reverseHead = g.reverseHead ∧ x.saturated = g.saturated ∧ x.target = g.target ∧ x.counts = g.counts ∧
    x.volume = (g.missCounted c inRun).volume ∧ x.volumeEst = (g.missCounted c inRun).volumeEst := by
  intro x
  by_cases h : 3 ≤ g.missed + 1 ∧ g.levelFault = false
  · have hx : x = _ := Gate.missedSample_of_third h.1 h.2
    rw [hx, Gate.startRule_eq, Gate.missCounted_eq]
    exact ⟨rfl, rfl, rfl, rfl, rfl, rfl, rfl, rfl, rfl, rfl, rfl⟩
  · have hx : x = _ := Gate.missedSample_of_other h
    rw [hx, Gate.missCounted_eq]
    exact ⟨rfl, rfl, rfl, rfl, rfl, rfl, rfl, rfl, rfl, rfl, rfl⟩

end

section

variable {s : State} {u d : Nat}

/-! ## The two commands (R91) -/

theorem exec_levelSample_good {record : List Byte} (hw : s.working = true) (h : readSample record = some (u, d)) :
    exec (.levelSample record) s = .next (s.settleGate.restartWatch.takeSample u d) := by
  refine (if_pos hw).trans ?_
  simp only [h]

theorem exec_levelSample_bad {record : List Byte} (hw : s.working = true) (h : readSample record = none) :
    exec (.levelSample record) s = .next s.settleGate.restartWatch.missSample := by
  refine (if_pos hw).trans ?_
  simp only [h]

theorem exec_sampleWatchExpiry (hw : s.working = true) {x : Nat} (hx : s.gate.sampleWatch = some x)
    (hend : x + s.settings.levels.sampleInterval * 1000 ≤ s.time.elapsed) :
    exec .sampleWatchExpiry s = .next s.settleGate.restartWatch.missSample := if_pos (State.expired_iff.2 ⟨hw, x, hx, hend⟩)

/-- The gate after a good sample, before a trip is judged. -/
@[irreducible] def State.sampledGate (s : State) (u d : Nat) : Gate := s.gate.goodSample s.settings s.time.elapsed s.running u d

theorem State.sampledGate_eq : s.sampledGate u d = s.gate.goodSample s.settings s.time.elapsed s.running u d := by
  rw [State.sampledGate]

/-- The alerts after a good sample: LEVEL_WINDOW by its conditions (R98). -/
def State.sampledAlerts (s : State) (u d : Nat) : Alerts :=
  s.alerts.raiseIf (s.gate.windowRaised (s.sampledGate u d)) .levelWindow

theorem State.hasCause_sampledAlerts {x : Cause} : hasCause (s.sampledAlerts u d).pending x = true ↔ hasCause s.alerts.pending x = true ∨
    (x = .levelWindow ∧ (((s.sampledGate u d).upHigh = true ∧ s.gate.upHigh = false) ∨
      ((s.sampledGate u d).upLow = true ∧ s.gate.upLow = false) ∨ ((s.sampledGate u d).downHigh = true ∧ s.gate.downHigh = false))) := by
  rw [State.sampledAlerts, Alerts.hasCause_raiseIf, Bool.or_eq_true, Bool.and_eq_true, Gate.windowRaised_iff, decide_eq_true_iff,
    and_comm (b := x = .levelWindow)]

/-- The state after a good sample, before a trip is judged. -/
def State.sampled (s : State) (u d : Nat) : State := (s.withGate (s.sampledGate u d)).withAlerts (s.sampledAlerts u d)

theorem State.takeSample_eq : s.takeSample u d =
    if (s.sampledGate u d).tripCause s.settings then (s.sampled u d).tripOnset else s.sampled u d := by
  unfold State.takeSample
  dsimp only
  rw [State.raiseIf_eq, State.sampled, State.sampledAlerts, State.sampledGate_eq]
  rfl

/-- A good sample that begins a trip (R110). -/
theorem State.takeSample_of_onset (hcause : (s.sampledGate u d).tripCause s.settings = true)
    (htripped : (s.sampledGate u d).drive.isTripped = false) : s.takeSample u d =
      { s with gate := (s.sampledGate u d).enter s.time.elapsed (.tripped .waiting), alerts := (s.sampledAlerts u d).raise .gateTrip } := by
  rw [State.takeSample_eq, if_pos hcause]
  exact State.tripOnset_of_not_tripped htripped

/-- A good sample that begins none. -/
theorem State.takeSample_of_none
    (h : ¬((s.sampledGate u d).drive.isTripped = false ∧ (s.sampledGate u d).tripCause s.settings = true)) :
    s.takeSample u d = { s with gate := s.sampledGate u d, alerts := s.sampledAlerts u d } := by
  rw [State.takeSample_eq]
  by_cases hcause : (s.sampledGate u d).tripCause s.settings = true
  · rw [if_pos hcause]
    exact State.tripOnset_of_tripped (eq_true_of_ne_false fun htripped => h ⟨htripped, hcause⟩)
  · exact if_neg hcause

/-- A missed sample writes the gate and its alert. -/
theorem State.missSample_writes : s.missSample = { s with
    gate := s.gate.missedSample s.settings s.time.elapsed s.running
    alerts := { s.alerts with pending := s.missSample.alerts.pending } } := by
  unfold State.missSample
  dsimp only
  rw [State.raiseIf_eq, Alerts.raiseIf_eq]
  rfl

/-- The third missed sample sets LEVEL_FAULT, with its alert. -/
theorem State.missSample_of_third (hthird : 3 ≤ s.gate.missed + 1) (hfault : s.gate.levelFault = false) : s.missSample =
    { s with
      gate := Gate.startRule s.settings s.time.elapsed
        { s.gate.missCounted s.settings s.running with levelFault := true, window := [] }
      alerts := s.alerts.raise .levelFault } := by
  have hgate := Gate.missedSample_of_third (c := s.settings) (now := s.time.elapsed) (inRun := s.running) hthird hfault
  unfold State.missSample
  rw [State.changeGate, hgate]
  refine State.raiseIf_true ?_
  rw [State.withGate_gate, Gate.startRule_eq, hfault]
  rfl

theorem State.missSample_of_other (h : ¬(3 ≤ s.gate.missed + 1 ∧ s.gate.levelFault = false)) :
    s.missSample = s.withGate (s.gate.missCounted s.settings s.running) := by
  have hgate := Gate.missedSample_of_other (c := s.settings) (now := s.time.elapsed) (inRun := s.running) h
  unfold State.missSample
  rw [State.changeGate, hgate]
  refine State.raiseIf_false ?_
  rw [State.withGate_gate, Gate.missCounted_eq, Bool.and_not_self]

end

/-- Settles O55: the record, the gate's waiting event, a good sample, and a missed one by either command. -/
theorem levelSamples : Obligations.LevelSamples := by
  refine ⟨fun record u d => readSample_eq_some_iff, fun s => ⟨?idle, fun e hrun hinbox hready => ⟨?again, ?opened⟩, fun hrun => ?running⟩,
    fun s₀ record u d hw hread => ?good, fun s₀ i hw hmissed => ?missed⟩
  case idle => exact fun h => h.elim State.settleGate_of_not_running s.settleGate_none
  case again => exact State.settleGate_of_again hrun hinbox hready
  case opened => exact State.settleGate_of_open hrun hinbox hready
  case running => exact if_pos hrun
  case good =>
    intro s g c now w seen aimed onset
    let v := s.restartWatch
    have hexec : exec (.levelSample record) s₀ = .next (v.takeSample u d) := exec_levelSample_good hw hread
    have hseen : v.gate.sighted u d = seen := by
      rw [Gate.sighted_eq, joinWindow_eq]
      rfl
    have haimed : v.gate.sampleAimed v.settings v.time.elapsed u d = aimed := by
      unfold Gate.sampleAimed
      rw [hseen]
      rfl
    have hrunning : v.running = decide (s.startup.state = .run) :=
      State.running_eq_of_working (s := v) (State.settleGate_working hw)
    have hinRun (hstate : s.startup.state = .run) : v.running = true := hrunning.trans (decide_eq_true hstate)
    have hnotRun (hstate : s.startup.state = .waitTime) : v.running = false := by
      rw [hrunning, hstate]
      rfl
    have hmeasures := v.gate.goodSample_measures v.settings v.time.elapsed u d v.running
    have hwrites := Gate.sampleWrites_goodSample (c := v.settings) (now := v.time.elapsed) (u := u) (d := d) (inRun := v.running)
      (g := v.gate)
    have hdrives := Gate.goodSample_drive (c := v.settings) (now := v.time.elapsed) (u := u) (d := d) (inRun := v.running)
      (g := v.gate)
    simp only [← State.sampledGate_eq, hseen, haimed] at hmeasures hwrites hdrives
    obtain ⟨⟨hflow, hregime, hreverse, hsaturated⟩, hrun, hwait, hupHigh, hupLow, hdownHigh⟩ := hmeasures
    obtain ⟨hdrive, hrest, hstall, hoff⟩ := hdrives
    obtain ⟨hflow', hregime', hreverse', hsaturated'⟩ :=
      Gate.computeFlow_congr (c := c) (g' := v.gate) (g := g) (hU := seen.lastU) (hD := seen.lastD) rfl
    have honset : onset ↔ (v.sampledGate u d).drive.isTripped = false ∧ (v.sampledGate u d).tripCause v.settings = true := by
      rw [State.sampledGate_eq, Gate.goodSample_tripCause_iff, Gate.goodSample_leaves.1, hseen]
      rfl
    have halerts : v.sampledAlerts u d = { s.alerts with pending := (v.sampledAlerts u d).pending } := Alerts.raiseIf_eq ..
    by_cases h : onset
    · obtain ⟨htripped, hcause⟩ := honset.1 h
      refine ⟨_, hexec.trans (congrArg _ (State.takeSample_of_onset hcause htripped)), ?_, hwrites.enter _,
        ⟨hflow.trans hflow', hregime.trans hregime', hreverse.trans hreverse', hsaturated.trans hsaturated'⟩,
        fun hstate => hrun (hinRun hstate), fun hstate => hwait (hnotRun hstate), hupHigh, hupLow, hdownHigh,
        fun _ => ⟨rfl, rfl, rfl, ?_⟩, fun hno => absurd h hno, fun x => ?_⟩
      · rw [halerts]
        rfl
      · rw [Gate.enter_of_off rfl, ← hdrive, ← hoff]
        rfl
      · have hbegun : x = .gateTrip ∧ onset ↔ x = .gateTrip := and_iff_left h
        rw [hasCause_raise, Bool.or_eq_true, State.hasCause_sampledAlerts, decide_eq_true_iff, or_assoc, or_comm (b := x = .gateTrip),
          hbegun]
        rfl
    · refine ⟨_, hexec.trans (congrArg _ (State.takeSample_of_none (mt honset.2 h))), ?_, hwrites,
        ⟨hflow.trans hflow', hregime.trans hregime', hreverse.trans hreverse', hsaturated.trans hsaturated'⟩,
        fun hstate => hrun (hinRun hstate), fun hstate => hwait (hnotRun hstate), hupHigh, hupLow, hdownHigh,
        fun hon => absurd hon h, fun _ => ⟨hdrive, hrest, hstall, hoff⟩, fun x => ?_⟩
      · rw [halerts]
        rfl
      · have hnone : ¬(x = .gateTrip ∧ onset) := fun hx => h hx.2
        rw [State.hasCause_sampledAlerts, or_iff_right (a := x = .gateTrip ∧ onset) hnone]
        rfl
  case missed =>
    intro s third
    have hexec : exec i s₀ = .next s.restartWatch.missSample := by
      rcases hmissed with ⟨record, rfl, hread⟩ | ⟨rfl, x, hx, hend⟩
      · exact exec_levelSample_bad hw hread
      · exact exec_sampleWatchExpiry hw hx hend
    have hgate : s.restartWatch.missSample.gate = s.restartWatch.gate.missedSample s.settings s.time.elapsed s.running :=
      congrArg State.gate State.missSample_writes
    obtain ⟨hcount, hflow, hwatch, hlastU, hlastD, hreverse, hsaturated, htarget, hcounts, hvolume, hest⟩ :=
      hgate ▸ s.restartWatch.gate.missedSample_leaves s.settings s.time.elapsed s.running
    refine ⟨_, hexec, ?_, hcount, hflow, hwatch, hlastU, hlastD, hreverse, hsaturated, htarget, hcounts, fun hrun => ?_,
      fun hthird => ?_, fun hother => ?_⟩
    · rw [hgate]
      exact State.missSample_writes
    · have hrunning : s.running = true := by
        rw [State.running_eq_of_working (State.settleGate_working hw)]
        exact decide_eq_true hrun
      rw [hvolume, hest, hrunning]
      exact Gate.missCounted_volume
    · rw [State.missSample_of_third (s := s.restartWatch) hthird.1 hthird.2]
      refine ⟨?_, ?_, rfl, ?_⟩
      · dsimp only
        rw [Gate.startRule_eq]
      · dsimp only
        rw [Gate.startRule_eq]
      · refine (Gate.startRule_drive_of_fault rfl).trans ?_
        rw [Gate.missCounted_eq]
        rfl
    · rw [State.missSample_of_other (s := s.restartWatch) hother, Gate.missCounted_eq]
      exact ⟨rfl, rfl, rfl, rfl⟩

end Sys2Proof.Machine
end
